-- ==== Sys2Proof/Word.lean ====
section
/-!
DEFINITION. The words of the NMN-6540 and the index types of its units (00_scope.md, "The three levels").
-/
namespace Sys2Proof

/-- One byte (R6). -/
abbrev Byte := BitVec 8
/-- A 32-bit register or sequencer word. -/
abbrev Word := BitVec 32
/-- A 64-bit register, scalar register or slot word. -/
abbrev DWord := BitVec 64
/-- One 64-byte ring line (R146). -/
abbrev Line := BitVec 512
/-- One tensor descriptor (R57). -/
abbrev Desc := BitVec 256
/-- One 32-byte DRAM column's data (R91). -/
abbrev Column := BitVec 256

/-- Compute cores C0-C7. -/
abbrev CoreId := Fin 8
/-- Sequencer cores Q0-Q15. -/
abbrev SeqId := Fin 16
/-- Pillars P0-P15 and their controllers PC0-PC15. -/
abbrev PillarId := Fin 16
/-- Dies D0-D15 and the SPARE die 16 of a pillar. -/
abbrev DieId := Fin 17
/-- Banks B0-B255 of a die. -/
abbrev BankId := Fin 256
/-- Command rings: 0-7 the cores' own rings, 8 the urgent ring (R11, R146). -/
abbrev RingId := Fin 9
/-- Partitions 0-7 (R421). -/
abbrev PartId := Fin 8

/-- Bits [hi:lo] of a natural number, as a number. -/
def bits (x hi lo : Nat) : Nat := (x >>> lo) % 2 ^ (hi + 1 - lo)

/-- Bit `n` of a natural number. -/
def bit (x n : Nat) : Bool := (x >>> n) % 2 == 1

/-- A Boolean as 0 or 1. -/
def b2n (b : Bool) : Nat := if b then 1 else 0

/-- Division rounded up. -/
def ceilDiv (a b : Nat) : Nat := (a + b - 1) / b

/-- A two's-complement reading of the low `w` bits of a number. -/
def sext (w x : Nat) : Int :=
  let y := x % 2 ^ w
  if y < 2 ^ (w - 1) then (y : Int) else (y : Int) - (2 ^ w : Nat)

/-- The two's-complement encoding of an integer in `w` bits. -/
def toTwos (w : Nat) (x : Int) : Nat := (x % ((2 ^ w : Nat) : Int)).toNat

/-- A number's `n` bytes, lowest first (R6). -/
def leBytes (x : Nat) : Nat → List Byte
  | 0 => []
  | n + 1 => BitVec.ofNat 8 x :: leBytes (x >>> 8) n

/-- The number that bytes spell, lowest first (R6). -/
def ofBytes : List Byte → Nat
  | [] => 0
  | b :: bs => b.toNat + ofBytes bs <<< 8

end Sys2Proof
end

