-- ==== Sys2Proof/Syntax.lean ====
section
/-!
DEFINITION. The commands of the block: one constructor of `Instr` per row of spec/opcode_table.json.
-/
namespace Sys2Proof

/-- The two host ports (R316). -/
inductive Port where
  | ha | hb
deriving DecidableEq, Repr

/-- A port's number: 0 HA, 1 HB. -/
def Port.num : Port → Nat
  | .ha => 0
  | .hb => 1

/-- Who makes a BAR0 access (R517): a port, a sequencer or the MC. -/
inductive Requester where
  | port (p : Port)
  | seq (q : SeqId)
  | mc
deriving DecidableEq, Repr

/-- Where a word that opens, closes, reads or writes rows comes from (R292): a request port (0-7 the cores' loads and
stores, 8 the spare-die copy and the MC), or a command sequence of the bank engine in either lane. -/
inductive BusSource where
  | port (p : Fin 9)
  | normal
  | urgent
deriving DecidableEq, Repr

/-- Whether a request port is the source: RD and WR come from no other (R292). -/
def BusSource.ordinary : BusSource → Bool
  | .port _ => true
  | .normal => false
  | .urgent => false

/-- A command word with where it comes from. -/
structure BusWord where
  src : BusSource
  word : BitVec 64
deriving DecidableEq, Repr

/-- What a die returns when it is brought up (R305): its identity word, none where it does not answer, and which of the
288 bits it reads back differ from the column that was written to it. -/
structure DieAnswer where
  identity : Option (BitVec 32)
  readBack : BitVec 288
deriving DecidableEq, Repr

/-- The two lanes of an engine (R17). -/
inductive Lane where
  | normal | urgent
deriving DecidableEq, Repr

/-- 0 for the normal lane, 1 for the urgent one. -/
def Lane.num : Lane → Nat
  | .normal => 0
  | .urgent => 1

/-- The seven engines of a core, in the order of their index (R166). -/
inductive Engine where
  | sca | vec | mtx | bnk | lde | ste | syn
deriving DecidableEq, Repr

/-- The engine index e (R166). -/
def Engine.num : Engine → Nat
  | .sca => 0 | .vec => 1 | .mtx => 2 | .bnk => 3 | .lde => 4 | .ste => 5 | .syn => 6

/-- The apertures a host access can name (R321, R322). -/
inductive Aperture where
  | hdm | bar0 | bar2 | bar4
deriving DecidableEq, Repr

/-- One host access, judged by R350: where it goes, whether it writes, its size in bytes, and for BAR4 the PBR
identifier it comes from. -/
structure HostAccess where
  aperture : Aperture
  write : Bool
  off : BitVec 32
  size : Nat
  source : BitVec 12
deriving DecidableEq, Repr

/-- What an IDE key-management message programs (R320): the port's selective stream or its link stream, skid mode or
containment mode, and the key. -/
structure IdeKey where
  selective : Bool
  skid : Bool
  key : List Byte
deriving DecidableEq, Repr

/-- How the host answers one memory read request of a transfer (R200). -/
inductive HostReadResult where
  | data (bytes : List Byte)
  | unsupported
  | abort
  | poisoned
deriving DecidableEq, Repr

/-- One peer message (R352, R353), its payload as it stands once decrypted and its tag as it was sent. `format` is the
FORMAT of the descriptor that the access goes through, which the owning module compares (R85; DEDUCED, log entry 16). -/
structure PeerMsg where
  source : Fin 8
  pbrid : BitVec 12
  core : CoreId
  handle : BitVec 9
  path : CoreId
  key : Fin 4
  counter : BitVec 32
  coords : List Nat
  sizes : List Nat
  request : Nat
  payload : List Byte
  format : BitVec 4
  tag : BitVec 128
deriving DecidableEq, Repr

/-- The commands. -/
inductive Instr where
  -- Host ring interface and dispatcher
  /-- `RING_LINE_WRITE` (R328). -/
  | ringLineWrite (port : Port) (off : BitVec 30) (data : List Byte)
  /-- `HOST_VIOLATION` (R350). -/
  | hostViolation (port : Port) (access : HostAccess)
  /-- `RESULT_WINDOW_WRITE` (R329). -/
  | resultWindowWrite (port : Port) (off : BitVec 25) (data : List Byte)
  /-- `LINE_TAKE` (R150). -/
  | lineTake (ring : RingId)
  /-- `CREDIT_RECORD_WRITE` (R342). -/
  | creditRecordWrite (ring : RingId)
  /-- `DISPATCH` (R160). -/
  | dispatch (core : CoreId)
  /-- `LOOP_LINE_FETCH` (R167). -/
  | loopLineFetch (core : CoreId)
  /-- `FENCE_ITEM_COMPLETE` (R164). -/
  | fenceItemComplete (ring : RingId)
  /-- `COMPLETION_POST` (R170). -/
  | completionPost (ring : RingId)
  /-- `RING_FLUSH` (R177). -/
  | ringFlush (req : Requester) (ring : RingId)
  -- Core control and loop memory
  /-- `CORE_STOP` (R176). -/
  | coreStop (req : Requester) (core : CoreId)
  /-- `CORE_RESUME` (R176). -/
  | coreResume (req : Requester) (core : CoreId)
  /-- `QFLUSH` (R178). -/
  | qflush (req : Requester) (core : CoreId)
  /-- `LOOPMEM_OPEN` (R168). -/
  | loopmemOpen (req : Requester) (core : CoreId) (halfB : Bool) (force : Bool)
  /-- `LOOPMEM_CLOSE` (R168). -/
  | loopmemClose (req : Requester) (core : CoreId)
  /-- `LMDATA_WRITE` (R168). -/
  | lmdataWrite (req : Requester) (core : CoreId) (value : BitVec 32)
  /-- `REGISTER_WRITE` (R7). -/
  | registerWrite (req : Requester) (off : BitVec 26) (bytes : Nat) (value : BitVec 64)
  /-- `SRSEED_WRITE` (R46). -/
  | srseedWrite (req : Requester) (core : CoreId) (lane : Lane) (value : BitVec 32)
  /-- `VRSEED_WRITE` (R214). -/
  | vrseedWrite (req : Requester) (core : CoreId) (lane : Lane) (value : BitVec 32)
  -- Scalar engine
  /-- `S_ADD` (R182). -/
  | sAdd (core : CoreId) (lane : Lane)
  /-- `S_SUB` (R182). -/
  | sSub (core : CoreId) (lane : Lane)
  /-- `S_MUL` (R182). -/
  | sMul (core : CoreId) (lane : Lane)
  /-- `S_AND` (R182). -/
  | sAnd (core : CoreId) (lane : Lane)
  /-- `S_OR` (R182). -/
  | sOr (core : CoreId) (lane : Lane)
  /-- `S_XOR` (R182). -/
  | sXor (core : CoreId) (lane : Lane)
  /-- `S_SHL` (R182). -/
  | sShl (core : CoreId) (lane : Lane)
  /-- `S_SHR` (R182). -/
  | sShr (core : CoreId) (lane : Lane)
  /-- `S_SRA` (R182). -/
  | sSra (core : CoreId) (lane : Lane)
  /-- `S_MIN` (R182). -/
  | sMin (core : CoreId) (lane : Lane)
  /-- `S_MAX` (R182). -/
  | sMax (core : CoreId) (lane : Lane)
  /-- `S_MINU` (R182). -/
  | sMinu (core : CoreId) (lane : Lane)
  /-- `S_MAXU` (R182). -/
  | sMaxu (core : CoreId) (lane : Lane)
  /-- `S_SLT` (R182). -/
  | sSlt (core : CoreId) (lane : Lane)
  /-- `S_SLTU` (R182). -/
  | sSltu (core : CoreId) (lane : Lane)
  /-- `S_SEQ` (R182). -/
  | sSeq (core : CoreId) (lane : Lane)
  /-- `S_ADDI` (R182). -/
  | sAddi (core : CoreId) (lane : Lane)
  /-- `S_SUBI` (R182). -/
  | sSubi (core : CoreId) (lane : Lane)
  /-- `S_MULI` (R182). -/
  | sMuli (core : CoreId) (lane : Lane)
  /-- `S_ANDI` (R182). -/
  | sAndi (core : CoreId) (lane : Lane)
  /-- `S_ORI` (R182). -/
  | sOri (core : CoreId) (lane : Lane)
  /-- `S_XORI` (R182). -/
  | sXori (core : CoreId) (lane : Lane)
  /-- `S_SHLI` (R182). -/
  | sShli (core : CoreId) (lane : Lane)
  /-- `S_SHRI` (R182). -/
  | sShri (core : CoreId) (lane : Lane)
  /-- `S_SRAI` (R182). -/
  | sSrai (core : CoreId) (lane : Lane)
  /-- `S_MINI` (R182). -/
  | sMini (core : CoreId) (lane : Lane)
  /-- `S_MAXI` (R182). -/
  | sMaxi (core : CoreId) (lane : Lane)
  /-- `S_MINUI` (R182). -/
  | sMinui (core : CoreId) (lane : Lane)
  /-- `S_MAXUI` (R182). -/
  | sMaxui (core : CoreId) (lane : Lane)
  /-- `S_SLTI` (R182). -/
  | sSlti (core : CoreId) (lane : Lane)
  /-- `S_SLTUI` (R182). -/
  | sSltui (core : CoreId) (lane : Lane)
  /-- `S_SEQI` (R182). -/
  | sSeqi (core : CoreId) (lane : Lane)
  /-- `S_LD` (R183). -/
  | sLd (core : CoreId) (lane : Lane)
  /-- `S_ST` (R183). -/
  | sSt (core : CoreId) (lane : Lane)
  /-- `S_DESC` (R58). -/
  | sDesc (core : CoreId) (lane : Lane)
  /-- `S_DCLR` (R182). -/
  | sDclr (core : CoreId) (lane : Lane)
  -- Load and store engines
  /-- `LD_BOX` (R188). -/
  | ldBox (core : CoreId) (lane : Lane)
  /-- `ST_BOX` (R188). -/
  | stBox (core : CoreId) (lane : Lane)
  /-- `LD_GATHER` (R83). -/
  | ldGather (core : CoreId) (lane : Lane)
  /-- `ST_SCATTER` (R83). -/
  | stScatter (core : CoreId) (lane : Lane)
  /-- `LD_INDEX` (R191). -/
  | ldIndex (core : CoreId) (lane : Lane)
  /-- `ST_INDEX` (R191). -/
  | stIndex (core : CoreId) (lane : Lane)
  /-- `LD_LIN` (R193). -/
  | ldLin (core : CoreId) (lane : Lane)
  /-- `ST_LIN` (R193). -/
  | stLin (core : CoreId) (lane : Lane)
  /-- `LD_SCALE` (R194). -/
  | ldScale (core : CoreId) (lane : Lane)
  /-- `ST_SCALE` (R194). -/
  | stScale (core : CoreId) (lane : Lane)
  /-- `ST_KVIMPORT` (R195). -/
  | stKvimport (core : CoreId) (lane : Lane)
  /-- `HOST_READ_COMPLETION` (R200). -/
  | hostReadCompletion (core : CoreId) (store : Bool) (lane : Lane) (request : Nat) (result : HostReadResult)
  /-- `TRANSFER_HOST_TIMEOUT` (R200). -/
  | transferHostTimeout (core : CoreId) (engine : Engine) (lane : Lane)
  /-- `TRANSFER_COMPLETE` (R201). -/
  | transferComplete (core : CoreId) (store : Bool) (lane : Lane)
  -- Vector and matrix engines
  /-- `V_CHAIN` (R210). -/
  | vChain (core : CoreId) (lane : Lane)
  /-- `V_REDUCE` (R215). -/
  | vReduce (core : CoreId) (lane : Lane)
  /-- `V_PERM` (R216). -/
  | vPerm (core : CoreId) (lane : Lane)
  /-- `V_SHUF` (R217). -/
  | vShuf (core : CoreId) (lane : Lane)
  /-- `V_PACK` (R219). -/
  | vPack (core : CoreId) (lane : Lane)
  /-- `V_UNPACK` (R219). -/
  | vUnpack (core : CoreId) (lane : Lane)
  /-- `VEC_ENTRY_COMPLETE` (R221). -/
  | vecEntryComplete (core : CoreId) (lane : Lane)
  /-- `M_MM` (R222). -/
  | mMm (core : CoreId) (lane : Lane)
  /-- `MTX_ENTRY_COMPLETE` (R226). -/
  | mtxEntryComplete (core : CoreId) (lane : Lane)
  /-- `MTX_TILE_WRITE` (R226). -/
  | mtxTileWrite (core : CoreId) (lane : Lane)
  -- Sync engine and counters
  /-- `Y_SIGNAL` (R260). -/
  | ySignal (core : CoreId) (lane : Lane)
  /-- `Y_WAIT` (R260). -/
  | yWait (core : CoreId) (lane : Lane)
  /-- `Y_TAKE` (R268). -/
  | yTake (core : CoreId) (lane : Lane)
  /-- `Y_BAR` (R274). -/
  | yBar (core : CoreId) (lane : Lane)
  /-- `Y_RSIG` (R273). -/
  | yRsig (core : CoreId) (lane : Lane)
  /-- `WAIT_TIMEOUT` (R278). -/
  | waitTimeout (core : CoreId) (engine : Engine) (lane : Lane)
  /-- `HSIG_WRITE` (R283). -/
  | hsigWrite (req : Requester) (value : BitVec 32)
  /-- `CTR_VAL_WRITE` (R281). -/
  | ctrValWrite (req : Requester) (ctr : BitVec 13) (value : BitVec 32)
  /-- `CTR_CFG_WRITE` (R281). -/
  | ctrCfgWrite (req : Requester) (ctr : BitVec 13) (value : BitVec 32)
  -- Bank engine
  /-- `BV_GEMV` (R125). -/
  | bvGemv (core : CoreId) (lane : Lane)
  /-- `BV_QK` (R126). -/
  | bvQk (core : CoreId) (lane : Lane)
  /-- `BV_PV` (R127). -/
  | bvPv (core : CoreId) (lane : Lane)
  /-- `BV_KVAPPEND` (R128). -/
  | bvKvappend (core : CoreId) (lane : Lane)
  /-- `BR_COPY` (R129). -/
  | brCopy (core : CoreId) (lane : Lane)
  /-- `BR_INIT` (R129). -/
  | brInit (core : CoreId) (lane : Lane)
  /-- `BR_AND` (R129). -/
  | brAnd (core : CoreId) (lane : Lane)
  /-- `BR_OR` (R129). -/
  | brOr (core : CoreId) (lane : Lane)
  /-- `BR_XOR` (R129). -/
  | brXor (core : CoreId) (lane : Lane)
  /-- `BR_NOT` (R129). -/
  | brNot (core : CoreId) (lane : Lane)
  /-- `BV_FENCE` (R141). -/
  | bvFence (core : CoreId) (lane : Lane)
  /-- `BV_FENCE_COMPLETE` (R141). -/
  | bvFenceComplete (core : CoreId) (lane : Lane)
  /-- `DRAIN_ENTRY_ARRIVE` (R104). -/
  | drainEntryArrive (gbid : BitVec 16)
  /-- `BANK_OP_REDUCED` (R139). -/
  | bankOpReduced (ticket : BitVec 12)
  -- Bank lane units and dies
  /-- `ARM` (R89). -/
  | arm (pillar : PillarId) (word : BitVec 64)
  /-- `ARMX` (R288). -/
  | armx (pillar : PillarId) (word : BitVec 64)
  /-- `FEED` (R89). -/
  | feed (pillar : PillarId) (word : BitVec 64) (data : List (BitVec 256))
  /-- `RUN` (R89). -/
  | run (pillar : PillarId) (word : BitVec 64) (data : List (BitVec 256)) (upto : Nat)
  /-- `ROW_END` (R103). -/
  | rowEnd (pillar : PillarId) (die : DieId) (bank : BankId) (lane : Lane)
  /-- `PARK` (R105). -/
  | park (pillar : PillarId) (word : BitVec 64)
  /-- `RESUME` (R106). -/
  | resume (pillar : PillarId) (word : BitVec 64) (upto : Nat)
  /-- `DRAIN` (R89). -/
  | drain (pillar : PillarId) (word : BitVec 64)
  /-- `ABORT` (R89). -/
  | abort (pillar : PillarId) (word : BitVec 64)
  /-- `STEST` (R483). -/
  | stest (pillar : PillarId) (word : BitVec 64) (pass : Bool)
  /-- `COLUMN_BOUNDARY_STOP` (R105). -/
  | columnBoundaryStop (pillar : PillarId) (die : DieId) (bank : BankId)
  /-- `URGENT_RUN_STOP` (R108). -/
  | urgentRunStop (pillar : PillarId) (die : DieId) (bank : BankId)
  /-- `ACT` (R287). -/
  | act (pillar : PillarId) (word : BusWord)
  /-- `PRE` (R287). -/
  | pre (pillar : PillarId) (word : BusWord)
  /-- `RD` (R287). -/
  | rd (pillar : PillarId) (word : BusWord)
  /-- `WR` (R287). -/
  | wr (pillar : PillarId) (word : BusWord) (data : BitVec 256) (check : BitVec 32)
  /-- `REFB` (R296). -/
  | refb (pillar : PillarId) (word : BitVec 64)
  /-- `SELECT` (R289). -/
  | select (pillar : PillarId) (word : BitVec 64)
  /-- `PDE` (R300). -/
  | pde (pillar : PillarId) (word : BitVec 64)
  /-- `PDX` (R300). -/
  | pdx (pillar : PillarId) (word : BitVec 64)
  /-- `IDRD` (R305). -/
  | idrd (pillar : PillarId) (word : BitVec 64)
  /-- `TMRD` (R299). -/
  | tmrd (pillar : PillarId) (word : BitVec 64) (celsius : BitVec 8)
  /-- `RSYNC` (R302). -/
  | rsync (pillar : PillarId) (word : BitVec 64)
  -- Pillar controllers
  /-- `PARITY_ALERT` (R302). -/
  | parityAlert (pillar : PillarId) (die : DieId) (spoilt : List Bool)
  /-- `RD_TIMEOUT` (R303). -/
  | rdTimeout (pillar : PillarId) (die : DieId)
  /-- `SHADOW_ENTRY_RETURN` (R301). -/
  | shadowEntryReturn (pillar : PillarId) (tag : BitVec 6)
  /-- `REFRESH_DEBT_TICK` (R296). -/
  | refreshDebtTick (pillar : PillarId) (die : DieId) (bank : BankId)
  /-- `DIE_TEMP_POLL` (R299). -/
  | dieTempPoll (pillar : PillarId) (temps : List (BitVec 8))
  /-- `PAGE_IDLE_TIMEOUT` (R295). -/
  | pageIdleTimeout (pillar : PillarId) (die : DieId) (bank : BankId) (rb1 : Bool)
  /-- `DIE_GROUP_IDLE` (R300). -/
  | dieGroupIdle (pillar : PillarId) (group : Fin 5)
  /-- `DLYCTL_APPLY` (R304). -/
  | dlyctlApply (req : Requester) (pillar : PillarId)
  /-- `DELAY_APPLIED` (R305). -/
  | delayApplied (pillar : PillarId) (answers : List DieAnswer)
  /-- `DIE_RETRY` (R303). -/
  | dieRetry (req : Requester) (pillar : PillarId) (die : BitVec 5) (answers : Bool)
  /-- `SPARE_GO` (R306). -/
  | spareGo (req : Requester) (pillar : PillarId) (die : BitVec 4) (mode : BitVec 2) (share : BitVec 5)
  /-- `SPARE_CANCEL` (R311). -/
  | spareCancel (req : Requester) (pillar : PillarId)
  /-- `SPARE_COPY_PASS_END` (R309). -/
  | spareCopyPassEnd (pillar : PillarId)
  /-- `SPARE_FINAL_END` (R309). -/
  | spareFinalEnd (pillar : PillarId)
  /-- `SPARE_FILL_END` (R310). -/
  | spareFillEnd (pillar : PillarId)
  /-- `SPARE_SWITCH` (R309). -/
  | spareSwitch (pillar : PillarId)
  /-- `BLUCNTCLR` (R114). -/
  | bluCntClr (req : Requester) (pillar : PillarId)
  /-- `REFSTAT_CLEAR` (R313). -/
  | refstatClear (req : Requester) (pillar : PillarId)
  -- Special-function tables
  /-- `SFU_LOAD` (R243). -/
  | sfuLoad (req : Requester) (core : CoreId) (slot : BitVec 6) (sige : Bool) (sig : BitVec 13)
  /-- `SFU_CLEAR` (R244). -/
  | sfuClear (req : Requester) (core : CoreId) (slot : BitVec 6) (sige : Bool) (sig : BitVec 13)
  /-- `SFU_LOAD_DONE` (R245). -/
  | sfuLoadDone (core : CoreId)
  -- Rings, paths, attachment and ports
  /-- `RING_OPEN` (R325). -/
  | ringOpen (req : Requester) (ring : RingId)
  /-- `RING_CLOSE` (R327). -/
  | ringClose (req : Requester) (ring : RingId)
  /-- `CTAIL_WRITE` (R334). -/
  | ctailWrite (req : Requester) (ring : RingId) (value : BitVec 32)
  /-- `RREL_WRITE` (R338). -/
  | rrelWrite (req : Requester) (ring : RingId) (value : BitVec 32)
  /-- `PATHFENCE_M_READ` (R340). -/
  | pathfenceMRead (port : Port)
  /-- `PATHFENCE_I_READ` (R340). -/
  | pathfenceIRead (port : Port)
  /-- `PATHFENCE_D_READ` (R340). -/
  | pathfenceDRead (port : Port)
  /-- `DETACH` (R345). -/
  | detach (req : Requester) (part : PartId)
  /-- `REATT` (R347). -/
  | reatt (req : Requester) (token : BitVec 48) (part : PartId)
  /-- `REATT_LOCKOUT_END` (R348). -/
  | reattLockoutEnd (part : PartId)
  /-- `VIOCLR` (R357). -/
  | vioclr (req : Requester)
  /-- `DL_DOWN` (R345). -/
  | dlDown (port : Port)
  /-- `LINK_UP` (R349). -/
  | linkUp (port : Port) (proto : BitVec 2) (gen : BitVec 3) (width : BitVec 5)
  /-- `HOT_RESET` (R345). -/
  | hotReset (port : Port)
  /-- `FUNCTION_LEVEL_RESET` (R345). -/
  | functionLevelReset (port : Port)
  /-- `PERST` (R349). -/
  | perst (port : Port) (asserted : Bool)
  /-- `IDE_INTEGRITY_FAILURE` (R320). -/
  | ideIntegrityFailure (port : Port)
  /-- `PEER_WRITE` (R354). -/
  | peerWrite (port : Port) (msg : PeerMsg)
  /-- `PEER_READ_REQUEST` (R352). -/
  | peerReadRequest (port : Port) (msg : PeerMsg)
  /-- `PEER_READ_DATA` (R352). -/
  | peerReadData (port : Port) (msg : PeerMsg)
  /-- `PEER_REMOTE_SIGNAL` (R273). -/
  | peerRemoteSignal (port : Port) (msg : PeerMsg)
  -- Security
  /-- `KEY_EXCHANGE` (R428). -/
  | keyExchange (port : Port) (requester : BitVec 384) (mutualAuth : Bool)
  /-- `GET_MEASUREMENTS` (R428). -/
  | getMeasurements (port : Port) (sid : Nat) (block : BitVec 8)
  /-- `SESSION_END` (R430). -/
  | sessionEnd (port : Port) (sid : Nat)
  /-- `SET_ADMIN` (R429). -/
  | setAdmin (port : Port) (sid : Nat) (digest : List Byte)
  /-- `ATTACH` (R430). -/
  | attach (port : Port) (sid : Nat) (part : BitVec 8)
  /-- `ATTEST_ACK` (R430). -/
  | attestAck (port : Port) (sid : Nat) (part : BitVec 8) (digest : List Byte)
  /-- `ATTEST_ACK_EXPIRY` (R430). -/
  | attestAckExpiry (port : Port) (sid : Nat) (part : PartId)
  /-- `SET_JOB_KEY` (R439). -/
  | setJobKey (port : Port) (sid : Nat) (part : BitVec 8) (index : BitVec 8) (jobId : BitVec 32) (members : BitVec 8) (key : List Byte)
  /-- `DEL_JOB_KEY` (R439). -/
  | delJobKey (port : Port) (sid : Nat) (part : BitVec 8) (index : BitVec 8)
  /-- `JOBCTL_WRITE` (R438). -/
  | jobctlWrite (req : Requester) (part : PartId) (value : BitVec 32)
  /-- `PART_BIND` (R423). -/
  | partBind (req : Requester) (part : PartId)
  /-- `PART_RELEASE` (R424). -/
  | partRelease (req : Requester) (part : PartId)
  /-- `PART_RELEASE_DONE` (R424). -/
  | partReleaseDone (part : PartId)
  /-- `ZEROISE` (R442). -/
  | zeroise (req : Requester) (part : PartId)
  /-- `ZEROISE_DONE` (R442). -/
  | zeroiseDone (part : PartId)
  /-- `BUNDLE_OPEN` (R435). -/
  | bundleOpen (req : Requester) (part : PartId) (slot : BitVec 4)
  /-- `BUNDLE_OPEN_DONE` (R435). -/
  | bundleOpenDone (part : PartId)
  /-- `BUNDLE_CLOSE` (R435). -/
  | bundleClose (req : Requester) (part : PartId) (slot : BitVec 4)
  /-- `DECRYPT` (R436). -/
  | decrypt (req : Requester) (part : PartId) (slot : BitVec 4)
  /-- `DECRYPT_DONE` (R436). -/
  | decryptDone (part : PartId)
  -- Beat, schedules and power
  /-- `BEAT_EDGE` (R358). -/
  | beatEdge (cycles : Nat)
  /-- `TICK_START` (R359). -/
  | tickStart
  /-- `BEAT_LOSS` (R372). -/
  | beatLoss
  /-- `BEAT_REARM` (R373). -/
  | beatRearm (req : Requester)
  /-- `SCHEDULE_FRAME` (R363). -/
  | scheduleFrame (bytes : List Byte)
  /-- `EPOCH_BROADCAST` (R365). -/
  | epochBroadcast (bytes : List Byte)
  /-- `PRIVATE_READ` (R366). -/
  | privateRead
  /-- `ENTDAA` (R362). -/
  | entdaa (address : BitVec 7)
  /-- `SCHEDCTL_COMMIT` (R382). -/
  | schedctlCommit (req : Requester) (host : Bool)
  /-- `DOMCTL_WRITE` (R376). -/
  | domctlWrite (req : Requester) (index : Fin 3) (value : BitVec 32)
  /-- `DOMAIN_READY` (R377). -/
  | domainReady
  /-- `HUB_SENSOR_READ` (R378). -/
  | hubSensorRead (celsius : List (BitVec 8))
  /-- `THERMAL_TRIP_END` (R379). -/
  | thermalTripEnd
  /-- `CRITICAL_THERMAL` (R379). -/
  | criticalThermal
  /-- `COOLANT_MEASURE` (R381). -/
  | coolantMeasure (inlet : BitVec 8) (outlet : BitVec 8) (flow : BitVec 16)
  -- Twilight, Dawn, alarms and orders
  /-- `SUPPLY_LOW` (R392). -/
  | supplyLow
  /-- `JCTL_TWILIGHT` (R392). -/
  | jctlTwilight (req : Requester) (confirm : BitVec 16)
  /-- `GUARCLR` (R418). -/
  | guarclr (req : Requester)
  /-- `QUIESCE_POINT` (R393). -/
  | quiescePoint
  /-- `SEAL_PROGRAM_START` (R393). -/
  | sealProgramStart
  /-- `SEAL_COMMIT` (R391). -/
  | sealCommit (supplyGood : Bool) (duration : BitVec 16) (energy : BitVec 12)
  /-- `SUPPLY_QUALIFIED` (R477). -/
  | supplyQualified
  /-- `DAWN_BOOT` (R478). -/
  | dawnBoot (mcCopyA : Bool) (mcCopyB : Bool)
  /-- `DAWN_SECURE` (R480). -/
  | dawnSecure (firmware : Bool) (config : Bool) (table : Bool)
  /-- `DAWN_ALARM` (R404). -/
  | dawnAlarm
  /-- `DAWN_POWER` (R481). -/
  | dawnPower
  /-- `DAWN_DELAY` (R481). -/
  | dawnDelay (answers : List (List DieAnswer))
  /-- `DAWN_TEST` (R484). -/
  | dawnTest (failing : List (Nat × BitVec 4)) (cores : BitVec 8) (seqs : BitVec 16) (ledger : Bool)
  /-- `DAWN_REPLAY` (R395). -/
  | dawnReplay
  /-- `DAWN_COMMIT` (R487). -/
  | dawnCommit
  /-- `SEAL_AREA_ERASED` (R391). -/
  | sealAreaErased
  /-- `HOLDUP_TEST` (R401). -/
  | holdupTest (string : Fin 5) (pass : Bool) (energy : BitVec 16)
  /-- `ALARM_SAMPLE` (R505). -/
  | alarmSample (tamper : Bool) (leak : Bool)
  /-- `CELL_MEASURE` (R505). -/
  | cellMeasure (millivolts : BitVec 12) (celsius : BitVec 8)
  /-- `RTCSET` (R403). -/
  | rtcset (req : Requester) (ticks : BitVec 48)
  /-- `ORDER_FIRE` (R410). -/
  | orderFire
  /-- `SO_ARM` (R411). -/
  | soArm (req : Requester) (arm : Bool)
  /-- `SO_SAVE` (R411). -/
  | soSave (req : Requester)
  /-- `EL_LOSTCLR` (R416). -/
  | elLostclr (req : Requester)
  /-- `MODULE_RESET` (R489). -/
  | moduleReset (req : Requester) (confirm : BitVec 16)
  /-- `FULL_RESET` (R489). -/
  | fullReset (req : Requester) (confirm : BitVec 16)
  /-- `MRST` (R504). -/
  | mrst (microseconds : Nat)
  /-- `FW_UPDATE` (R493). -/
  | fwUpdate (req : Requester) (image : BitVec 2)
  /-- `FW_UPDATE_DONE` (R493). -/
  | fwUpdateDone (result : BitVec 3)
  /-- `SPAREMAP_CLEAR` (R491). -/
  | sparemapClear (req : Requester) (pillar : PillarId)
  -- Plans
  /-- `PLAN_LOAD` (R462). -/
  | planLoad (req : Requester) (seq : SeqId)
  /-- `PLAN_LOAD_DONE` (R462). -/
  | planLoadDone (seq : SeqId)
  /-- `PLAN_START` (R462). -/
  | planStart (req : Requester) (seq : SeqId)
  /-- `PLAN_RESTART` (R464). -/
  | planRestart (req : Requester) (seq : SeqId)
  /-- `PLAN_STOP` (R462). -/
  | planStop (req : Requester) (seq : SeqId)
  /-- `PLAN_MOVE` (R465). -/
  | planMove (req : Requester) (seq : SeqId)
  /-- `PLAN_MOVE_DONE` (R465). -/
  | planMoveDone (seq : SeqId)
  /-- `PLAN_UNLOAD` (R462). -/
  | planUnload (req : Requester) (seq : SeqId)
  -- Sequencer instructions
  /-- `ADD` (R455). -/
  | seqAdd (seq : SeqId)
  /-- `SUB` (R455). -/
  | seqSub (seq : SeqId)
  /-- `AND` (R455). -/
  | seqAnd (seq : SeqId)
  /-- `OR` (R455). -/
  | seqOr (seq : SeqId)
  /-- `XOR` (R455). -/
  | seqXor (seq : SeqId)
  /-- `SHL` (R455). -/
  | seqShl (seq : SeqId)
  /-- `SHR` (R455). -/
  | seqShr (seq : SeqId)
  /-- `SRA` (R455). -/
  | seqSra (seq : SeqId)
  /-- `MUL` (R455). -/
  | seqMul (seq : SeqId)
  /-- `SLT` (R455). -/
  | seqSlt (seq : SeqId)
  /-- `SLTU` (R455). -/
  | seqSltu (seq : SeqId)
  /-- `ADDI` (R455). -/
  | seqAddi (seq : SeqId)
  /-- `SUBI` (R455). -/
  | seqSubi (seq : SeqId)
  /-- `ANDI` (R455). -/
  | seqAndi (seq : SeqId)
  /-- `ORI` (R455). -/
  | seqOri (seq : SeqId)
  /-- `XORI` (R455). -/
  | seqXori (seq : SeqId)
  /-- `SHLI` (R455). -/
  | seqShli (seq : SeqId)
  /-- `SHRI` (R455). -/
  | seqShri (seq : SeqId)
  /-- `SRAI` (R455). -/
  | seqSrai (seq : SeqId)
  /-- `MULI` (R455). -/
  | seqMuli (seq : SeqId)
  /-- `SLTI` (R455). -/
  | seqSlti (seq : SeqId)
  /-- `SLTUI` (R455). -/
  | seqSltui (seq : SeqId)
  /-- `LUI` (R455). -/
  | seqLui (seq : SeqId)
  /-- `LD_W` (R448). -/
  | seqLdW (seq : SeqId)
  /-- `ST_W` (R449). -/
  | seqStW (seq : SeqId)
  /-- `LD_BU` (R448). -/
  | seqLdBu (seq : SeqId)
  /-- `ST_B` (R449). -/
  | seqStB (seq : SeqId)
  /-- `BEQ` (R455). -/
  | seqBeq (seq : SeqId)
  /-- `BNE` (R455). -/
  | seqBne (seq : SeqId)
  /-- `BLT` (R455). -/
  | seqBlt (seq : SeqId)
  /-- `BGE` (R455). -/
  | seqBge (seq : SeqId)
  /-- `BLTU` (R455). -/
  | seqBltu (seq : SeqId)
  /-- `BGEU` (R455). -/
  | seqBgeu (seq : SeqId)
  /-- `JMP` (R455). -/
  | seqJmp (seq : SeqId)
  /-- `CALL` (R451). -/
  | seqCall (seq : SeqId)
  /-- `CALLR` (R451). -/
  | seqCallr (seq : SeqId)
  /-- `RET` (R452). -/
  | seqRet (seq : SeqId)
  /-- `TRET` (R453). -/
  | seqTret (seq : SeqId)
  /-- `PUT` (R457). -/
  | seqPut (seq : SeqId)
  /-- `SIG` (R458). -/
  | seqSig (seq : SeqId)
  /-- `SFENCE` (R449). -/
  | seqSfence (seq : SeqId)
  /-- `WAITEV` (R459). -/
  | seqWaitev (seq : SeqId)
  /-- `WAITEV_WAKE` (R459). -/
  | seqWaitevWake (seq : SeqId)
  /-- `TIME` (R455). -/
  | seqTime (seq : SeqId)
  /-- `TIMEH` (R455). -/
  | seqTimeh (seq : SeqId)
  /-- `HALT` (R455). -/
  | seqHalt (seq : SeqId)
  -- Late rows
  /-- `INTERNAL_BEAT` (R372). -/
  | internalBeat
  /-- `VIN_LOW_CHANGE` (R381). -/
  | vinLowChange (low : Bool) (millivolts : BitVec 16)
  /-- `MRST_RELEASE` (R504). -/
  | mrstRelease
  /-- `IDE_KEY_MANAGEMENT` (R428). -/
  | ideKeyManagement (port : Port) (sid : Nat) (key : IdeKey)
  /-- `ALWAYS_ON_POWER_LOSS` (R509). -/
  | alwaysOnPowerLoss
  /-- `BACKUP_CELL_FITTED` (R508). -/
  | backupCellFitted
deriving DecidableEq, Repr

end Sys2Proof
end

