-- ==== Sys2Proof/Decode.lean ====
section
/-!
DEFINITION. The words of commands. The opcode table gives no row any bits, so no word spells a command (DEDUCED, log entry 1).
-/
namespace Sys2Proof

/-- The command a table word spells: none. -/
def decodeTableWord (_nbits _w : Nat) : Option Instr := none

end Sys2Proof
end

