-- ==== Sys2Proof/Config.lean ====
section
/-!
DEFINITION. What the spec leaves open: free values, which nothing constrains, and the cryptographic functions, which the
spec names by their standards.
-/
namespace Sys2Proof

/-- The value of the `n`-th free value drawn (DESIGN CHOICE, log entry 4). -/
opaque Config.freeValue : Nat → BitVec 384

/-- The undefined contents, data and check bits, of a DRAM column at key `k` in power generation `g`
(R94, DESIGN CHOICE, log entry 6). -/
opaque Config.dramFree : Nat → Nat → BitVec 288

/-- The result of a compatibility table for an FP32 input that rounding to BF16 takes below XLO, where R242 names no
segment: a function of the table's check word and of the input (DESIGN CHOICE, log entry 11). -/
opaque Config.sfuBelow : Nat → Nat → BitVec 32

/-- SHA-384 of a message (R359, R430, R489). -/
opaque Config.sha384 : List Byte → BitVec 384

/-- The AES-256-GCM tag of a message: key, IV, associated data, plaintext (R434, R439). -/
opaque Config.gcmTag : List Byte → List Byte → List Byte → List Byte → BitVec 128

/-- The tag of a peer message under a job key: the key, the kind of message, the message with tag 0 (R353). The spec
gives the header's parts but not its bytes. -/
opaque Config.peerTag : List Byte → Nat → PeerMsg → BitVec 128

/-- The AES-256-GCM tag of a seal image under the device key, which never leaves the security block (R391). -/
opaque Config.sealTag : List Byte → BitVec 128

/-- The content of a seal section whose layout the spec does not give, by the draw that the seal makes and the section's
TYPE (R390; DESIGN CHOICE, log entry 139). -/
opaque Config.sealSection : Nat → Nat → List Byte

/-- The AES-256-GCM plaintext of a ciphertext: key, IV, ciphertext (R434, R439). -/
opaque Config.gcmText : List Byte → List Byte → List Byte → List Byte

/-- The content key of a weight bundle: the author's public key, BUNDLE_ID and the wrapped entry; none where the key
wrap's integrity check fails (R434). -/
opaque Config.bundleKey : List Byte → List Byte → List Byte → Option (List Byte)

/-- The module's unique identity (R431). -/
opaque Config.uid : BitVec 128

/-- SHA-384 of the identity public key of slot 0 (R431). -/
opaque Config.idKey : BitVec 384

/-- The fused minimum firmware security version (R431, R480). -/
opaque Config.minVersion : BitVec 8

/-- SHA-384 of firmware image `i` in version `n`: 0 boot ROM, 1 MC, 2 security block, 3 sequencer base, 4 NOR
configuration (R431). -/
opaque Config.fwDigest : Nat → Nat → BitVec 384

/-- The power profile of NOR configuration version `n` (R377, R481): bit `d` says whether it turns domain `d` on. -/
opaque Config.powerProfile : Nat → BitVec 83

/-- Word `g` of physical die `d` of pillar `p` in the delay table of NOR configuration version `n` (R304, R481). -/
opaque Config.delayWord : Nat → Nat → Nat → Nat → BitVec 32

/-- Whether the host has set Max_Read_Request_Size, or for `write` Max_Payload_Size, of a port's function to 128 B, the
only size below the 256 B that R200 allows (PRESUMED, log entry 131). -/
opaque Config.requests128 : (port : Nat) → (write : Bool) → Bool

/-- DETAIL of a bank lane unit's fault: it holds the global bank ID, the row and the column, in places the spec does not
give (R116, DESIGN CHOICE, log entry 12). -/
opaque Config.bluDetail : Nat → Nat → Nat → BitVec 64

end Sys2Proof
end

