-- ==== Sys2Proof/Machine/Regs.lean ====
section
/-!
DEFINITION. The register map of BAR0 (20_register_index.md): block bases (R515), which registers exist (R521), the
access code of their fields (R7) and their reset values, each as its defining rule gives it.
-/
namespace Sys2Proof.Machine

/-- Offset in the MC block (R515). -/
def rMc (o : Nat) : Nat := o
/-- Offset in the EV block (R515). -/
def rEv (o : Nat) : Nat := 0x10000 + o
/-- Offset in the JR block (R515). -/
def rJr (o : Nat) : Nat := 0x20000 + o
/-- Offset in the AL block (R515). -/
def rAl (o : Nat) : Nat := 0x30000 + o
/-- Offset in the SO block (R515). -/
def rSo (o : Nat) : Nat := 0x40000 + o
/-- Offset in the SB block (R515). -/
def rSb (o : Nat) : Nat := 0x50000 + o
/-- Offset in the HI block (R515). -/
def rHi (o : Nat) : Nat := 0x60000 + o
/-- Offset in the BB block (R515). -/
def rBb (o : Nat) : Nat := 0x70000 + o
/-- Offset in the SY block (R515). -/
def rSy (o : Nat) : Nat := 0x80000 + o
/-- Offset in the block of ring `r`, RG0-RG8 (R515). -/
def rRg (r o : Nat) : Nat := 0xA0000 + 0x1000 * r + o
/-- Offset in the block of sequencer `q` (R515). -/
def rQ (q o : Nat) : Nat := 0xB0000 + 0x1000 * q + o
/-- Offset in the block of core `c` (R515). -/
def rC (c o : Nat) : Nat := 0x100000 + 0x10000 * c + o
/-- Offset in the block of pillar controller `p` (R515). -/
def rP (p o : Nat) : Nat := 0x200000 + 0x10000 * p + o
/-- Offset in the EL block (R515). -/
def rEl (o : Nat) : Nat := 0x400000 + o
/-- Offset in the registers of ring `r` in the HI block (R356). -/
def rRing (r o : Nat) : Nat := rHi (0x1000 + 0x80 * r + o)
/-- Offset in SB.PART.k (R444). -/
def rPart (k o : Nat) : Nat := rSb (0x40 * k + o)
/-- Offset in SB.WB.k (R445). -/
def rWb (k o : Nat) : Nat := rSb (0x1000 + 0x40 * k + o)
/-- Offset in SB.JOB.k (R445). -/
def rJob (k o : Nat) : Nat := rSb (0x2000 + 0x40 * k + o)
/-- First register of sync counter `n` in the numbering of R257 (R281). -/
def rCtr (n : Nat) : Nat := if n < 0x1000 then rC (n / 64) (0x2000 + 16 * (n % 64)) else rSy (16 * (n % 0x1000))

/-- What R7 lets a write do to a register: its width, and which bits are RW, W1C and WO. -/
structure RegInfo where
  wide : Bool := false
  rw : Nat := 0
  w1c : Nat := 0
  wo : Nat := 0
deriving DecidableEq, Repr

/-- A 32-bit read-only register. -/
def ro32 : Option RegInfo := some {}
/-- A 64-bit read-only register. -/
def ro64 : Option RegInfo := some { wide := true }
/-- A 48-bit counter with its WRAPPED bit. -/
def cnt48 : Option RegInfo := some { wide := true, w1c := 2 ^ 63 }
/-- A 32-bit register with the given RW bits. -/
def rw32 (m : Nat) : Option RegInfo := some { rw := m }
/-- A 64-bit register with the given RW bits. -/
def rw64 (m : Nat) : Option RegInfo := some { wide := true, rw := m }
/-- A 32-bit register with the given WO bits. -/
def wo32 (m : Nat) : Option RegInfo := some { wo := m }

/-- Whether `o` is `base + stride * i` for some `i < n`. -/
def inRow (o base stride n : Nat) : Bool := decide (base ≤ o) && decide (o < base + stride * n) && (o - base) % stride == 0

/-- The sync counter registers at offset `o` from their first (R281). -/
def infoCtr (o : Nat) : Option RegInfo :=
  match o % 16 with
  | 0 => rw32 0xFFFF
  | 4 => rw32 0x1FFFFFF
  | 8 => ro64
  | _ => none

/-- MC block (R5, R492, R413). -/
def infoMc (o : Nat) : Option RegInfo :=
  match o with
  | 0x00 => ro32 | 0x10 => ro32 | 0x14 => ro32
  | 0x18 => wo32 0xFFFF0003
  | 0x20 => wo32 7
  | 0x24 => ro32
  | 0x28 => rw64 0xFFFFFFFFFF000
  | 0x30 => some { wide := true, wo := 0x1F00000000 }
  | 0x40 => ro64
  | _ => none

/-- EV block (R382-R384). -/
def infoEv (o : Nat) : Option RegInfo :=
  if inRow o 0x20 4 4 || inRow o 0x40 4 4 then ro32
  else if inRow o 0x60 4 4 then rw32 0x1F1F1F1F
  else if inRow o 0x100 4 2 then rw32 0xFFFFFFFF
  else if o = 0x108 then rw32 0x7FFFF
  else if inRow o 0x110 4 4 then ro32
  else match o with
    | 0x00 => ro32
    | 0x04 => rw32 3
    | 0x08 => some { rw := 0x1FFD, wo := 2 }
    | 0x0C => some { w1c := 0x3E }
    | 0x10 => ro64
    | 0x18 => ro32 | 0x1C => ro32 | 0x50 => ro32
    | 0x70 => some { rw := 1, wo := 2 }
    | 0x80 => ro32 | 0x84 => ro32 | 0x88 => ro32 | 0x8C => ro32 | 0x90 => ro32 | 0x94 => ro32
    | 0x98 => ro32 | 0xA0 => ro32 | 0xA4 => ro32 | 0xB0 => ro32
    | 0xB4 => rw32 0xFFE0000
    | 0xB8 => some { w1c := 2 }
    | 0xBC => ro32
    | _ => none

/-- JR block (R418). -/
def infoJr (o : Nat) : Option RegInfo :=
  if inRow o 0x30 4 4 || inRow o 0x50 4 8 || inRow o 0x70 4 8 then ro32
  else match o with
    | 0x00 => ro32
    | 0x04 => wo32 0xFFFF0003
    | 0x08 => ro32 | 0x18 => ro32 | 0x28 => ro32 | 0x40 => ro32
    | 0x10 => ro64 | 0x20 => ro64 | 0x90 => ro64
    | _ => none

/-- AL block (R419). -/
def infoAl (o : Nat) : Option RegInfo :=
  if inRow o 0x20 8 4 then ro64
  else match o with
    | 0x00 => some { w1c := 0x7D }
    | 0x08 => ro64
    | 0x10 => some { wide := true, wo := 0xFFFFFFFFFFFF }
    | 0x18 => ro32 | 0x1C => ro32
    | _ => none

/-- SO block (R411). -/
def infoSo (o : Nat) : Option RegInfo :=
  if o = 0 then some { rw := 1, wo := 2 }
  else if inRow o 0x100 4 128 then rw32 0xFFFFFFFF
  else if inRow o 0x400 4 32 then ro32
  else none

/-- SB block (R444, R445). -/
def infoSb (o : Nat) : Option RegInfo :=
  if o < 0x200 then
    (match o % 0x40 with
     | 0x00 => rw32 0x3FFFFFF
     | 0x04 => rw32 0x1FFF
     | 0x08 => some { w1c := 4 }
     | x => if inRow x 0x10 4 12 then rw32 0xFFFFFFFF else none)
  else if o = 0x200 then wo32 0x1F
  else if o = 0x204 ∨ o = 0x300 ∨ inRow o 0x310 4 12 then ro32
  else if o = 0x400 then rw32 4
  else if o = 0x410 then wo32 0xF
  else if 0x1000 ≤ o ∧ o < 0x1200 then
    (match o % 0x40 with
     | 0x00 => some { rw := 0xF, wo := 0x70 }
     | 0x04 => rw32 0x1FFFFFF | 0x08 => rw32 0x1FFFFFF | 0x0C => rw32 0x1FFFFFF
     | 0x10 => rw32 0xFFFFFFFF
     | 0x14 => rw32 0xFFFF
     | 0x18 => some { w1c := 0x200 }
     | 0x1C => ro32
     | 0x20 => rw32 0x3FFFF
     | 0x24 => ro32
     | _ => none)
  else if 0x2000 ≤ o ∧ o < 0x2200 then
    (match o % 0x40 with
     | 0x00 => rw32 7
     | 0x04 => ro32
     | x => if inRow x 0x10 4 12 then ro32 else none)
  else none

/-- The registers of one ring in the HI block (R356). -/
def infoRing (o : Nat) : Option RegInfo :=
  match o with
  | 0x00 => rw32 0xFFFE
  | 0x04 => wo32 3
  | 0x08 => rw32 0xFFFFFFFF
  | 0x0C => ro32
  | 0x10 => rw32 0xFF
  | 0x14 => ro32
  | 0x18 => rw32 0xFFFFFFFF
  | 0x1C => rw32 0xFFFFFFFF
  | 0x20 => rw64 0xFFFFFFFFFFFFF
  | 0x28 => rw32 0xFFFFFFFF
  | 0x2C => ro32
  | 0x30 => rw64 0xFFFFFFFFFFFFF
  | 0x38 => rw64 0xFFFFFFFFFFFFF
  | 0x40 => cnt48 | 0x48 => cnt48
  | 0x50 => ro32 | 0x54 => ro32
  | _ => none

/-- HI block (R355-R357). -/
def infoHi (o : Nat) : Option RegInfo :=
  if 0x1000 ≤ o ∧ o < 0x1480 then infoRing ((o - 0x1000) % 0x80)
  else if inRow o 0x104 4 10 then ro32
  else if inRow o 0x400 4 8 then rw32 0x3FFFF
  else if inRow o 0x500 4 8 then wo32 8
  else if inRow o 0x710 4 8 then rw32 0x1FFF
  else match o with
    | 0x00 => ro32 | 0x04 => ro32 | 0x10 => ro32 | 0x14 => ro32
    | 0x20 => rw32 1
    | 0x140 => ro64
    | 0x148 => wo32 1
    | 0x540 => some { wide := true, wo := 0x8007FFFFFFFFFFFF }
    | 0x548 => ro32
    | 0x600 => ro64
    | 0x700 => rw32 0x1F
    | _ => none

/-- BB block (R198). -/
def infoBb (o : Nat) : Option RegInfo :=
  if 0x800 ≤ o ∨ 0x80 ≤ o % 0x100 then none
  else match o % 0x10 with
    | 0x0 => rw64 0xFFFFFFFFFF000
    | 0x8 => rw64 0xFFFFFFFFFFF000
    | _ => none

/-- SY block (R281, R283). -/
def infoSy (o : Nat) : Option RegInfo :=
  if o < 0x10000 then infoCtr o
  else match o with
    | 0x10000 => wo32 0xFFFF1FFF
    | 0x10004 => ro32 | 0x10008 => ro32 | 0x1000C => ro32
    | _ => none

/-- RG block of one ring (R155). -/
def infoRg (o : Nat) : Option RegInfo :=
  match o with
  | 0x00 => ro32 | 0x04 => ro32
  | 0x08 => some { w1c := 0xF }
  | 0x0C => wo32 1
  | 0x10 => ro32 | 0x14 => ro32 | 0x18 => ro32
  | _ => none

/-- Block of one sequencer (R466). -/
def infoQ (o : Nat) : Option RegInfo :=
  if inRow o 0x08 4 6 || inRow o 0x20 4 8 || inRow o 0x40 4 9 then ro32
  else match o with
    | 0x00 => wo32 0x3F
    | 0x04 => rw32 0x1FFFFFF
    | 0x70 => cnt48 | 0x78 => cnt48
    | _ => none

/-- Block of one compute core (R176, R166, R168, R179, R48, R56, R46, R144, R204, R230, R254, R281, R282, R62). -/
def infoC (o : Nat) : Option RegInfo :=
  if inRow o 0x20 4 7 then rw32 0xFFC00
  else if inRow o 0x40 8 7 then cnt48
  else if inRow o 0xA0 4 8 || inRow o 0xE0 4 8 then ro32
  else if inRow o 0xD00 8 32 then ro64
  else if inRow o 0xF0C 4 2 || inRow o 0xF40 4 64 then ro32
  else if 0x2000 ≤ o ∧ o < 0x2300 then infoCtr o
  else if inRow o 0x2310 4 7 || inRow o 0x2330 4 7 then ro32
  else if inRow o 0x4000 4 4096 || inRow o 0x8000 4 16 then ro32
  else match o with
    | 0x000 => wo32 7
    | 0x004 => some { w1c := 0x400 }
    | 0x008 => rw32 3
    | 0x00C => ro32
    | 0x010 => cnt48
    | 0x080 => some { rw := 3, wo := 0xC }
    | 0x084 => some { w1c := 0x60 }
    | 0x088 => rw32 0x7FFC
    | 0x08C => wo32 0xFFFFFFFF
    | 0x0C0 => ro32 | 0x0C4 => ro32
    | 0xA00 => rw32 1
    | 0xA04 => some { w1c := 0x3F }
    | 0xA08 => rw32 0xFFFFFFFF | 0xA0C => rw32 0xFFFFFFFF
    | 0xB00 => some { w1c := 0x80000 }
    | 0xB08 => cnt48 | 0xB10 => cnt48 | 0xB18 => cnt48
    | 0xC00 => rw32 0xFFFF
    | 0xC08 => cnt48 | 0xC10 => cnt48 | 0xC18 => cnt48
    | 0xC20 => ro64 | 0xC28 => ro64
    | 0xE00 => ro32 | 0xE0C => ro32
    | 0xE04 => rw32 0xFFFFFFFF | 0xE08 => rw32 0xFFFFFFFF
    | 0xE10 => cnt48 | 0xE18 => cnt48 | 0xE20 => cnt48 | 0xE28 => cnt48
    | 0xF00 => some { rw := 0x3FFF3F, wo := 0xC0 }
    | 0xF04 => rw32 0x3FFFFFF
    | 0xF08 => some { w1c := 0x180 }
    | 0xF18 => some { w1c := 1 }
    | 0xF20 => cnt48
    | 0x2300 => rw32 0xFFFFF | 0x2304 => rw32 0xFFFFF
    | 0x2350 => cnt48
    | _ => none

/-- Block of one pillar controller (R312-R314, R113, R114, R494). -/
def infoP (o : Nat) : Option RegInfo :=
  if inRow o 0x10 4 17 then ro32
  else if inRow o 0x80 4 9 then rw32 0xFFFFFFFF
  else if 0x2000 ≤ o ∧ o < 0x3100 then (if inRow (o % 0x100) 0 4 33 then rw32 0x3F3F else none)
  else match o with
    | 0x000 => ro32
    | 0x060 => wo32 0x3F
    | 0x070 => rw32 0x7FF
    | 0x0A8 => rw32 0xF
    | 0x0B0 => rw32 0x1FFFFF
    | 0x100 => rw32 0x1FF
    | 0x104 => wo32 0x10
    | 0x108 => cnt48
    | 0x110 => ro32 | 0x120 => ro32 | 0x124 => ro32
    | 0x128 => rw32 7
    | 0x130 => cnt48 | 0x138 => cnt48 | 0x140 => cnt48
    | 0x180 => wo32 1
    | 0x190 => some { rw := 0x7FF, wo := 0x1800 }
    | 0x194 => ro32 | 0x198 => ro32 | 0x19C => ro32
    | 0xC00 => rw32 0x1FFF
    | 0xC04 => ro32
    | 0xC08 => some { w1c := 0x7F }
    | 0xC0C => ro32 | 0xC10 => ro32 | 0xC14 => ro32
    | 0xC18 => wo32 1
    | 0xC1C => ro32 | 0xC20 => ro32
    | 0xC24 => cnt48
    | 0xC30 => ro32 | 0xC34 => ro32
    | _ => none

/-- EL block (R416). -/
def infoEl (o : Nat) : Option RegInfo :=
  if 0x100000 ≤ o then (if o % 64 < 48 ∧ o % 4 = 0 ∧ o < 0x200000 then ro32 else none)
  else match o with
    | 0x0 => ro32
    | 0x4 => rw32 0xFFFFFFFF
    | 0x8 => ro32
    | 0xC => wo32 1
    | _ => none

/-- The register that starts at a BAR0 offset, if one does (R521). -/
def regInfo (a : Nat) : Option RegInfo :=
  if a < 0x10000 then infoMc a
  else if a < 0x20000 then infoEv (a - 0x10000)
  else if a < 0x30000 then infoJr (a - 0x20000)
  else if a < 0x40000 then infoAl (a - 0x30000)
  else if a < 0x50000 then infoSo (a - 0x40000)
  else if a < 0x60000 then infoSb (a - 0x50000)
  else if a < 0x70000 then infoHi (a - 0x60000)
  else if a < 0x80000 then infoBb (a - 0x70000)
  else if a < 0xA0000 then infoSy (a - 0x80000)
  else if a < 0xA9000 then infoRg ((a - 0xA0000) % 0x1000)
  else if a < 0xB0000 then none
  else if a < 0xC0000 then infoQ ((a - 0xB0000) % 0x1000)
  else if a < 0x100000 then none
  else if a < 0x180000 then infoC (a % 0x10000)
  else if a < 0x200000 then none
  else if a < 0x300000 then infoP (a % 0x10000)
  else if a < 0x400000 then none
  else if a < 0x600000 then infoEl (a - 0x400000)
  else none

/-- Reset values of a core's registers (the tables named at `infoC`); the queue depths are R13's. -/
def resetC (o : Nat) : Nat :=
  if 0x2000 ≤ o ∧ o < 0x2300 then (if o % 16 = 4 then 0x1FFFE else 0)
  else match o with
    | 0x004 => 3
    | 0x020 => 0x40100 | 0x024 => 0x40100 | 0x028 => 0x20080 | 0x02C => 0x80200
    | 0x030 => 0x40100 | 0x034 => 0x40100 | 0x038 => 0x40100
    | 0x0C0 => 0x1D540D7
    | 0x0C4 => 0x2004028D
    | 0xA00 => 1
    | 0xA08 => 0x6A3C19D5 | 0xA0C => 0x1F7B2E48
    | 0xC00 => 0x3E8
    | 0xE04 => 0x5B1EA7C3 | 0xE08 => 0x27D46E19
    | 0x2300 => 0x186A0 | 0x2304 => 0x3E8
    | _ => 0

/-- Reset values of a pillar controller's registers (R312-R314). -/
def resetP (o : Nat) : Nat :=
  if inRow o 0x10 4 17 then 5 + (((o - 0x10) / 4) % 16) * 64
  else if inRow o 0x80 4 9 then 0x3E807D0
  else match o with
    | 0x070 => 0x80
    | 0x0A8 => 6
    | 0x0B0 => 0x1F5F
    | 0x100 => 0x108
    | 0x128 => 4
    | 0x190 => 0x100
    | _ => 0

/-- Reset values of the EV block (R382, R383). -/
def resetEv (o : Nat) : Nat :=
  match o with
  | 0x00 => 0x18
  | 0x04 => 2
  | 0x08 => 0xFA0
  | 0x94 => 0x967271
  | 0x98 => 0x4268
  | 0xB4 => 0x9600000
  | _ => 0

/-- The reset value of the register at a BAR0 offset: its rule's where the rule gives one, 0 for the rows the spec
loads from NOR (PRESUMED, log entry 5) (PRESUMED, log entry 70). -/
def resetReg (a : Nat) : DWord :=
  BitVec.ofNat 64 <|
    if a < 0x10000 then (if a = 0 then 0xF0B165 else 0)
    else if a < 0x20000 then resetEv (a - 0x10000)
    else if a < 0x30000 then (if a = 0x20008 then 0xC else 0)
    else if a = 0x50400 then 1
    else if a < 0x60000 then 0
    else if a < 0x70000 then
      (if 0x61000 ≤ a ∧ a < 0x61480 ∧ (a - 0x61000) % 0x80 = 0 then 0x8000 else 0)
    else if a < 0x80000 then 0
    else if a < 0x90000 then (if a % 16 = 4 then 0x1FFFE else 0)
    else if a < 0x100000 then 0
    else if a < 0x180000 then resetC (a % 0x10000)
    else if a < 0x200000 then 0
    else if a < 0x300000 then resetP (a % 0x10000)
    else 0

/-- Whether a 64-bit register starts at an offset. -/
def wideAt (a : Nat) : Bool :=
  match regInfo a with
  | some i => i.wide
  | none => false

end Sys2Proof.Machine
end

