-- ==== Sys2Proof/Machine/State.lean ====
section
/-!
DEFINITION. The state of the model: everything the spec gives the module, as plain data, the commands that wait, and the
state after reset.
-/
namespace Sys2Proof.Machine

/-- Why the machine stops with a fault. -/
inductive Fault where
  /-- Raised by any command whose operands no agent of the spec can send (WellFormed.lean): a list of the wrong
  length, a pillar command word whose CMD field is not the row's. Safe: the model stops, nothing is claimed. -/
  | illFormed (what : String)
deriving DecidableEq, Repr

/-- Why a command has no meaning. -/
inductive Refusal where
  /-- Raised by an arm of exec whose command has no meaning yet. Safe: the model stops. -/
  | notModelled (mnemonic : String)
deriving DecidableEq, Repr

/-! ### Rings and items (06_bundles_and_queues.md) -/

/-- A line held at a ring position, with the arrival stamp that orders it against result-window writes (R330). -/
structure HeldLine where
  data : Line
  stamp : Nat
deriving DecidableEq, Repr

/-- The item being assembled on a ring (R150); `first` is the number of its line 0. -/
structure Assembly where
  seq : Word
  nlines : Nat
  first : Nat
  lines : List Line
deriving DecidableEq, Repr

/-- What a ring holds beside its registers: the assembly, the stale number, the FENCE item now held (R164), and the
CREDIT of the last credit record (R342). -/
structure RingSt where
  asm : Option Assembly := none
  stale : Option Word := none
  fence : Option Nat := none
  credited : Nat := 0
deriving DecidableEq, Repr

/-- The kinds of item (R149). -/
inductive ItemKind where
  | bundle | marker | fence | loopCall
deriving DecidableEq, Repr

/-- Where an item stands (R387); a posted item leaves the list. -/
inductive ItemPhase where
  | accepted | dispatched | complete
deriving DecidableEq, Repr

/-- An accepted item: its ring lines and the account R388 keeps of it. `first` is the number of its line 0. -/
structure Item where
  id : Nat
  ring : RingId
  seq : Word
  core : CoreId
  kind : ItemKind
  phase : ItemPhase
  lines : List Line
  first : Word
  freed : Bool
  stamp : Nat
  outstanding : Nat
  placing : Bool
  done : BitVec 6
  granted : BitVec 6
  faulted : Bool
  voided : Bool
  fcode : Byte
  evidx : Word
  slotK : Option Word
  pathd : Bool
deriving DecidableEq, Repr

/-- An active loop call of a core (R167): its item, its geometry, the next line and iteration. -/
structure LoopCall where
  item : Nat
  start : Nat
  len : Nat
  reps : Nat
  iter : Nat
  idx : Nat
  fetched : Bool
deriving DecidableEq, Repr

/-! ### Engine queues -/

/-- A wait at the head of a queue or lane (R263, R282): counter, amount, phase, when it began and its limit in µs. -/
structure Wait where
  ctr : Nat
  need : Nat
  phase2 : Bool
  since : Nat
  limit : Nat
deriving DecidableEq, Repr

/-- How far an entry has gone. -/
inductive EStage where
  | queued | issued | finished
deriving DecidableEq, Repr

/-- One element a host or peer read brings in: the scratchpad byte it goes to, its nibble there, whether that byte's high
nibble is the 0 that ends an odd run (R38), its byte in the data and its nibble in the data. -/
structure Landing where
  key : Nat
  hi : Bool
  tail : Bool
  off : Nat
  srcHi : Bool
deriving DecidableEq, Repr

/-- A host read request of a load that is not yet applied (R200): its window's PORT code, its request number once it is
issued, and its answer: the data, or the failure of R205. -/
structure HostRead where
  port : Nat
  addr : Nat
  len : Nat
  elems : List Landing
  req : Option Nat := none
  got : Option (List Byte) := none
  fail : Nat := 0
deriving DecidableEq, Repr

/-- A host write of a store that is not yet issued (R200). `half` marks the one-byte writes of one nibble: none for
whole bytes, else whether the nibble is the high one; `asked` is the request that reads the byte, `merged` the byte. -/
structure HostWrite where
  port : Nat
  addr : Nat
  data : List Byte
  half : Option Bool := none
  asked : Option Nat := none
  merged : Option Byte := none
deriving DecidableEq, Repr

/-- A window that a transfer issued under: its first and last byte and its PORT code (R198, R199). -/
structure HostWin where
  lo : Nat
  hi : Nat
  port : Nat
deriving DecidableEq, Repr

/-- A peer message of a transfer (R352): its kind, the member it goes to, the format of the accessing descriptor, and
what it says. Kinds: 0 write, 1 read request, 2 read data, 3 remote signal. -/
structure PeerSend where
  kind : Nat
  dest : Nat
  core : Nat
  handle : Nat
  coords : List Nat
  sizes : List Nat
  request : Nat
  payload : List Byte
  format : Nat := 0
deriving DecidableEq, Repr

/-- A peer read that is outstanding, or a peer write that may still be refused: its request number, its block of the
owner table, the landings of a read. -/
structure PeerRead where
  request : Nat
  block : Nat
  elems : List Landing
deriving DecidableEq, Repr

/-- An entry of an engine's queue or urgent lane (R161), with its wait, the descriptor copies it issued with (R59) and
its progress. -/
structure Entry where
  item : Nat
  ring : RingId
  seq : Word
  slot : Nat
  body : Bool
  iter : Word
  bodyLine : Nat
  w0 : DWord
  w1 : DWord
  w2 : DWord
  w3 : DWord
  stage : EStage := .queued
  checked : Bool := false
  got1 : Bool := false
  got2 : Bool := false
  sense : Bool := false
  wait : Option Wait := none
  descs : List Desc := []
  ovfSat : Bool := true
  ticket : Option Nat := none
  /-- Tiles written, or entries of a list or index tensor read. -/
  next : Nat := 0
  /-- Bits of one element of a pending host or peer transfer. -/
  esize : Nat := 8
  hreads : List HostRead := []
  hwrites : List HostWrite := []
  psends : List PeerSend := []
  preads : List PeerRead := []
  pwrites : List PeerRead := []
  /-- Entries of the list or index tensor still to be read (R83, R191). -/
  left : Nat := 0
  /-- The owner table and the windows that the transfer issued under (R85, R199). -/
  owners : List Word := []
  wins : List HostWin := []
  /-- The other modules of which a SPACE 4 store has written blocks, and whether it has written one of its own (R269). -/
  members : List Nat := []
  ownBlock : Bool := false
  /-- A value written to the store's generator while the store was drawing (R46). -/
  seed : Option Word := none
  /-- The fault the transfer ends with once what it began has landed. -/
  late : Option (Nat × Option Nat) := none
deriving DecidableEq, Repr

/-! ### Traffic with the outside -/

/-- What the module sends to a host port: memory reads and writes (R200, R335, R342), the completion of a fence read with
its timestamp, path 0 M, 1 I, 2 D (R340), and the bytes that a host read returns (R321, R322, R350). -/
inductive HostMsg where
  | data (port : Port) (bytes : List Byte) (poison : Bool)
  | fence (port : Port) (path time : Nat)
  | read (port : Port) (addr len : Nat) (core : Nat) (store : Bool) (lane : Nat) (request : Nat)
  | write (port : Port) (addr : Nat) (data : List Byte)
deriving DecidableEq, Repr

/-- A result-window write that has reached a port and is not yet visible (R329, R330). -/
structure WinWrite where
  stamp : Nat
  off : Nat
  data : List Byte
deriving DecidableEq, Repr

/-- The half-word latches of a requester (R517). -/
structure Latch where
  heldAt : Option Nat := none
  held : Word := 0
  readAt : Option Nat := none
  readHi : Word := 0
deriving DecidableEq, Repr

/-- An event as the standing orders see it (R410). -/
structure LoggedEvent where
  evseq : Word
  cls : Nat
  unit : Nat
deriving DecidableEq, Repr

/-- Where the module stands between power-up and power loss (R29, R393, R477): the always-on domain unpowered, Night,
Dawn, service, and Twilight with its seal. -/
inductive Life where
  | dark | night | dawn | service | twilight
deriving DecidableEq, Repr

/-- One attestation report as it was returned in a session: partition, its SHA-384, and when (R430). -/
structure Report where
  part : Nat
  digest : BitVec 384
  since : Nat
deriving DecidableEq, Repr

/-- An open SPDM secured session (R428): its port, identifier, the digest of the requester's key, whether
authentication was mutual, the reports returned, and the partitions whose check it has passed (DESIGN CHOICE, log
entry 55). -/
structure Session where
  port : Port
  sid : Nat
  requester : BitVec 384
  mutualAuth : Bool
  reports : List Report
  passed : List Nat
deriving DecidableEq, Repr

/-- An SRAM word that holds an error (R406): the memory kind of R418, the unit that holds it, the 64-bit word's
address, and whether two bits are wrong. -/
structure SramErr where
  kind : Nat
  unit : Nat
  word : Nat
  double : Bool
deriving DecidableEq, Repr

/-- A special-function table slot: its state code under R233 and the image it holds. -/
structure SfuSlot where
  code : Nat := 0
  image : List Byte := []
deriving DecidableEq, Repr

/-- A table load in progress: slot, source address, and the counter it signals (R243, R246). -/
structure SfuLoad where
  slot : Nat
  src : Nat
  sig : Option Nat
deriving DecidableEq, Repr

/-- The measurement of what was loaded in a partition (R432): the PMR, the number of loads, the logged entries. -/
structure Measure where
  pmr : BitVec 384 := 0#384
  loads : Nat := 0
  log : List (BitVec 512) := []
deriving DecidableEq, Repr

/-! ### DRAM and bank lane units (04_bank_lane_units.md) -/

/-- A stored 32-bit word with its mod-7 residue (R111). -/
structure ResWord where
  val : Word := 0#32
  res : BitVec 3 := 0#3
deriving DecidableEq, Repr

/-- An operation bound by ARM and ARMX (R89, R288); `nv` is V, `lbase` and `lstride` are bytes. -/
structure BluOp where
  form : Nat
  wfmt : Nat
  afmt : Nat
  nv : Nat
  geom : Nat
  ns : Nat
  lbase : Nat
  lstride : Nat
  ticket : Nat
deriving DecidableEq, Repr

/-- A RUN in progress or checkpointed: its word, the data that came with it, the rows it has open in RB0 and RB1, and
the next column; its pass is in the word (R105, R108). -/
structure BluRun where
  word : DWord
  data : List Column
  row : Nat
  row1 : Nat
  col : Nat
deriving DecidableEq, Repr

/-- A bank and its BLU (R87, R296). `st` is BLUSTAT.STATE of a BLU that is not OFFLINE (DESIGN CHOICE, log entry 7). -/
structure Blu where
  /-- Whether the urgent operation is draining. -/
  udrain : Bool := false
  st : Nat := 1
  lit : Bool := false
  /-- The ticket the bank's lit token was taken for (R133). -/
  litBy : Option Nat := none
  op : Option BluOp := none
  uop : Option BluOp := none
  uhalt : Bool := false
  acc : List ResWord := List.replicate 16 {}
  shadow : List ResWord := List.replicate 16 {}
  ckptValid : Bool := false
  latch : Tab ResWord := []
  ulatch : Tab ResWord := []
  run : Option BluRun := none
  urun : Option BluRun := none
  ckpt : Option BluRun := none
  uckpt : Option BluRun := none
  /-- Parity of the checkpoint record and of the urgent checkpoint record (R87). -/
  ckptPar : Bool := false
  uckptPar : Bool := false
  drain : List DWord := []
  /-- Latch sums that a DRAIN of an accumulate form has put into the drain buffer so far, by lane (R103). -/
  sent : Nat := 0
  usent : Nat := 0
  rb0 : Option Nat := none
  rb1 : Option Nat := none
  /-- Whether the row in RB0, and that in RB1, was opened under the timer policy (R295). -/
  rb0Timer : Bool := false
  rb1Timer : Bool := false
  err : BitVec 7 := 0#7
  ce : Nat := 0
  ue : Nat := 0
  rescnt : Nat := 0
  last : Nat := 0
  debt : Int := 0
  ptr : Nat := 0
  /-- The cycle of the last tREFI counted, and the cycle at which the last REFB ends (R291, R296). -/
  refiAt : Nat := 0
  refUntil : Nat := 0
  /-- Whether a REFB is owed before the urgent operation's ACT (R298). -/
  refOwed : Bool := false
  /-- Whether the arithmetic of the next column swept goes wrong, as its residues then show (R112). -/
  slip : Bool := false
  /-- BLUST: whether self-test ran, passed, and its first failing test (R494). -/
  tested : Bool := false
  passed : Bool := false
  firstFail : Nat := 0
deriving DecidableEq, Repr

/-! ### Pillar controllers (11_pillar_controller.md) -/

/-- A selection: die mask, first and last bank (R289) (DESIGN CHOICE, log entry 7). -/
structure Sel where
  dies : Nat := 0
  lo : Nat := 0
  hi : Nat := 0
deriving DecidableEq, Repr

/-- A word that has reached the controller and is not yet sent: what comes with it, where it comes from, the cycle it
came at, and the selection it acts under (R289, R292, R301). -/
structure Waiting where
  word : DWord
  data : List Column
  check : BitVec 32
  upto : Nat
  src : BusSource
  since : Nat
  sel : Sel
deriving DecidableEq, Repr

/-- A shadow-ring entry: the word with right parity, what came with it, the selection in force, where it comes from, the
ticket of the bank operation it belongs to, the dies that failed it, and how often each has failed it in succession
(R301-R303). -/
structure Shadow where
  tag : Nat
  word : DWord
  data : List Column
  check : BitVec 32
  upto : Nat
  sel : Sel
  src : BusSource := .normal
  ticket : Option Nat := none
  failed : List Nat := []
  fails : Tab Nat := []
deriving DecidableEq, Repr

/-- What a pillar controller and its dies hold beside their registers: the selection, the words that wait, the shadow ring
in sending order, the dies that discard words, an ARM that awaits its ARMX, whether an APPLY runs, the column that the
last RD returned with its check bits, and the identity word that the last IDRD returned. -/
structure PillarSt where
  sel : Sel := {}
  waiting : List Waiting := []
  ring : List Shadow := []
  discarding : List Nat := []
  arm : Option DWord := none
  applying : Bool := false
  rdata : Option (BitVec 288) := none
  identity : Option Word := none
deriving DecidableEq, Repr

/-- What the columns of a zone of a die read as that nothing has written since: undefined contents of a power
generation, zeros with right check bits, or zeros with poison check bits (R482, R424, R310). -/
inductive Fill where
  | undef (gen : Nat)
  | zeros
  | poison
deriving DecidableEq, Repr

/-! ### Bank operations (05_bank_operations.md) -/

/-- How far an issued bank operation has come (R139, R142). -/
inductive OpStage where
  | running | reduced | committed | faulted
deriving DecidableEq, Repr

/-- An issued bank operation under its ticket: its draw order, its lane, opcode, descriptors and parameters (R121),
the leaves that have arrived, the rows each bank has run, and the banks that have ended it. -/
structure BankOp where
  seq : Nat
  core : Nat
  lane : Nat
  op : Nat
  w : Nat
  vc : Option Nat
  x : Nat
  y : Nat
  stg : Nat
  xv : Nat
  nv : Nat
  ns : Nat
  p0 : Nat
  pcount : Nat
  nrow : Nat
  rows : List Nat
  stage : OpStage := .running
  leaves : Tab (Option Word) := []
  ran : Tab Nat := []
  ended : List Nat := []
deriving DecidableEq, Repr

/-! ### Peer traffic (R352, R353) -/

/-- A peer message as it left: kind, destination member and the message with its key, counter and tag. -/
structure PeerSent where
  kind : Nat
  dest : Nat
  msg : PeerMsg
deriving DecidableEq, Repr

/-! ### Attachment and security (R344-R348, R428-R439) -/

/-- What the security block keeps of a partition's attachment: its session token, its consecutive re-attach refusals,
and whether it is locked out (R344, R348). -/
structure Attach where
  token : Nat := 0
  fails : Nat := 0
  locked : Bool := false
deriving DecidableEq, Repr

/-- The standard SPDM error codes the responder answers with (R428, R429). -/
inductive SpdmError where
  | sessionLimitExceeded | unsupportedRequest | unexpectedRequest | invalidRequest
deriving DecidableEq, Repr

/-- What the SPDM responder sends on a port: an error, the identifier of an opened session, a measurement block, or the
status of an Aqast message with the token it carries (R428-R430). -/
inductive SpdmMsg where
  | error (port : Port) (code : SpdmError)
  | opened (port : Port) (sid : Nat)
  | block (port : Port) (sid : Nat) (index : Nat) (bytes : List Byte)
  | status (port : Port) (sid : Nat) (status : Nat) (token : Option Nat)
deriving DecidableEq, Repr

/-- A bundle open in a key slot: its content key and the header fields that decryption uses (R433, R434). -/
structure Bundle where
  key : List Byte
  aad : List Byte
  nchunk : Nat
  lastlen : Nat
deriving DecidableEq, Repr

/-- The bundle command that runs in a partition (R435, R436). -/
inductive BundleJob where
  | opening (slot hdr : Nat)
  | decrypting (slot src dst first count : Nat)
deriving DecidableEq, Repr

/-! ### Sequencer cores (16_sequencer_cores.md) -/

/-- A WAITEV in progress: the events it selects, its cycles and when it issued (R459). -/
structure WaitEv where
  mask : Nat
  cycles : Nat
  since : Nat
deriving DecidableEq, Repr

/-- A plan command in progress (R462, R465). -/
inductive PlanJob where
  | loading | moving
deriving DecidableEq, Repr

/-- What a sequencer holds beside its registers and memories: window register n of window w at 16w + n (R450, R451),
the timestamp TIME latched, the image's ENTRY, RESTART, SPLIM and CODELEN (R461), the CHEAD and CREDIT of each ring at
the last WAITEV that returned that event (R459), a WAITEV in progress, a command in progress, the image's digest, and the
Ledger stores in flight. -/
structure SeqSt where
  win : Tab Word := []
  time : DWord := 0#64
  entry : Nat := 0
  restart : Nat := 0
  splim : Nat := 0
  codelen : Nat := 0
  seenHead : Tab Nat := []
  seenCredit : Tab Nat := []
  wait : Option WaitEv := none
  job : Option PlanJob := none
  /-- Digest of the image in plan memory (R432, R465). -/
  digest : BitVec 384 := 0#384
  /-- Ledger stores that no SFENCE has made visible yet, oldest first (R449). -/
  stores : List (Nat × Byte) := []
deriving DecidableEq, Repr

/-! ### Beat and power (13_beat_and_power.md) -/

/-- The limits of a segment (R132): L, E and D. -/
structure Limits where
  l : Nat := 0
  e : Nat := 0
  d : Nat := 0
deriving DecidableEq, Repr

/-- The beat and the envelope beside their registers: the cycle the beat began at, the period its ticks divide, the
ticks begun, the last accepted edge, the broadcast that arrived in this beat, SRC as it acts, the re-arm phase (0 none,
1 counting edges, 2 awaiting a broadcast, 3 awaiting the edge) with its edges and extreme periods, the committed host
schedule, the envelope and allotment in force, the limits of the current and the coming segment, the coming segment's
admissions (bank key, ticket, whether under an ember token), the window of R371, and the peak of lit tokens. -/
structure Beat where
  start : Nat := 0
  basis : Nat := 150000
  tick : Nat := 1024
  lastEdge : Option Nat := none
  bcast : Option Nat := none
  src : Bool := false
  rearm : Nat := 0
  edges : Nat := 0
  pmin : Nat := 0
  pmax : Nat := 0
  rearmEpoch : Nat := 0
  host : List Nat := List.replicate 16 0
  commit : Bool := false
  /-- The cycle in which the pending frame's last byte arrived (R364). -/
  frameAt : Option Nat := none
  env : Nat := 0
  allot : List Nat := List.replicate 16 0
  cur : Limits := {}
  next : Limits := {}
  planned : Bool := false
  plan : List (Nat × Nat × Bool) := []
  winCycle : Nat := 0
  winSpin : Nat := 0
  winMtx : Nat := 0
  /-- The deduction of the window that closed last (R371). -/
  ded : Nat := 0
  peak : Nat := 0
  tripDue : Bool := false
  /-- Whether Dawn has ended and no beat has begun since (R371, R487). -/
  fresh : Bool := false
  coolAt : Option Nat := none
  vinAt : Option Nat := none
deriving DecidableEq, Repr

/-! ### The seal (R390, R391) -/

/-- What a seal holds: registers of the sealed sections by offset, the lines and cursors of the rings, the account of
every accepted item, completion places, descriptor files, loop memory, baselines, tokens and the event log. -/
structure Sealed where
  regs : Tab DWord := []
  lines : Tab (Option HeldLine) := []
  rings : Tab RingSt := []
  items : List Item := []
  places : Tab Byte := []
  descs : Tab (Option Desc) := []
  loopMem : Tab Byte := []
  baselines : Tab (BitVec 16) := []
  attach : Tab Attach := []
  evlog : Tab (BitVec 384) := []
deriving DecidableEq, Repr

/-- A section of a seal image: its TYPE and its content (R390, R391). -/
structure SealSection where
  type : Nat
  data : List Byte
deriving DecidableEq, Repr

/-- A seal: what its header says, what its sections hold and how they stand in the image, and the 64 bytes of its commit
record, none until it is committed (R391). -/
structure Seal where
  session : Nat
  cause : Nat
  intact : Nat
  guar : Nat
  time : Nat
  body : Sealed
  sections : List SealSection := []
  commit : List Byte := []
deriving DecidableEq, Repr

/-- A part whose failure counts in FAILED_PARTS (R386): a die at 17p + d, the lanes a port lost when it trained to a
width, a core, a sequencer or a hold-up string. -/
inductive FailedPart where
  | die (k : Nat) | lanes (port width : Nat) | core (c : Nat) | seq (q : Nat) | string (i : Nat)
deriving DecidableEq, Repr

/-- A Twilight in progress (R392, R393): its cause, when it began, the KIND of reset that follows it, and whether its
quiesce point has passed and its programming has begun. -/
structure Twilight where
  cause : Nat
  since : Nat
  reset : Option Nat
  /-- Whether it began before a Dawn's COMMIT and so writes no seal (R486). -/
  sealless : Bool := false
  quiesced : Bool := false
  programming : Bool := false
deriving DecidableEq, Repr

/-! ### Alarms (R402, R403, R505) -/

/-- An entry of the alarm ring. -/
structure Alarm where
  ticks : Nat
  source : Nat
  reading : Nat
deriving DecidableEq, Repr

/-- An alarm source: the last sample, whether it stands asserted, since when it has not been, and the cycle of its last
latch. -/
structure AlarmSource where
  last : Bool := false
  on : Bool := false
  offSince : Nat := 0
  latched : Option Nat := none
  everOff : Bool := false
deriving DecidableEq, Repr

/-- The block: everything the spec gives the module. -/
structure Block where
  /-- Hub cycles since reset; the source of the timestamp. -/
  cycle : Nat := 0
  /-- The cycle from which the timestamp counts (R404). -/
  timeBase : Nat := 0
  /-- The RTC's ticks at cycle `rtcAt` (R403). -/
  rtcBase : Nat := 0
  rtcAt : Nat := 0
  /-- The model's own counter of free values drawn. -/
  free : Nat := 0
  /-- Arrival stamps given so far to host writes (R330). -/
  stamp : Nat := 0
  /-- Every register of BAR0, by offset; an unlisted one reads as its reset value. -/
  regs : Tab DWord := []
  /-- Scratchpad bytes of core c at c × 2^26 + address; 0 where unlisted (R377). -/
  scratch : Tab Byte := []
  /-- Ledger bytes by offset; 0 where unlisted (R377). -/
  ledger : Tab Byte := []
  /-- Loop-memory bytes of half h of core c at (2c + h) × 32,768 + offset (R168). -/
  loopMem : Tab Byte := []
  /-- Plan-memory bytes of sequencer q at q × 32,768 + address (R448). -/
  planMem : Tab Byte := []
  /-- Stack bytes of sequencer q at q × 65,536 + address (R448). -/
  stackMem : Tab Byte := []
  /-- Descriptor entry h of core c at 512c + h; none is invalid (R57). -/
  descs : Tab (Option Desc) := []
  /-- Ring lines of ring r at 8,192r + position (R146, R328). -/
  lines : Tab (Option HeldLine) := []
  /-- Assembly state of each ring. -/
  rings : Tab RingSt := []
  /-- Accepted items whose record is not posted, oldest first (R387). -/
  items : List Item := []
  /-- The active loop call of each core (R167). -/
  calls : Tab (Option LoopCall) := []
  /-- Queue of engine e of core c, lane l, at 2(7c + e) + l, oldest entry first. -/
  queues : Tab (List Entry) := []
  /-- Baseline of sync counter n (R259). -/
  baselines : Tab (BitVec 16) := []
  /-- Result-window writes not yet visible, oldest first. -/
  winBuf : List WinWrite := []
  /-- The Ledger as the read pipelines of the result window (M) and of its BAR2 mirror (I) last showed it (R339). -/
  pathM : Tab Byte := []
  pathI : Tab Byte := []
  /-- What has left for the host, oldest first. -/
  hostOut : List HostMsg := []
  /-- Half-word latches: ports 0 and 1, sequencer q at 2 + q, the MC at 18 (R517). -/
  latches : Tab Latch := []
  /-- Event-log entry i (R414). -/
  evlog : Tab (BitVec 384) := []
  /-- Logged events the standing orders have still to consider, in EVSEQ order (R410). -/
  orderEvents : List LoggedEvent := []
  /-- When an event was last logged for violation code c (R351). -/
  vioLog : Tab (Option Nat) := []
  /-- Open secured sessions of both ports, oldest first (R428). -/
  sessions : List Session := []
  /-- SRAM words that hold an error (R406). -/
  sramBad : List SramErr := []
  /-- Table slot n of core c at 64c + n (R233). -/
  sfuSlots : Tab SfuSlot := []
  /-- The table load in progress in each core (R243). -/
  sfuLoads : Tab (Option SfuLoad) := []
  /-- The load measurements of each partition (R432). -/
  measures : Tab Measure := []
  /-- Stored DRAM columns, data below check bits, by physical location; none where nothing has been stored since the
  die was last powered (R91). -/
  dram : Tab (Option (BitVec 288)) := []
  /-- Number of the next power generation of DRAM contents. -/
  dramGen : Nat := 1
  /-- What unlisted columns of zone z of physical die d of pillar p read as, at 3(17p + d) + z: zone 0 holds rows
  0-6,135, zone 1 rows 6,136-6,141, zone 2 rows 6,142-6,143 (R482). -/
  fills : Tab Fill := []
  /-- Selection, shadow ring and dies of each pillar (R289, R301, R302). -/
  pillars : Tab PillarSt := []
  /-- The die each pillar's spare serves, as the MC has recorded it in NOR (R311). -/
  spareMap : Tab (Option Nat) := []
  /-- The bank operation that holds each ticket (R18). -/
  ops : Tab (Option BankOp) := []
  /-- Number of bank operations that have drawn a ticket. -/
  opSeq : Nat := 0
  /-- BNK lanes, as 2c + l, in which an operation has faulted after issue since the lane's last BV.FENCE (R141). -/
  bnkFault : List Nat := []
  /-- Banks and their BLUs, by physical bank (R87). -/
  blus : Tab Blu := []
  /-- Rows of a die being copied to the spare that were written after their copy, by pillar (R307). -/
  spareMarks : Tab (List Nat) := []
  /-- Key of job-key index i of partition k at 4k + i (R438). -/
  jobKeys : Tab (List Byte) := []
  /-- Sending counter of each index, core and destination (R439). -/
  txCtr : Tab Nat := []
  /-- Receiving counter of each index, source member and path (R439). -/
  rxCtr : Tab Nat := []
  /-- What has left for the peer switch, oldest first. -/
  peerOut : List PeerSent := []
  /-- Number of the next peer read request. -/
  reqId : Nat := 0
  /-- Attachment of each partition. -/
  attach : Tab Attach := []
  /-- Identifier of the next secured session. -/
  nextSid : Nat := 0
  /-- What the SPDM responder has sent, oldest first. -/
  spdmOut : List SpdmMsg := []
  /-- The secure IDE streams: the link stream of port p at 2p and its selective stream at 2p + 1 (R320, R428). -/
  ideKeys : Tab (Option IdeKey) := []
  /-- Whether the host edge is bifurcated since the last Dawn (R316). -/
  bifurcated : Bool := false
  /-- The least width each port has trained to since Dawn, its Dawn width to begin with (R386). -/
  dawnWidth : Tab Nat := []
  /-- Bundle key slot i of partition k at 16k + i; none is EMPTY. -/
  bundles : Tab (Option Bundle) := []
  /-- The bundle command running in each partition. -/
  bundleJobs : Tab (Option BundleJob) := []
  /-- Partitions whose zeroisation runs (R442). -/
  zeroising : List Nat := []
  /-- The standing-order words that SAVE wrote to NOR, by index 0-127, and ARM (R411). -/
  norOrders : Tab DWord := []
  norArm : Bool := false
  /-- Version, as the model numbers accepted images from 0, of the running MC firmware, security-block firmware,
  sequencer base firmware and NOR configuration (R480, R493). -/
  fwRun : Tab Nat := []
  /-- Version held in copy c (0 A, 1 B) of image i, at 2i + c; the NOR configuration is image 3 (R480). -/
  fwCopies : Tab Nat := []
  /-- Copy that the last Dawn started of each firmware image, 0 A, 1 B (R480). -/
  fwStarted : Tab Nat := []
  /-- The firmware image whose update runs (R493). -/
  fwJob : Option Nat := none
  /-- Number of the next version the model gives an accepted image. -/
  fwNext : Nat := 1
  /-- The sequencers. -/
  seqs : Tab SeqSt := []
  /-- The beat and the envelope. -/
  beat : Beat := {}
  /-- What the shelf has read over I3C, oldest first (R366). -/
  shelfOut : List (List Byte) := []
  /-- The dynamic I3C address (R362) and the slot straps (R507). -/
  i3cAddr : Option (BitVec 7) := none
  straps : BitVec 3 := 7#3
  /-- Domains that a DOMCTL write has still to switch, ascending; the first is switching (R376). -/
  domQueue : List Nat := []
  /-- Seal areas S0 and S1 (R391). -/
  seals : Tab (Option Seal) := []
  /-- The image captured at the quiesce point and not yet committed. -/
  sealing : Option Seal := none
  /-- The Twilight in progress. -/
  twilight : Option Twilight := none
  /-- The seal that this Dawn found in step SECURE, and the switched domains it has kept powered (R395, R396). -/
  found : Option Seal := none
  intact : Nat := 0
  /-- Whether step REPLAY of this Dawn has restored the journal and given its verdicts. -/
  replayed : Bool := false
  /-- Whether step REPLAY has re-issued an entry since the last completed Dawn (R486). -/
  reissued : Bool := false
  /-- WAITTO and FLTCTL values held back until COMMIT (R487). -/
  heldBack : Tab DWord := []
  /-- The cycle at which Dawn began (R492). -/
  dawnAt : Nat := 0
  /-- Hold-up strings tested since Dawn began (R401, R487). -/
  stringsTested : List Nat := []
  /-- The parts that have failed since Dawn, each once (R386). -/
  failedParts : List FailedPart := []
  /-- Measured usable energy of each string, in units of 10 mJ (R401). -/
  stringEnergy : Tab Nat := []
  /-- Whether MRST# stands asserted since its filter acted (R504). -/
  mrstHeld : Bool := false
  /-- Whether the 48 V input has qualified for the Dawn that waits in QUALIFY. -/
  supplyOk : Bool := false
  /-- The alarm ring, oldest first (R403). -/
  alarms : List Alarm := []
  /-- Alarm source s at s (R402). -/
  sources : Tab AlarmSource := []
  /-- Whether the always-on SRAM has lost its contents since the last Dawn (R404). -/
  aonLost : Bool := false
  /-- Whether a backup cell is fitted. -/
  cell : Bool := false
  /-- When each standing order last fired, by index from 0 (R410). -/
  orderAt : Tab (Option Nat) := []
  /-- Dies, as 17p + d, whose banks all ran self-test in the last Dawn; the units that failed say so themselves
(R494). -/
  testedDies : List Nat := []
  /-- Pillars whose spare-map clear is pending in NOR (R491). -/
  clrPend : List Nat := []
  /-- Where the module stands. -/
  life : Life := .dawn
deriving DecidableEq, Repr

/-- The state of the model: the commands that wait, first in, first out, and the block they act on. -/
structure State where
  pending : List Instr := []
  block : Block := {}
deriving DecidableEq, Repr

/-- The state right after reset: no command waits (DESIGN CHOICE, log entry 3). -/
def State.reset : State := {}

end Sys2Proof.Machine
end

