-- ==== Sys2Proof/Machine/Ops.lean ====
section
/-!
DEFINITION. The named operations over registers, memories, ownership, events and faults that every command's meaning
is written with.
-/
namespace Sys2Proof.Machine

/-- A command's effect is on the block alone: the commands that wait stay as they are. -/
def State.act (st : State) (f : Block → Host.Outcome Block Fault Refusal) : Host.Outcome State Fault Refusal :=
  match f st.block with
  | .next b => .next { st with block := b }
  | .fault x => .fault x
  | .refused x => .refused x

/-! ### Registers -/

/-- A register's value. -/
def Block.reg (s : Block) (a : Nat) : DWord := s.regs.get resetReg a

/-- A register set whole by the device. -/
def Block.setReg (s : Block) (a : Nat) (v : DWord) : Block := { s with regs := s.regs.set resetReg a v }

/-- A register's value as a number. -/
def Block.rn (s : Block) (a : Nat) : Nat := (s.reg a).toNat

/-- A register set to a number. -/
def Block.setRn (s : Block) (a n : Nat) : Block := s.setReg a (BitVec.ofNat 64 n)

/-- Field [hi:lo] of a register. -/
def Block.fld (s : Block) (a hi lo : Nat) : Nat := bits (s.rn a) hi lo

/-- A number with field [hi:lo] replaced. -/
def putBits (x hi lo v : Nat) : Nat :=
  (x >>> (hi + 1)) <<< (hi + 1) + (v % 2 ^ (hi + 1 - lo)) <<< lo + x % 2 ^ lo

/-- A register with field [hi:lo] replaced. -/
def Block.setFld (s : Block) (a hi lo v : Nat) : Block := s.setRn a (putBits (s.rn a) hi lo v)

/-- Bits of a mask set in a register. -/
def Block.orReg (s : Block) (a m : Nat) : Block := s.setReg a (s.reg a ||| BitVec.ofNat 64 m)

/-- A 32-bit count raised by n, saturating at 2³² − 1 (R417). -/
def Block.bump32 (s : Block) (a n : Nat) : Block := s.setRn a (min (s.rn a + n) 0xFFFFFFFF)

/-- A 48-bit counter raised by n: it wraps and then sets WRAPPED (R417). -/
def Block.bump48 (s : Block) (a n : Nat) : Block :=
  let v := s.rn a
  let c := v % 2 ^ 48 + n
  s.setRn a (c % 2 ^ 48 + (if 2 ^ 48 ≤ c ∨ bit v 63 then 2 ^ 63 else 0))

/-- A 32-bit register raised by n, modulo 2³². -/
def Block.bumpMod32 (s : Block) (a n : Nat) : Block := s.setRn a ((s.rn a + n) % 2 ^ 32)

/-! ### Free values -/

/-- The next free value and the state that has drawn it (DESIGN CHOICE, log entry 4). -/
def Block.draw (s : Block) : Nat × Block := ((Config.freeValue s.free).toNat, { s with free := s.free + 1 })

/-! ### Byte memories -/

/-- The reset contents of a byte memory: 0 (R377) (DESIGN CHOICE, log entry 107). -/
def byteZero (_ : Nat) : Byte := 0#8

/-- `n` bytes from a byte memory. -/
def readBytes (t : Tab Byte) (a : Nat) : Nat → List Byte
  | 0 => []
  | n + 1 => t.get byteZero a :: readBytes t (a + 1) n

/-- Bytes stored at consecutive addresses, ascending. -/
def writeBytes (t : Tab Byte) (a : Nat) : List Byte → Tab Byte
  | [] => t
  | b :: bs => writeBytes (t.set byteZero a b) (a + 1) bs

/-- Key of a scratchpad byte. -/
def spKey (c : Nat) (a : Nat) : Nat := c * 2 ^ 26 + a

/-- Last populated scratchpad byte (R68). -/
def spTop : Nat := 0x27FFFFF

/-- `n` scratchpad bytes of core c. -/
def Block.spRead (s : Block) (c a n : Nat) : List Byte := readBytes s.scratch (spKey c a) n

/-- Bytes stored into the scratchpad of core c. -/
def Block.spWrite (s : Block) (c a : Nat) (bs : List Byte) : Block :=
  { s with scratch := writeBytes s.scratch (spKey c a) bs }

/-- `n` Ledger bytes. -/
def Block.ledRead (s : Block) (a n : Nat) : List Byte := readBytes s.ledger a n

/-- Bytes stored into the Ledger. -/
def Block.ledWrite (s : Block) (a : Nat) (bs : List Byte) : Block := { s with ledger := writeBytes s.ledger a bs }

/-! ### Time -/

/-- The nanosecond timestamp: hub cycles at 1.5 GHz (00_scope.md, Conventions; DESIGN CHOICE, log entry 2), from the Dawn that found
the always-on domain lost (R404). -/
def Block.now (s : Block) : Nat := (s.cycle - s.timeBase) * 2 / 3

/-- Microseconds as hub cycles. -/
def usCycles (us : Nat) : Nat := us * 1500

/-! ### Ownership (R421, R258, R343) -/

/-- STATE of a partition: 0 FREE, 1 BOUND, 2 RELEASING (R444). -/
def Block.partState (s : Block) (k : Nat) : Nat := s.fld (rPart k 8) 1 0

/-- The first of `n` candidates from `i` on that meets a test. -/
def firstFrom (p : Nat → Bool) (i : Nat) : Nat → Option Nat
  | 0 => none
  | n + 1 => if p i then some i else firstFrom p (i + 1) n

/-- The partition a core belongs to (R421). -/
def Block.coreOwner (s : Block) (c : Nat) : Option Nat :=
  firstFrom (fun k => s.partState k != 0 && bit (s.rn (rPart k 0)) c) 0 8

/-- The partition a pillar belongs to (R421). -/
def Block.pillarOwner (s : Block) (p : Nat) : Option Nat :=
  firstFrom (fun k => s.partState k != 0 && bit (s.rn (rPart k 0)) (8 + p)) 0 8

/-- The partition whose pool share holds pool counter p (R258, R421). -/
def Block.poolOwner (s : Block) (p : Nat) : Option Nat :=
  firstFrom (fun k => s.partState k != 0 && decide (64 * s.fld (rPart k 4) 5 0 ≤ p) &&
    decide (p < 64 * (s.fld (rPart k 4) 5 0 + s.fld (rPart k 4) 12 6))) 0 8

/-- Whether a counter number is one R257 defines. -/
def ctrDefined (n : Nat) : Bool :=
  if n < 0x200 then decide (n % 64 < 48) else decide (0x1000 ≤ n) && decide (n < 0x2000)

/-- The partition a counter belongs to (R258). -/
def Block.ctrOwner (s : Block) (n : Nat) : Option Nat :=
  if ctrDefined n = false then none else if n < 0x1000 then s.coreOwner (n / 64) else s.poolOwner (n - 0x1000)

/-- ATT.k.STATE: 0 DETACHED, 1 ATTACHED, 2 ORPHANED, 3 PENDING (R343). -/
def Block.attState (s : Block) (k : Nat) : Nat := s.fld (rHi (0x500 + 4 * k)) 1 0

/-- The port of ATT.k. -/
def Block.attPort (s : Block) (k : Nat) : Nat := s.fld (rHi (0x500 + 4 * k)) 2 2

/-- Whether partition k is ATTACHED on port p. -/
def Block.attachedOn (s : Block) (k p : Nat) : Bool := s.attState k == 1 && s.attPort k == p

/-- Whether the partition table grants port p to partition k (R323). -/
def Block.portGranted (s : Block) (k p : Nat) : Bool := bit (s.rn (rPart k 0)) (24 + p)

/-- Whether a host access through port p reaches partition k: the table grants the port, and it is ATTACHED there
(R323). -/
def Block.reachedOn (s : Block) (k p : Nat) : Bool := s.attachedOn k p && s.portGranted k p

/-- Whether a port's data link is up. -/
def Block.dlUp (s : Block) (p : Nat) : Bool := bit (s.rn (rHi (0x10 * p))) 0

/-- Whether the partition is ATTACHED on a port whose link is up: where its host-memory traffic goes (R343, R200). -/
def Block.attUp (s : Block) (k : Nat) : Bool := s.attState k == 1 && s.dlUp (s.attPort k)

/-- Whether a switched power domain is on and ready (R376, R384). -/
def Block.domOn (s : Block) (d : Nat) : Bool := bit (s.rn (rEv (0x110 + 4 * (d / 32)))) (d % 32)

/-- First byte and size of a partition's Ledger allocation (R355). -/
def Block.ledAlloc (s : Block) (k : Nat) : Nat × Nat :=
  let v := s.rn (rHi (0x400 + 4 * k))
  (bits v 8 0 * 0x10000, bits v 17 9 * 0x10000)

/-- Whether the byte range [a, a + n) lies in partition k's Ledger allocation. -/
def Block.inLedAlloc (s : Block) (k a n : Nat) : Bool :=
  let (b, z) := s.ledAlloc k
  decide (b ≤ a) && decide (a + n ≤ b + z)

/-- First byte and size of partition k's sealed range (R436). -/
def Block.sealedRange (s : Block) (k : Nat) : Nat × Nat :=
  (s.fld (rWb k 0x20) 8 0 * 0x10000, s.fld (rWb k 0x20) 17 9 * 0x10000)

/-! ### Events (R414, R415) -/

/-- UNIT of a core event. -/
def unitCore (c : Nat) : Nat := 0x1000 + c
/-- UNIT of a pillar-die event. -/
def unitDie (p d : Nat) : Nat := 0x2000 + 32 * p + d
/-- UNIT of a port event. -/
def unitPort (p : Nat) : Nat := 0x3000 + p
/-- UNIT of a sequencer event. -/
def unitSeq (q : Nat) : Nat := 0x4000 + q
/-- UNIT of a partition event. -/
def unitPart (k : Nat) : Nat := 0x5000 + k

/-- Whether sequence number a precedes b (R152). -/
def seqBefore (a b : Nat) : Bool :=
  let d := (b + 2 ^ 32 - a % 2 ^ 32) % 2 ^ 32
  decide (1 ≤ d) && decide (d < 2 ^ 31)

/-- An empty log entry. -/
def noEvent (_ : Nat) : BitVec 384 := 0#384

/-- An event written into the log over the oldest entry, and offered to the standing orders while they are armed or
Dawn lasts (R410, R414, R416, R488). `body` is bytes 16-47 as a number. -/
def Block.logEvent (s : Block) (cls unit body : Nat) : Block :=
  let n := s.rn (rEl 0)
  let old := (s.evlog.get noEvent (n % 16384)).toNat
  let lost := old != 0 && !(seqBefore (bits old 31 0) (s.rn (rEl 4)))
  let s := if lost then s.bump32 (rEl 8) 1 else s
  let e := n + cls <<< 32 + unit <<< 48 + (s.now % 2 ^ 64) <<< 64 + (body % 2 ^ 256) <<< 128
  let s := { s with evlog := s.evlog.set noEvent (n % 16384) (BitVec.ofNat 384 e) }
  let s := s.bumpMod32 (rEl 0) 1
  if bit (s.rn (rSo 0)) 0 || s.life == .dawn then
    { s with orderEvents := s.orderEvents ++ [⟨BitVec.ofNat 32 n, cls, unit⟩] }
  else s

/-- WRITE_REJECT: a refused register write changes nothing and is logged (R7, R415). -/
def Block.writeReject (s : Block) (off value : Nat) : Block :=
  s.logEvent 2 0 (off % 2 ^ 32 + (value % 2 ^ 64) <<< 32)

/-- An event whose BODY the spec names but does not lay out: its bytes are free (DESIGN CHOICE, log entry 21). -/
def Block.logOpen (s : Block) (cls unit : Nat) : Block :=
  let (x, s) := s.draw
  s.logEvent cls unit x

/-- Values laid out one after another from byte 0, each in its bytes, little-endian. -/
def packWords : List (Nat × Nat) → Nat
  | [] => 0
  | (v, n) :: t => v % 2 ^ (8 * n) + (packWords t) <<< (8 * n)

/-- An event whose BODY R415 names by content alone: what it names stands in the order named, each value in the bytes of
its register (DESIGN CHOICE, log entry 21). -/
def Block.logWords (s : Block) (cls unit : Nat) (ws : List (Nat × Nat)) : Block := s.logEvent cls unit (packWords ws)

/-- A BEAT event: BEATSTAT and EPOCH (R415). -/
def Block.beatEvent (s : Block) : Block := s.logWords 0x40 0 [(s.rn (rEv 0xC), 4), (s.rn (rEv 0x10), 8)]

/-- A THERMAL event: THERM, TRIPSTAT and FLOW (R415). -/
def Block.thermalEvent (s : Block) : Block :=
  s.logWords 0x50 0 [(s.rn (rEv 0xB0), 4), (s.rn (rEv 0xB8), 4), (s.rn (rEv 0xB4), 4)]

/-- A HOLDUP event: JR.HOLDUP and JR.GUAR (R415). -/
def Block.holdupEvent (s : Block) : Block := s.logWords 0x60 0 [(s.rn (rJr 0x18), 4), (s.rn (rJr 8), 4)]

/-- A JOURNAL event: DAWNSTAT, the replay counts and SEALINFO (R415). -/
def Block.journalEvent (s : Block) : Block :=
  s.logWords 0x80 0 ((s.rn (rJr 0x28), 4) :: (List.range 4).map (fun j => (s.rn (rJr (0x30 + 4 * j)), 4)) ++
    [(s.rn (rJr 0x20), 8)])

/-! ### The guarantee (R386, R418) -/

/-- LAPSED is set and a JOURNAL event logged (R386). -/
def Block.lapsed (s : Block) : Block := (s.setFld (rJr 8) 8 8 1).journalEvent

/-- A condition of GUAR becomes false (R386). -/
def Block.lapse (s : Block) (cond : Nat) : Block :=
  if s.fld (rJr 8) cond cond = 1 then (s.setFld (rJr 8) cond cond 0).lapsed else s

/-- A part has failed since Dawn: FAILED_PARTS counts each part once, and condition 3 goes with the second one (R386). -/
def Block.failPart (s : Block) (x : FailedPart) : Block :=
  if s.failedParts.contains x then s
  else
    let s := { s with failedParts := s.failedParts ++ [x] }
    let n := min 15 s.failedParts.length
    let s := s.setFld (rJr 8) 7 4 n
    if n ≤ 1 then s else s.lapse 2

/-! ### Faults (R173-R176) -/

/-- Where a fault arose, as its record names it (R173). -/
structure FaultSite where
  core : Nat
  queue : Nat
  urgent : Bool
  ring : Nat
  slot : Nat
  body : Bool
  seq : Nat
  iter : Nat
  bodyLine : Nat
deriving DecidableEq, Repr

/-- The 32 bytes of a fault record, as a number (R173). -/
def faultRecord (x : FaultSite) (code detail time : Nat) : Nat :=
  code % 256 + x.core <<< 8 + x.queue <<< 11 + (b2n x.urgent) <<< 15 + x.ring <<< 16 + x.slot <<< 20 +
    (b2n x.body) <<< 23 + (x.seq % 2 ^ 32) <<< 32 + (detail % 2 ^ 64) <<< 64 + (x.iter % 2 ^ 32) <<< 128 +
    (x.bodyLine % 2 ^ 9) <<< 160 + (time % 2 ^ 64) <<< 192

/-- Eight 32-bit words of a record stored at consecutive registers. -/
def Block.setRec (s : Block) (a rec : Nat) : Nat → Block
  | 0 => s
  | n + 1 => (s.setRec a rec n).setRn (a + 4 * n) (bits rec (32 * n + 31) (32 * n))

/-- A fault: its record in the event log and in FLTREC or UFLTREC, FLTCOUNT, and the stop of a RUNNING core in STOP
mode unless `noStop` (R173, R174, R228). The answer's second part is the event's sequence number. -/
def Block.raiseFault (s : Block) (x : FaultSite) (code detail : Nat) (noStop : Bool := false) : Block × Word :=
  let rec_ := faultRecord x code detail s.now
  let ev := BitVec.ofNat 32 (s.rn (rEl 0))
  let st := rC x.core 4
  let s := (s.logEvent 1 (unitCore x.core) rec_).bump32 (rC x.core 0xC) 1
  if x.urgent then ((s.setRec (rC x.core 0xE0) rec_ 8).orReg st 0x400, ev)
  else
    let s := if bit (s.rn st) 2 then s else (s.setRec (rC x.core 0xA0) rec_ 8).orReg st 4
    let stop := s.fld (rC x.core 8) 1 0 == 0 && s.fld st 1 0 == 0 && !noStop
    (if stop then s.setFld st 1 0 1 else s, ev)

/-! ### SRAM errors (R406) -/

/-- UNIT of an SRAM_UE event: the core or sequencer that holds the memory, else the module. -/
def sramEventUnit (kind unit : Nat) : Nat :=
  match kind with
  | 0 => unitCore unit | 2 => unitCore unit | 3 => unitCore unit | 4 => unitCore unit
  | 6 => unitSeq unit
  | _ => 0

/-- A read of bytes [a, a + n) of an SRAM: single-bit errors are corrected, written back and counted; a double-bit
error is counted and logged, condition 4 of R386 lapses with one in the journal SRAM, and its DETAIL under R420 is the
answer (R406) (DESIGN CHOICE, log entry 44). -/
def Block.sramRead (s : Block) (kind unit a n : Nat) : Block × Option Nat :=
  let hit := fun x : SramErr => x.kind == kind && x.unit == unit && decide (x.word * 8 < a + n) &&
    decide (a < x.word * 8 + 8)
  let single := s.sramBad.filter (fun x => hit x && !x.double)
  let s := if single.isEmpty then s
    else ({ s with sramBad := s.sramBad.filter (fun x => !(hit x && !x.double)) }).bump32 (rJr (0x50 + 4 * kind))
      single.length
  match s.sramBad.find? hit with
  | none => (s, none)
  | some x =>
    let s := (s.bump32 (rJr (0x70 + 4 * kind)) 1).logEvent 0x14 (sramEventUnit kind unit)
      (kind + unit <<< 8 + (x.word % 2 ^ 32) <<< 32)
    (if kind = 5 then s.lapse 3 else s, some (kind + x.word <<< 3))

/-- Ledger bytes read for errors, quarter by quarter (R406). -/
def Block.ledScan (s : Block) (a n : Nat) : Block × Option Nat := s.sramRead 1 (a / 0x800000) (a % 0x800000) n

/-! ### Load measurement (R432) -/

/-- Nothing has been measured. -/
def noMeasure (_ : Nat) : Measure := {}

/-- A load measured into the PMR of partition k, and logged while it is among the first 128 (R432). -/
def Block.measure (s : Block) (k type unit slot : Nat) (digest : BitVec 384) : Block :=
  let m := s.measures.get noMeasure k
  let e := type + unit <<< 8 + slot <<< 16 + (m.loads % 2 ^ 32) <<< 32 + digest.toNat <<< 64
  let m' : Measure :=
    { pmr := Config.sha384 (leBytes m.pmr.toNat 48 ++ leBytes e 56)
      loads := m.loads + 1
      log := if m.loads < 128 then m.log ++ [BitVec.ofNat 512 (e + s.now <<< 448)] else m.log }
  { s with measures := s.measures.set noMeasure k m' }

/-! ### Items -/

/-- The item with an identity replaced. -/
def Block.mapItem (s : Block) (id : Nat) (f : Item → Item) : Block :=
  { s with items := s.items.map (fun i => if i.id = id then f i else i) }

/-- An item by identity. -/
def Block.item? (s : Block) (id : Nat) : Option Item := s.items.find? (fun i => i.id == id)

/-- The first fault in time stays with the item (R169). -/
def Item.fault (i : Item) (code : Nat) (ev : Word) : Item :=
  if i.faulted then i else { i with faulted := true, fcode := BitVec.ofNat 8 code, evidx := ev }

/-- An item whose last entry has completed and from which nothing more is placed completes (R169); its Path D writes,
if it has any, have then been issued (R388). -/
def Item.settle (i : Item) : Item :=
  if i.phase = .dispatched ∧ i.outstanding = 0 ∧ i.placing = false ∧ i.kind ≠ .fence then
    { i with phase := .complete, pathd := true }
  else i

end Sys2Proof.Machine
end

