-- ==== Sys2Proof/Machine/Queue.lean ====
section
/-!
DEFINITION. Engine queues, waits, signals and the steps every entry takes at the head of its queue
(06_bundles_and_queues.md, 10_synchronisation.md).
-/
namespace Sys2Proof.Machine

/-! ### Queues -/

/-- Key of a queue: core, engine index, lane (0 normal, 1 urgent). -/
def qKey (c e l : Nat) : Nat := 2 * (7 * c + e) + l

/-- An empty queue. -/
def noQueue (_ : Nat) : List Entry := []

/-- The entries of a queue, oldest first. -/
def Block.queue (s : Block) (k : Nat) : List Entry := s.queues.get noQueue k

/-- A queue replaced. -/
def Block.setQueue (s : Block) (k : Nat) (q : List Entry) : Block := { s with queues := s.queues.set noQueue k q }

/-- Position of the head: the first entry that has not issued. -/
def headPos : List Entry → Option Nat
  | [] => none
  | e :: q => if e.stage = .queued then some 0 else (headPos q).map (· + 1)

/-- A list with position i changed. -/
def modifyAt {α : Type} (f : α → α) : List α → Nat → List α
  | [], _ => []
  | a :: l, 0 => f a :: l
  | a :: l, i + 1 => a :: modifyAt f l i

/-- An entry of a queue changed. -/
def Block.mapEntry (s : Block) (k i : Nat) (f : Entry → Entry) : Block := s.setQueue k (modifyAt f (s.queue k) i)

/-- The head entry of a queue. -/
def Block.head? (s : Block) (k : Nat) : Option Entry :=
  match headPos (s.queue k) with
  | some i => (s.queue k)[i]?
  | none => none

/-- Field [hi:lo] of word 0 of an entry. -/
def Entry.f0 (en : Entry) (hi lo : Nat) : Nat := bits en.w0.toNat hi lo
/-- Field [hi:lo] of word 1. -/
def Entry.f1 (en : Entry) (hi lo : Nat) : Nat := bits en.w1.toNat hi lo
/-- Field [hi:lo] of word 2. -/
def Entry.f2 (en : Entry) (hi lo : Nat) : Nat := bits en.w2.toNat hi lo
/-- Field [hi:lo] of word 3. -/
def Entry.f3 (en : Entry) (hi lo : Nat) : Nat := bits en.w3.toNat hi lo
/-- OPCODE (R156). -/
def Entry.opcode (en : Entry) : Nat := en.f0 7 0
/-- SIGE (R156). -/
def Entry.sige (en : Entry) : Bool := en.f0 8 8 == 1
/-- SIG (R156). -/
def Entry.sig (en : Entry) : Nat := en.f0 21 9
/-- WAITE (R156). -/
def Entry.waite (en : Entry) : Bool := en.f0 22 22 == 1
/-- WAITC (R156). -/
def Entry.waitc (en : Entry) : Nat := en.f0 35 23

/-- Where an entry's fault arises. -/
def entrySite (c e l : Nat) (en : Entry) : FaultSite :=
  { core := c, queue := e, urgent := l == 1, ring := en.ring.val, slot := en.slot, body := en.body,
    seq := en.seq.toNat, iter := en.iter.toNat, bodyLine := en.bodyLine }

/-- One entry of an item has completed: its slot's DONE bit, one entry fewer outstanding, and the item settles
(R169, R388). -/
def Item.entryDone (slot : Nat) (i : Item) : Item :=
  Item.settle { i with outstanding := i.outstanding - 1, done := i.done ||| (1#6 <<< slot) }

/-- Completed entries leave the front of the queue in order (R15), each settling its item. -/
def Block.retire (s : Block) (k : Nat) : Block :=
  let q := s.queue k
  let gone := q.takeWhile (fun en => en.stage == .finished)
  let s := s.setQueue k (q.dropWhile (fun en => en.stage == .finished))
  gone.foldl (fun s en => s.mapItem en.item (Item.entryDone en.slot)) s

/-- OVF_SAT of a core (R47). -/
def Block.ovfSat (s : Block) (c : Nat) : Bool := bit (s.rn (rC c 0xA00)) 0

/-- Position i of a queue completes without a signal. -/
def Block.finishEntry (s : Block) (k i : Nat) : Block :=
  (s.mapEntry k i (fun en => { en with stage := .finished, wait := none })).retire k

/-- An entry faults: the record, the item's first fault, and the entry's completion (R169, R173, R174). -/
def Block.faultEntry (s : Block) (c e l i : Nat) (en : Entry) (code detail : Nat) (noStop : Bool := false) : Block :=
  let (s, ev) := s.raiseFault (entrySite c e l en) code detail noStop
  (s.mapItem en.item (fun it => it.fault code ev)).finishEntry (qKey c e l) i

/-- A failed issue check: the fault code and its DETAIL, none where the spec lays out no DETAIL for the code. -/
structure Bad where
  code : Nat
  detail : Option Nat
deriving DecidableEq, Repr

/-- An entry fails a check: a DETAIL the spec leaves open is a free value (DESIGN CHOICE, log entry 12). -/
def Block.failEntry (s : Block) (c e l i : Nat) (en : Entry) (b : Bad) : Block :=
  match b.detail with
  | some d => s.faultEntry c e l i en b.code d
  | none =>
    let (x, s) := s.draw
    s.faultEntry c e l i en b.code (x % 2 ^ 64)

/-! ### Counters (R259, R281) -/

/-- MODE of a counter: 0 COUNT, 1 BARRIER. -/
def Block.ctrMode (s : Block) (n : Nat) : Nat := s.fld (rCtr n + 4) 0 0
/-- VALUE. -/
def Block.ctrValue (s : Block) (n : Nat) : Nat := s.fld (rCtr n) 15 0
/-- CAP. -/
def Block.ctrCap (s : Block) (n : Nat) : Nat := s.fld (rCtr n + 4) 16 1
/-- PARTIES. -/
def Block.ctrParties (s : Block) (n : Nat) : Nat := s.fld (rCtr n + 4) 24 17
/-- ARRIVED. -/
def Block.ctrArrived (s : Block) (n : Nat) : Nat := s.fld (rCtr n) 23 16
/-- SENSE. -/
def Block.ctrSense (s : Block) (n : Nat) : Bool := bit (s.rn (rCtr n)) 24
/-- VALUE set. -/
def Block.setCtrValue (s : Block) (n v : Nat) : Block := s.setFld (rCtr n) 15 0 v

/-- Baseline default (R259). -/
def noBaseline (_ : Nat) : BitVec 16 := 0#16

/-- The cores in order, each with its engines in order: the order of R265. -/
def headOrder : List (Nat × Nat) :=
  (List.range 8).flatMap (fun c => (List.range 7).map (fun e => (c, e)))

/-- Every queue key in the order in which a counter grants: urgent lanes first (R265). -/
def grantOrder : List Nat :=
  headOrder.map (fun p => qKey p.1 p.2 1) ++ headOrder.map (fun p => qKey p.1 p.2 0)

/-- Heads waiting on counter n (R277). -/
def Block.nwait (s : Block) (n : Nat) : Nat :=
  (grantOrder.filter (fun k => match s.head? k with
    | some en => (match en.wait with
      | some w => w.ctr == n
      | none => false)
    | none => false)).length

/-- The GRANTED bit of an item's slot (R388). -/
def Item.grant (slot : Nat) (i : Item) : Item := { i with granted := i.granted ||| (1#6 <<< slot) }

/-- A wait of the entry at position i of queue k is granted: the amount it needs is consumed at once (R264). -/
def Block.grantAt (s : Block) (k i : Nat) (en : Entry) (w : Wait) : Block :=
  let first := en.waite && !en.got1
  let s := s.setCtrValue w.ctr (s.ctrValue w.ctr - w.need)
  let s := s.mapEntry k i (fun en =>
    if first then { en with got1 := true, wait := none } else { en with got2 := true, wait := none })
  s.mapItem en.item (Item.grant en.slot)

/-- One head's turn at counter n: a count wait that VALUE satisfies is granted, a barrier wait whose sense has
flipped is released; every other head is passed over (R265, R274). -/
def Block.grantHead (s : Block) (n k : Nat) : Block :=
  match headPos (s.queue k) with
  | none => s
  | some i =>
    match (s.queue k)[i]? with
    | none => s
    | some en =>
      match en.wait with
      | none => s
      | some w =>
        if w.ctr ≠ n then s
        else if w.phase2 then
          (if s.ctrSense n ≠ en.sense then s.mapEntry k i (fun en => { en with wait := none }) else s)
        else if w.need ≤ s.ctrValue n ∧ s.ctrMode n = 0 then s.grantAt k i en w
        else s

/-- A counter grants its waiters in order (R265). -/
def Block.grantAll (s : Block) (n : Nat) : Block := grantOrder.foldl (fun s k => s.grantHead n k) s

/-! ### Signals (R266, R267, R271, R276) -/

/-- Who signals, as the last-signaller record names it (R276). -/
structure SigSource where
  kind : Nat
  unit : Nat
  queue : Nat := 0
  urgent : Bool := false
  ring : Nat := 0
  seq : Nat := 0
deriving DecidableEq, Repr

/-- The last-signaller record (R276). -/
def sigRecord (x : SigSource) (amount : Nat) : Nat :=
  x.kind + x.unit <<< 4 + x.queue <<< 8 + (b2n x.urgent) <<< 11 + x.ring <<< 12 + (x.seq % 2 ^ 32) <<< 16 +
    (amount % 2 ^ 16) <<< 48

/-- What became of a signal. -/
inductive SigResult where
  | applied | overflow | mode | foreign
deriving DecidableEq, Repr

/-- BODY of a SYNC event (R522). -/
def Block.syncBody (s : Block) (reason : Nat) (x : SigSource) (slot n part amount : Nat) : Nat :=
  reason + x.kind <<< 8 + x.unit <<< 16 + slot <<< 24 + n <<< 32 + part <<< 48 + (s.ctrMode n) <<< 56 +
    (if s.ctrMode n = 1 then s.ctrArrived n else s.ctrValue n) <<< 64 + (amount % 2 ^ 16) <<< 80

/-- UNIT of an event that names a signal's source (DESIGN CHOICE, log entry 8). -/
def SigSource.eventUnit (x : SigSource) : Nat :=
  match x.kind with
  | 1 => unitCore x.unit
  | 2 => unitPort x.unit
  | 3 => unitSeq x.unit
  | 5 => unitCore x.unit
  | _ => 0

/-- The owner of a counter as an event names it. -/
def Block.ownerByte (s : Block) (n : Nat) : Nat := (s.ctrOwner n).getD 0xFF

/-- A foreign signal is blocked, counted and logged (R271). -/
def Block.blockSignal (s : Block) (x : SigSource) (slot n amount : Nat) : Block :=
  (s.logEvent 0x90 x.eventUnit (s.syncBody 3 x slot n (s.ownerByte n) amount)).bump32 (rSy 0x10004) 1

/-- A signal reaches counter n: blocked if foreign, refused on a mode mismatch or an overflow, otherwise applied, the
last-signaller record written and the waiters granted (R265-R267, R271). -/
def Block.signal (s : Block) (x : SigSource) (foreign : Bool) (slot n amount : Nat) : Block × SigResult :=
  if foreign then (s.blockSignal x slot n amount, .foreign)
  else if s.ctrMode n = 1 then (s.bump32 (rSy 0x10008) 1, .mode)
  else if s.ctrCap n < s.ctrValue n + amount then (s.bump32 (rSy 0x10008) 1, .overflow)
  else
    let s := s.setCtrValue n (s.ctrValue n + amount)
    let s := s.setRn (rCtr n + 8) (sigRecord x amount)
    (s.grantAll n, .applied)

/-- A signal from a source that is not an entry: a refusal is logged as an event (R267). -/
def Block.signalLogged (s : Block) (x : SigSource) (foreign : Bool) (slot n amount : Nat) : Block :=
  let s0 := s
  match s.signal x foreign slot n amount with
  | (s, .overflow) => s.logEvent 0x90 x.eventUnit (s0.syncBody 1 x slot n (s0.ownerByte n) amount)
  | (s, .mode) => s.logEvent 0x90 x.eventUnit (s0.syncBody 2 x slot n (s0.ownerByte n) amount)
  | (s, _) => s

/-- An entry as a signal source. -/
def entrySource (c e l : Nat) (en : Entry) : SigSource :=
  { kind := 1, unit := c, queue := e, urgent := l == 1, ring := en.ring.val, seq := en.seq.toNat }

/-- Whether a counter lies outside the partition of a core (R271). -/
def Block.foreignTo (s : Block) (c n : Nat) : Bool :=
  match s.coreOwner c, s.ctrOwner n with
  | some a, some b => a != b
  | _, _ => true

/-- An entry's signal of `amount` to counter n; a refusal faults the entry, which then completes (R267); a counter
that has become foreign only blocks it (R271). -/
def Block.signalFrom (s : Block) (c e l i : Nat) (en : Entry) (n amount : Nat) : Block :=
  let v := s.ctrValue n
  match s.signal (entrySource c e l en) (s.foreignTo c n) 0 n amount with
  | (s, .overflow) => s.faultEntry c e l i en 0x71 (n + v <<< 16 + amount <<< 32)
  | (s, .mode) => s.faultEntry c e l i en 0x74 (n + 1 <<< 13)
  | (s, _) => s.finishEntry (qKey c e l) i

/-- An entry completes without fault: its signal, if it names one, once and by 1 (R269). -/
def Block.endEntry (s : Block) (c e l i : Nat) (en : Entry) : Block :=
  if en.sige then s.signalFrom c e l i en en.sig 1 else s.finishEntry (qKey c e l) i

/-! ### The head of a queue (R262, R263) -/

/-- Whether entries issue and complete: in service, and in step REPLAY of Dawn (R393, R395). -/
def Block.serving (s : Block) : Bool := s.life == .service || (s.life == .dawn && s.fld (rMc 0x10) 3 0 == 7)

/-- Whether the engines of a core issue in a lane: the module serves, the core's domain is on, and the core is RUNNING,
or for an urgent entry in a partition (R17, R174, R393). -/
def Block.canIssue (s : Block) (c l : Nat) : Bool :=
  s.serving && s.domOn c && (if l = 0 then s.fld (rC c 4) 1 0 == 0 else s.fld (rC c 4) 1 0 != 3)

/-- Number of issued entries of a queue. -/
def issuedCount (q : List Entry) : Nat := (q.filter (fun en => en.stage == .issued)).length

/-- Entries of engine e in flight that count against a lane's limit: for LDE and STE those of both lanes (R203). -/
def Block.inFlight (s : Block) (c e l : Nat) : Nat :=
  if e = 4 ∨ e = 5 then issuedCount (s.queue (qKey c e 0)) + issuedCount (s.queue (qKey c e 1))
  else issuedCount (s.queue (qKey c e l))

/-- Whether a lane's BV.FENCE holds its issue (R141). -/
def Block.fenced (s : Block) (c l : Nat) : Bool :=
  (s.queue (qKey c 3 l)).any (fun en => en.stage == .issued && en.opcode == 0xBF)

/-- Tickets held by the operations of a lane kind, module-wide (R18). -/
def Block.ticketsOf (s : Block) (lane : Nat) : Nat :=
  (s.ops.filter (fun p => match p.2 with
    | some o => o.lane == lane
    | none => false)).length

/-- Whether the head of engine e's urgent lane can be taken at the next issue point, so that it goes before the normal
queue: it waits for nothing, there is room for it, and no fence and no want of a ticket holds it (R17, R162). -/
def Block.urgentFirst (s : Block) (c e maxOut : Nat) : Bool :=
  s.canIssue c 1 && decide (s.inFlight c e 1 < maxOut) && (match s.head? (qKey c e 1) with
    | some en => en.wait.isNone && (e != 3 || (!(s.fenced c 1) && (en.opcode == 0xBF || decide (s.ticketsOf 1 < 64))))
    | none => false)

/-- One counter an entry names: its number, the DETAIL code of R284, the mode it needs (2: the counter of a module
outside the peer set, which is foreign, R272), and an amount to hold against CAP (0: none). -/
structure CtrUse where
  ctr : Nat
  which : Nat
  mode : Nat
  amount : Nat
deriving DecidableEq, Repr

/-- The counters of the common fields (R156, R263 step 1). -/
def Entry.commonUses (en : Entry) : List CtrUse :=
  (if en.waite then [⟨en.waitc, 1, 0, 1⟩] else []) ++ (if en.sige then [⟨en.sig, 2, 0, 0⟩] else [])

/-- The first counter check that fails: code and DETAIL (R263 step 1, R284). -/
def Block.ctrCheck (s : Block) (c : Nat) : List CtrUse → Option (Nat × Nat)
  | [] => none
  | u :: us =>
    if u.mode = 2 ∨ s.foreignTo c u.ctr then some (0x73, u.ctr + u.which <<< 13)
    else if s.ctrMode u.ctr ≠ u.mode then some (0x74, u.ctr + (if u.mode = 0 then 1 else 2) <<< 13)
    else if s.ctrCap u.ctr < u.amount ∧ u.mode = 0 then some (0x74, u.ctr + 3 <<< 13)
    else s.ctrCheck c us

/-- The wait limit of a lane in µs (R278, R282). -/
def Block.waitLimit (s : Block) (c l : Nat) : Nat := s.fld (rC c (0x2300 + 4 * l)) 19 0

/-- The entry at position i begins to wait for `need` of counter n, unless it already waits. -/
def Block.beginWait (s : Block) (c e l i n need : Nat) (phase2 : Bool) : Block :=
  s.mapEntry (qKey c e l) i (fun en =>
    if en.wait.isSome then en
    else { en with wait := some ⟨n, need, phase2, s.cycle, s.waitLimit c l⟩ })

/-- Handles that an entry of engine e must name, and those that it may leave 0 (R181, R187, R208, R223, R159)
(DEDUCED, log entry 87). -/
def Entry.handles (en : Entry) (e : Nat) : List Nat × List Nat :=
  match e with
  | 1 => (match en.opcode with
    | 0x00 => ([en.f0 62 54], [en.f0 44 36, en.f0 53 45])
    | 0x01 => ([en.f0 44 36, en.f0 62 54], [en.f0 53 45])
    | _ => ([en.f0 44 36, en.f0 62 54], []))
  | 2 => ([en.f0 44 36, en.f0 53 45, en.f0 62 54] ++ (if en.f1 10 9 = 2 then [en.f1 8 0] else []), [])
  | 3 =>
    if en.opcode < 0x83 then ([en.f0 44 36, en.f0 53 45, en.f0 62 54], [])
    else if en.opcode = 0x83 then ([en.f0 44 36], [en.f0 53 45])
    else if en.opcode = 0xBF then ([], [])
    else ([en.f0 44 36], [])
  | 4 => (match en.opcode with
    | 0x00 => ([en.f0 44 36, en.f0 53 45], [])
    | 0x02 => ([en.f0 44 36, en.f0 53 45], [])
    | 0x03 => ([], [])
    | _ => ([en.f0 44 36], []))
  | 5 => (match en.opcode with
    | 0x00 => ([en.f0 44 36, en.f0 53 45], [])
    | 0x02 => ([en.f0 44 36, en.f0 53 45], [])
    | 0x03 => ([], [])
    | _ => ([en.f0 44 36], []))
  | _ => ([], [])

/-- Descriptor file entries of core c read for errors (R406). -/
def Block.readHandles (s : Block) (c : Nat) : List Nat → Block × Option Nat
  | [] => (s, none)
  | h :: t => match s.sramRead 3 c (32 * h) 32 with
    | (s, none) => s.readHandles c t
    | r => r

/-- The descriptors that an entry of engine e names, read for errors; nothing happens while no SRAM word holds one. -/
def Block.readDescs (s : Block) (c e : Nat) (en : Entry) : Block × Option Nat :=
  if s.sramBad.isEmpty then (s, none)
  else s.readHandles c ((en.handles e).1 ++ (en.handles e).2.filter (fun h => h != 0))

/-- An entry whose waits are over comes to issue, or faults on a descriptor word that is uncorrectable (R406). -/
def Block.admitEntry (s : Block) (c e l i : Nat) (en : Entry) : Except Block (Block × Nat × Entry) :=
  match s.readDescs c e en with
  | (s, none) => .ok (s, i, { en with checked := true })
  | (s, some w) => .error (s.faultEntry c e l i en 0xA0 w)

/-- The head of a queue comes to its issue point for opcode `op` with `extra` counters besides the common ones: the
counter checks, the common wait, and then the entry itself; the normal queue's head only where the urgent lane has none
to issue (R17). `.error` answers the state where no entry issues:
nothing is due, the head waits, or it has faulted (DESIGN CHOICE, log entry 108). -/
def Block.gate (s : Block) (c e l op maxOut : Nat) (extra : Entry → List CtrUse) : Except Block (Block × Nat × Entry) :=
  let k := qKey c e l
  if !(s.canIssue c l) || decide (maxOut ≤ s.inFlight c e l) || (l == 0 && s.urgentFirst c e maxOut) then .error s
  else match headPos (s.queue k) with
  | none => .error s
  | some i =>
    match (s.queue k)[i]? with
    | none => .error s
    | some en =>
      if en.opcode ≠ op ∨ en.wait.isSome then .error s
      else
        match (if en.checked then none else s.ctrCheck c (en.commonUses ++ extra en)) with
        | some (code, detail) => .error (s.faultEntry c e l i en code detail)
        | none =>
          let s := s.mapEntry k i (fun en => { en with checked := true })
          if en.waite && !en.got1 then
            (if 1 ≤ s.ctrValue en.waitc then
              let s := s.grantAt k i en ⟨en.waitc, 1, false, 0, 0⟩
              s.admitEntry c e l i { en with got1 := true }
            else .error (s.beginWait c e l i en.waitc 1 false))
          else s.admitEntry c e l i en

/-- Position of the oldest issued entry of a queue. -/
def issuedPos : List Entry → Option Nat
  | [] => none
  | en :: q => if en.stage = .issued then some 0 else (issuedPos q).map (· + 1)

/-- The oldest issued entry of a queue, with its position. -/
def Block.issued? (s : Block) (k : Nat) : Option (Nat × Entry) :=
  match issuedPos (s.queue k) with
  | some i => ((s.queue k)[i]?).map (fun en => (i, en))
  | none => none

/-- Flags set in NUMSTAT of a core (R56). -/
def Block.numFlags (s : Block) (c : Nat) (fl : BitVec 6) : Block := s.orReg (rC c 0xA04) fl.toNat

/-- No counters besides the common ones. -/
def noUses (_ : Entry) : List CtrUse := []

/-- An entry marked issued with the descriptor copies and the OVF_SAT setting it issues under (R48, R59). -/
def Block.markIssued (s : Block) (c e l i : Nat) (ds : List Desc) : Block :=
  s.mapEntry (qKey c e l) i (fun en =>
    { en with stage := .issued, descs := ds, ovfSat := s.ovfSat c })

end Sys2Proof.Machine
end

