-- ==== Sys2Proof/Machine/Flags.lean ====
section
/-!
DEFINITION. The sticky flags of NUMSTAT (02_numeric_formats.md, R56). Each operation computes the flags it raises beside
its value, in Numeric.lean, Vector.lean, Matrix.lean and Sfu.lean; `State.numFlags` of Queue.lean sets them.
-/
namespace Sys2Proof.Machine

/-- The sticky flags of NUMSTAT (R56): INVALID, OVERFLOW, UNDERFLOW, NAN_INPUT, INT_SAT, NB4_SCALE_SAT from bit 0. -/
abbrev Flags := BitVec 6

/-- INVALID (R56). -/
def flInvalid : Flags := 1#6
/-- OVERFLOW (R56). -/
def flOverflow : Flags := 2#6
/-- UNDERFLOW (R56). -/
def flUnderflow : Flags := 4#6
/-- NAN_INPUT (R56). -/
def flNanInput : Flags := 8#6
/-- INT_SAT (R56). -/
def flIntSat : Flags := 16#6
/-- NB4_SCALE_SAT (R56). -/
def flScaleSat : Flags := 32#6

end Sys2Proof.Machine
end

