-- ==== Sys2Proof/Machine/Numeric.lean ====
section
/-!
DEFINITION. The eight number formats and their arithmetic (02_numeric_formats.md): exact values, rounding,
conversion, NB4 quantisation and decoding, and the stochastic-rounding generator.
-/
namespace Sys2Proof.Machine

/-- The eight formats (R31). -/
inductive Fmt where
  | fp32 | bf16 | fp16 | e4m3 | e5m2 | int8 | int4 | nb4
deriving DecidableEq, Repr

/-- The format a code names; codes 0x8-0xF are reserved (R31). -/
def Fmt.ofCode : Nat → Option Fmt
  | 0 => some .fp32 | 1 => some .bf16 | 2 => some .fp16 | 3 => some .e4m3
  | 4 => some .e5m2 | 5 => some .int8 | 6 => some .int4 | 7 => some .nb4
  | _ => none

/-- The code of a format (R31). -/
def Fmt.code : Fmt → Nat
  | .fp32 => 0 | .bf16 => 1 | .fp16 => 2 | .e4m3 => 3 | .e5m2 => 4 | .int8 => 5 | .int4 => 6 | .nb4 => 7

/-- Element size in bits (R31). -/
def Fmt.size : Fmt → Nat
  | .fp32 => 32 | .bf16 => 16 | .fp16 => 16 | .e4m3 => 8 | .e5m2 => 8 | .int8 => 8 | .int4 => 4 | .nb4 => 4

/-- The integer formats, NB4's data counted with them. -/
def Fmt.isInt : Fmt → Bool
  | .int8 | .int4 | .nb4 => true
  | _ => false

/-- Mantissa bits (R32); 0 for an integer format. -/
def Fmt.mant : Fmt → Nat
  | .fp32 => 23 | .bf16 => 7 | .fp16 => 10 | .e4m3 => 3 | .e5m2 => 2 | _ => 0

/-- Exponent bits (R32). -/
def Fmt.expo : Fmt → Nat
  | .fp32 => 8 | .bf16 => 8 | .fp16 => 5 | .e4m3 => 4 | .e5m2 => 5 | _ => 0

/-- Exponent of the smallest subnormal (R32); 0 for an integer format. -/
def Fmt.lsb : Fmt → Int
  | .fp32 => -149 | .bf16 => -133 | .fp16 => -24 | .e4m3 => -9 | .e5m2 => -16 | _ => 0

/-- Encoding of the largest finite value (R34). -/
def Fmt.maxFin : Fmt → Nat
  | .fp32 => 0x7F7FFFFF | .bf16 => 0x7F7F | .fp16 => 0x7BFF | .e4m3 => 0x7E | .e5m2 => 0x7B
  | .int8 => 127 | .int4 => 7 | .nb4 => 7

/-- Canonical NaN (R34); integers have none and a NaN becomes 0 (R47). -/
def Fmt.nan : Fmt → Nat
  | .fp32 => 0x7FC00000 | .bf16 => 0x7FC0 | .fp16 => 0x7E00 | .e4m3 => 0x7F | .e5m2 => 0x7E | _ => 0

/-- Encoding of +∞; E4M3 has none (R34). -/
def Fmt.inf : Fmt → Nat
  | .fp32 => 0x7F800000 | .bf16 => 0x7F80 | .fp16 => 0x7C00 | .e5m2 => 0x7C | _ => 0

/-- An exact value: a finite one is ± m × 2^e. -/
inductive FVal where
  | nan
  | inf (neg : Bool)
  | fin (neg : Bool) (m : Nat) (e : Int)
deriving DecidableEq, Repr

/-- An integer as an exact value. -/
def FVal.ofInt (i : Int) : FVal := .fin (decide (i < 0)) i.natAbs 0

/-- Positive zero. -/
def FVal.zero : FVal := .fin false 0 0

/-- The value an encoding stands for (R33, R34, R37); NB4 data reads as its INT4 value. -/
def Fmt.decode (f : Fmt) (x : Nat) : FVal :=
  if f.isInt then .ofInt (sext f.size x)
  else
    let s := bit x (f.mant + f.expo)
    let e := bits x (f.mant + f.expo - 1) f.mant
    let m := bits x (f.mant - 1) 0
    if f = .e4m3 ∧ e = 15 ∧ m = 7 then .nan
    else if f ≠ .e4m3 ∧ e = 2 ^ f.expo - 1 then (if m = 0 then .inf s else .nan)
    else if e = 0 then .fin s m f.lsb
    else .fin s (2 ^ f.mant + m) (f.lsb + e - 1)

/-- How a magnitude that does not fit is rounded (R43, R44, R42). -/
inductive Rnd where
  | rne | trunc | up
  | stoch (r16 : Nat)
deriving DecidableEq, Repr

/-- Whether a remainder `rem` of `2^sh` below the quotient `q` rounds the magnitude up. -/
def Rnd.goesUp (r : Rnd) (q rem sh : Nat) : Bool :=
  match r with
  | .rne => decide (2 ^ sh < 2 * rem) || (decide (2 * rem = 2 ^ sh) && q % 2 == 1)
  | .trunc => false
  | .up => decide (0 < rem)
  | .stoch r16 => decide (2 ^ 16 ≤ rem * 2 ^ 16 / 2 ^ sh + r16)

/-- m × 2^e as a whole number of units of 2^l, rounded. -/
def roundAt (r : Rnd) (m : Nat) (e l : Int) : Nat :=
  if l ≤ e then m <<< (e - l).toNat
  else
    let sh := (l - e).toNat
    let q := m >>> sh
    q + b2n (r.goesUp q (m % 2 ^ sh) sh)

/-- The magnitude encoding (exponent and mantissa fields, hidden bit carried) of m × 2^e, rounded, range unbounded. -/
def Fmt.roundMag (f : Fmt) (r : Rnd) (m : Nat) (e : Int) : Nat :=
  if m = 0 then 0
  else
    let top := e + (Nat.log2 m : Int) - (f.mant : Int)
    let l := if f.lsb ≤ top then top else f.lsb
    ((l - f.lsb).toNat <<< f.mant) + roundAt r m e l

/-- The sign bit's weight. -/
def Fmt.signed (f : Fmt) (neg : Bool) (mag : Nat) : Nat := if neg then 2 ^ (f.size - 1) + mag else mag

/-- Range of an integer format. -/
def clampInt (f : Fmt) (i : Int) : Int :=
  let hi : Int := 2 ^ (f.size - 1) - 1
  let lo : Int := -(2 ^ (f.size - 1))
  if i < lo then lo else if hi < i then hi else i

/-- A value in a destination format: its encoding and the flags of R47. `sat` is NUMCTL.OVF_SAT. The spec gives an infinite
source no INT8 or INT4 value under OVF_SAT = 0: it saturates with OVERFLOW there too (DESIGN CHOICE, log entry 120). -/
def Fmt.encode (f : Fmt) (r : Rnd) (sat : Bool) (v : FVal) : Nat × Flags :=
  if f.isInt then
    match v with
    | .nan => (0, flInvalid)
    | .inf s => (toTwos f.size (clampInt f (if s then -1000 else 1000)), flOverflow)
    | .fin s m e =>
      let a : Int := roundAt r m e 0
      let i := if s then -a else a
      let c := clampInt f i
      (toTwos f.size c, if c = i then 0#6 else flOverflow)
  else
    match v with
    | .nan => (f.nan, 0#6)
    | .inf s => if f = .e4m3 ∨ sat then (f.signed s f.maxFin, flOverflow) else (f.signed s f.inf, 0#6)
    | .fin s m e =>
      let c := f.roundMag r m e
      if f.maxFin < c then
        (if sat then f.signed s f.maxFin else if f = .e4m3 then f.nan else f.signed s f.inf, flOverflow)
      else (f.signed s c, if m ≠ 0 ∧ c = 0 then flUnderflow else 0#6)

/-- NAN_INPUT of an operand (R35). -/
def FVal.nanIn : FVal → Flags
  | .nan => flNanInput
  | _ => 0#6

/-- A conversion of one element under R43-R50: bit for bit between equal formats. -/
def convert (src dst : Fmt) (r : Rnd) (sat : Bool) (x : Nat) : Nat × Flags :=
  if src = dst then (x % 2 ^ src.size, 0#6)
  else
    let v := src.decode x
    let (y, fl) := dst.encode r sat v
    (y, fl ||| v.nanIn)

/-- A value rounded to nearest even in a format, IEEE overflow, and read back. -/
def Fmt.rnd (f : Fmt) (sat : Bool) (v : FVal) : FVal × Flags :=
  let (y, fl) := f.encode .rne sat v
  (f.decode y, fl)

/-- Exact negation. -/
def FVal.neg : FVal → FVal
  | .nan => .nan
  | .inf s => .inf !s
  | .fin s m e => .fin (!s) m e

/-- Exact magnitude. -/
def FVal.abs : FVal → FVal
  | .nan => .nan
  | .inf _ => .inf false
  | .fin _ m e => .fin false m e

/-- The sign bit; a NaN's is 0 (R35). -/
def FVal.isNeg : FVal → Bool
  | .nan => false
  | .inf s => s
  | .fin s _ _ => s

/-- Whether the value is zero of either sign. -/
def FVal.isZero : FVal → Bool
  | .fin _ m _ => m == 0
  | _ => false

/-- Whether the value is NaN. -/
def FVal.isNan : FVal → Bool
  | .nan => true
  | _ => false

/-- Whether the value is infinite. -/
def FVal.isInf : FVal → Bool
  | .inf _ => true
  | _ => false

/-- Exact product with the flags of R35. -/
def FVal.mul (a b : FVal) : FVal × Flags :=
  match a, b with
  | .nan, _ => (.nan, flNanInput)
  | _, .nan => (.nan, flNanInput)
  | .inf s, .inf t => (.inf (s ^^ t), 0#6)
  | .inf s, .fin t m _ => if m = 0 then (.nan, flInvalid) else (.inf (s ^^ t), 0#6)
  | .fin s m _, .inf t => if m = 0 then (.nan, flInvalid) else (.inf (s ^^ t), 0#6)
  | .fin s m e, .fin t n f => (.fin (s ^^ t) (m * n) (e + f), 0#6)

/-- Exact sum with the flags of R35; +0 + −0 is +0 (R36). -/
def FVal.add (a b : FVal) : FVal × Flags :=
  match a, b with
  | .nan, _ => (.nan, flNanInput)
  | _, .nan => (.nan, flNanInput)
  | .inf s, .inf t => if s = t then (.inf s, 0#6) else (.nan, flInvalid)
  | .inf s, .fin _ _ _ => (.inf s, 0#6)
  | .fin _ _ _, .inf t => (.inf t, 0#6)
  | .fin s m e, .fin t n f =>
    if m = 0 then (if n = 0 then (.fin (s && t) 0 0, 0#6) else (.fin t n f, 0#6))
    else if n = 0 then (.fin s m e, 0#6)
    else
      let l := if e ≤ f then e else f
      let x : Int := (m <<< (e - l).toNat : Nat)
      let y : Int := (n <<< (f - l).toNat : Nat)
      let z := (if s then -x else x) + (if t then -y else y)
      (.fin (decide (z < 0)) z.natAbs l, 0#6)

/-- Difference. -/
def FVal.sub (a b : FVal) : FVal × Flags := a.add b.neg

/-- Quotient, exact to more bits than any format keeps and with a sticky bit below them, so that rounding it to
nearest even gives the correctly rounded quotient. -/
def FVal.div (a b : FVal) : FVal × Flags :=
  match a, b with
  | .nan, _ => (.nan, flNanInput)
  | _, .nan => (.nan, flNanInput)
  | .inf _, .inf _ => (.nan, flInvalid)
  | .inf s, .fin t _ _ => (.inf (s ^^ t), 0#6)
  | .fin s _ _, .inf t => (.fin (s ^^ t) 0 0, 0#6)
  | .fin s m e, .fin t n f =>
    if n = 0 then (if m = 0 then (.nan, flInvalid) else (.inf (s ^^ t), 0#6))
    else if m = 0 then (.fin (s ^^ t) 0 0, 0#6)
    else
      let k := 64 + Nat.log2 n
      let q := (m <<< k) / n
      (.fin (s ^^ t) (2 * q + b2n ((m <<< k) % n != 0)) (e - f - k - 1), 0#6)

/-- Exact order of two values that are not NaN; −0 equals +0. -/
def FVal.lt (a b : FVal) : Bool :=
  match a, b with
  | .nan, _ => false
  | _, .nan => false
  | .inf s, .inf t => s && !t
  | .inf s, .fin _ _ _ => s
  | .fin _ _ _, .inf t => !t
  | .fin s m e, .fin t n f =>
    let l := if e ≤ f then e else f
    let x : Int := (m <<< (e - l).toNat : Nat)
    let y : Int := (n <<< (f - l).toNat : Nat)
    decide ((if s then -x else x) < (if t then -y else y))

/-- An FP32 operation: the exact result rounded to nearest even, IEEE overflow (R47's last paragraph). -/
def fp32Op (r : FVal × Flags) : FVal × Flags :=
  let (v, fl) := Fmt.fp32.rnd false r.1
  (v, fl ||| r.2)

/-- FP32 sum, rounded. -/
def fadd32 (a b : FVal) : FVal × Flags := fp32Op (a.add b)
/-- FP32 product, rounded. -/
def fmul32 (a b : FVal) : FVal × Flags := fp32Op (a.mul b)
/-- FP32 quotient, rounded. -/
def fdiv32 (a b : FVal) : FVal × Flags := fp32Op (a.div b)

/-- The FP32 encoding of a value that is an FP32 value. -/
def FVal.bits32 (v : FVal) : Nat := (Fmt.fp32.encode .rne false v).1

/-- Packed bytes of 4-bit values, low nibble first, an odd run padded with 0 (R38). -/
def packNibbles : List Nat → List Byte
  | [] => []
  | [a] => [BitVec.ofNat 8 (a % 16)]
  | a :: b :: t => BitVec.ofNat 8 (a % 16 + 16 * (b % 16)) :: packNibbles t

/-- NB4 decoding of one value to FP32 (R41). -/
def nb4Decode (q sb sr : FVal) : FVal × Flags :=
  let (t, f1) := fmul32 sb sr
  let (v, f2) := fmul32 q t
  (v, f1 ||| f2)

/-- What the quantiser gives for one block: the block scale, the values and the flags. -/
structure Nb4Block where
  scale : Nat
  q : List Nat
  flags : Flags
deriving DecidableEq, Repr

/-- The largest magnitude of a block, NaN if any value is NaN. -/
def maxAbs : List FVal → FVal
  | [] => .zero
  | x :: xs =>
    let r := maxAbs xs
    if x.isNan || r.isNan then .nan else if r.lt x.abs then x.abs else r

/-- One quotient of the quantiser, rounded to an integer and clamped: its nibble and flags (R42). -/
def nb4Quotient (x p : FVal) : Nat × Flags :=
  let (v, f1) := fdiv32 x p
  match v with
  | .nan => (0, f1)
  | .inf s => (toTwos 4 (if s then -8 else 7), f1 ||| flOverflow)
  | .fin s m e =>
    let a : Int := roundAt .rne m e 0
    let i := if s then -a else a
    let c := clampInt .int4 i
    (toTwos 4 c, f1 ||| (if c = i then 0#6 else flOverflow))

/-- The NB4 quantiser for one block of FP32 values under a region scale (R42). An infinite element, or a 7 × S_r that
overflows, makes the quotient S_b is rounded from a NaN where both are infinite; R42 takes p as finite and gives no
value there. The model stores S_b 0x7F, and q 0 for an element whose quotient is a NaN (DESIGN CHOICE, log entry 121). -/
def nb4Quantise (xs : List FVal) (sr : FVal) : Nb4Block :=
  let srOk := match sr with
    | .fin false m _ => decide (0 < m)
    | _ => false
  let none0 := xs.map (fun _ => 0)
  if !srOk then ⟨0x7F, none0, flInvalid ||| (xs.foldl (fun f x => f ||| x.nanIn) sr.nanIn)⟩
  else
    let a := maxAbs xs
    if a.isNan then ⟨0x7F, none0, flInvalid ||| flNanInput⟩
    else
      let (d, f1) := fmul32 (.ofInt 7) sr
      let (t, f2) := fdiv32 a d
      let top := FVal.ofInt 448
      let (sb, f3) := if top.lt t then (0x7E, flScaleSat)
        else ((Fmt.e4m3.encode .up true t).1, 0#6)
      let (p, f4) := fmul32 (Fmt.e4m3.decode sb) sr
      let fl := f1 ||| f2 ||| f3 ||| f4
      if sb = 0 || p.isZero then ⟨sb, none0, fl⟩
      else
        let qs := xs.map (fun x => nb4Quotient x p)
        ⟨sb, qs.map (·.1), qs.foldl (fun f q => f ||| q.2) fl⟩

/-- One step of the xorshift generator (R45). -/
def xorshift (x : BitVec 32) : BitVec 32 :=
  let x := x ^^^ (x <<< 13)
  let x := x ^^^ (x >>> 17)
  x ^^^ (x <<< 5)

/-- The draw R16 of a generator state (R45). -/
def drawR16 (x : BitVec 32) : Nat := x.toNat >>> 16

/-! ### The fold (R137) -/

/-- One level of the fold of R137. -/
def foldLevel : List FVal → List FVal × Flags
  | a :: b :: t =>
    let (x, f1) := fadd32 a b
    let (xs, f2) := foldLevel t
    (x :: xs, f1 ||| f2)
  | xs => (xs, 0#6)

/-- The fold of R137, with fuel for its levels. -/
def foldTree : Nat → List FVal → FVal × Flags
  | 0, xs => (xs.headD .zero, 0#6)
  | n + 1, xs =>
    match xs with
    | [] => (.zero, 0#6)
    | [x] => (x, 0#6)
    | xs =>
      let (ys, f1) := foldLevel xs
      let (v, f2) := foldTree n ys
      (v, f1 ||| f2)

/-- The fold of a list (R137). -/
def foldF (xs : List FVal) : FVal × Flags := foldTree xs.length xs

end Sys2Proof.Machine
end

