-- ==== Sys2Proof/Machine/Tensor.lean ====
section
/-!
DEFINITION. Tensor descriptors: their fields, validation at creation, addresses in the linear spaces, swizzles,
windows, edges, and placement in DRAM (03_tensor_layout.md, R198).
-/
namespace Sys2Proof.Machine

/-! ### Fields (R63, R65-R67) -/

/-- FORMAT. -/
def dFmt (d : Nat) : Option Fmt := Fmt.ofCode (bits d 3 0)
/-- FORMAT of a valid descriptor. -/
def dFormat (d : Nat) : Fmt := (dFmt d).getD .fp32
/-- SPACE. -/
def dSpace (d : Nat) : Nat := bits d 6 4
/-- EDGE. -/
def dEdge (d : Nat) : Nat := bits d 9 8
/-- Rank, 1 to 4. -/
def dRank (d : Nat) : Nat := bits d 11 10 + 1
/-- SWZ. -/
def dSwz (d : Nat) : Nat := bits d 13 12
/-- CORE. -/
def dCore (d : Nat) : Nat := bits d 62 60
/-- Size of a dimension, as a count. -/
def dSize (d i : Nat) : Nat :=
  1 + match i with
    | 0 => bits d 37 16 | 1 => bits d 59 38 | 2 => bits d 85 64 | 3 => bits d 107 86 | _ => 0
/-- The four sizes as counts. -/
def dSizes (d : Nat) : List Nat := [dSize d 0, dSize d 1, dSize d 2, dSize d 3]
/-- BASE of a linear space. -/
def dBase (d : Nat) : Nat := bits d 179 128
/-- Byte stride of a dimension of a linear space; dimension 0 has none. -/
def dStride (d i : Nat) : Nat :=
  match i with
  | 1 => bits d 204 180 | 2 => bits d 229 205 | 3 => bits d 254 230 | _ => 0
/-- WIN_TAPS. -/
def dTaps (d : Nat) : Nat := bits d 113 108
/-- Window step. -/
def dStep (d : Nat) : Nat := bits d 117 114 + 1
/-- Tap dilation. -/
def dDil (d : Nat) : Nat := bits d 121 118 + 1
/-- WIN_CAUSAL. -/
def dCausal (d : Nat) : Bool := bit d 122
/-- Whether the space is linear. -/
def dLinear (d : Nat) : Bool := dSpace d == 0 || dSpace d == 2 || dSpace d == 3
/-- Whether the descriptor is a window. -/
def dWindow (d : Nat) : Bool := dLinear d && dTaps d != 0
/-- Tile height h (R66). -/
def dTileH (d : Nat) : Nat := 2 ^ bits d 110 108
/-- Whether placement is home-position. -/
def dHome (d : Nat) : Bool := bits d 113 112 == 1
/-- PILLAR_MASK. -/
def dPillars (d : Nat) : Nat := bits d 143 128
/-- DIE_LO. -/
def dDieLo (d : Nat) : Nat := bits d 147 144
/-- DIE_HI. -/
def dDieHi (d : Nat) : Nat := bits d 151 148
/-- BANK_LO. -/
def dBankLo (d : Nat) : Nat := bits d 159 152
/-- BANK_HI. -/
def dBankHi (d : Nat) : Nat := bits d 167 160
/-- ROW_BASE. -/
def dRowBase (d : Nat) : Nat := bits d 180 168
/-- ROW_COUNT. -/
def dRowCount (d : Nat) : Nat := bits d 193 181
/-- SCALE_ROW_BASE. -/
def dScaleBase (d : Nat) : Nat := bits d 206 194
/-- SCALE_ROW_COUNT. -/
def dScaleCount (d : Nat) : Nat := bits d 219 207
/-- SPLIT_DIM. -/
def dSplit (d : Nat) : Nat := bits d 109 108
/-- BLOCK_SIZE as a count. -/
def dBlock (d : Nat) : Nat := bits d 149 128 + 1
/-- OWNER_BASE. -/
def dOwnerBase (d : Nat) : Nat := bits d 174 150
/-- OWNER_COUNT as a count. -/
def dOwnerCount (d : Nat) : Nat := bits d 190 175 + 1

/-- The set pillars of a mask, ascending. -/
def maskList (m n : Nat) : List Nat := (List.range n).filter (fun i => bit m i)

/-- Banks of each die of the set (R75). -/
def dBanks (d : Nat) : Nat := dBankHi d + 1 - dBankLo d
/-- Dies of each pillar of the set (R75). -/
def dDies (d : Nat) : Nat := dDieHi d + 1 - dDieLo d
/-- N, the members of the bank set (R75). -/
def dMembers (d : Nat) : Nat := (maskList (dPillars d) 16).length * dDies d * dBanks d

/-- Global bank ID of a member (R75, R2). -/
def dMember (d m : Nat) : Nat :=
  let b := dBanks d
  let n := dDies d
  let p := ((maskList (dPillars d) 16)[m / (n * b)]?).getD 0
  p * 4096 + (dDieLo d + m / b % n) * 256 + (dBankLo d + m % b)

/-- W, elements of dimension 0 in a tile (R76). -/
def dTileW (d : Nat) : Nat := 16384 / ((dFormat d).size * dTileH d)
/-- T0 (R76). -/
def dT0 (d : Nat) : Nat := ceilDiv (dSize d 0) (dTileW d)
/-- T1 (R76). -/
def dT1 (d : Nat) : Nat := ceilDiv (dSize d 1) (dTileH d)
/-- Regions of a striped tensor (R76). -/
def dRegions (d : Nat) : Nat := dT0 d * dT1 d * dSize d 2 * dSize d 3
/-- Record size E in bytes of a home-position tensor (R79). -/
def dRecord (d : Nat) : Nat := dSize d 0 * (dFormat d).size / 8

/-! ### Windows over dimension 1 (R74) -/

/-- P, the causal padding. -/
def dPad (d : Nat) : Nat := if dCausal d then (dTaps d - 1) * dDil d else 0
/-- What must be at least 0 for a window to have a position. -/
def dWinRoom (d : Nat) : Int := (dSize d 1 : Int) + dPad d - (((dTaps d - 1) * dDil d : Nat) : Int) - 1
/-- NW. -/
def dNW (d : Nat) : Nat := (dWinRoom d).toNat / dStep d + 1
/-- The rank an operation sees. -/
def vRank (d : Nat) : Nat := if dWindow d then max (dRank d) 2 + 1 else dRank d
/-- The sizes an operation sees. -/
def vSizes (d : Nat) : List Nat := if dWindow d then [dSize d 0, dTaps d, dNW d, dSize d 2] else dSizes d
/-- One size an operation sees. -/
def vSize (d i : Nat) : Nat := ((vSizes d)[i]?).getD 1
/-- Elements an operation sees. -/
def vCount (d : Nat) : Nat := (vSizes d).foldl (· * ·) 1

/-- The source coordinates of virtual coordinates (R74). -/
def srcCoord (d : Nat) (cs : List Int) : List Int :=
  if dWindow d then
    match cs with
    | [c0, t, w, c2] => [c0, w * dStep d + t * dDil d - dPad d, c2, 0]
    | _ => cs
  else cs

/-! ### Edges (R80) -/

/-- Where a coordinate vector stands. -/
inductive Coord where
  | at (cs : List Nat)
  | zero
  | out
deriving DecidableEq, Repr

/-- Whether every coordinate lies in its dimension. -/
def inside : List Nat → List Int → Bool
  | n :: ns, c :: cs => decide (0 ≤ c) && decide (c < n) && inside ns cs
  | _, _ => true

/-- One coordinate clamped. -/
def clampC (n : Nat) (c : Int) : Nat := if c < 0 then 0 else if (n : Int) ≤ c then n - 1 else c.toNat

/-- A coordinate vector under an EDGE setting, against the source sizes (R80). -/
def edgeAt (edge : Nat) (sizes : List Nat) (cs : List Int) : Coord :=
  if inside sizes cs then .at (cs.map Int.toNat)
  else match edge with
    | 1 => .at (List.zipWith clampC sizes cs)
    | 2 => .zero
    | _ => .out

/-- A virtual coordinate vector resolved: checked on the virtual and on the source dimensions (R80). -/
def resolve (d : Nat) (cs : List Int) : Coord :=
  if dWindow d ∧ ¬ inside (vSizes d) cs then
    (match dEdge d with
     | 1 => edgeAt 1 (dSizes d) (srcCoord d ((List.zipWith clampC (vSizes d) cs).map Int.ofNat))
     | 2 => .zero
     | _ => .out)
  else edgeAt (dEdge d) (dSizes d) (srcCoord d cs)

/-! ### Addresses in the linear spaces (R69, R72) -/

/-- Logical byte address of the element, and whether it is the high nibble (R69). -/
def linAddr (d : Nat) (cs : List Nat) : Nat × Bool :=
  let c := fun i => (cs[i]?).getD 0
  let n := c 0 * (dFormat d).size
  (dBase d + c 1 * dStride d 1 + c 2 * dStride d 2 + c 3 * dStride d 3 + n / 8, n % 8 == 4)

/-- Last byte of the linear extent, plus one (R69). -/
def linEnd (d : Nat) : Nat :=
  let st := fun i => if i < dRank d then (dSize d i - 1) * dStride d i else 0
  dBase d + st 1 + st 2 + st 3 + ceilDiv (dSize d 0 * (dFormat d).size) 8

/-- Physical scratchpad address of a logical one (R72). -/
def swizzle (swz a : Nat) : Nat :=
  match swz with
  | 1 => a ^^^ (bits a 14 10 <<< 5)
  | 2 => a ^^^ (bits a 15 10 <<< 4)
  | _ => a

/-- An element read from a byte memory at a byte address. -/
def elemRead (t : Tab Byte) (f : Fmt) (a : Nat) (hi : Bool) : Nat :=
  if f.size = 4 then bits (t.get byteZero a).toNat (if hi then 7 else 3) (if hi then 4 else 0)
  else ofBytes (readBytes t a (f.size / 8))

/-- A nibble put into a byte. -/
def putNibble (b : Byte) (hi : Bool) (v : Nat) : Byte :=
  if hi then BitVec.ofNat 8 (b.toNat % 16 + (v % 16) * 16) else BitVec.ofNat 8 (b.toNat / 16 * 16 + v % 16)

/-- An element written to a byte memory. -/
def elemWrite (t : Tab Byte) (f : Fmt) (a : Nat) (hi : Bool) (v : Nat) : Tab Byte :=
  if f.size = 4 then t.set byteZero a (putNibble (t.get byteZero a) hi v)
  else writeBytes t a (leBytes v (f.size / 8))

/-- Physical key of a scratchpad element. -/
def spElemKey (c d : Nat) (cs : List Nat) : Nat × Bool :=
  let (a, hi) := linAddr d cs
  (spKey c (swizzle (dSwz d) a), hi)

/-- An element of a scratchpad tensor. -/
def Block.spGet (s : Block) (c d : Nat) (cs : List Nat) : Nat :=
  let (k, hi) := spElemKey c d cs
  elemRead s.scratch (dFormat d) k hi

/-- Whether an element is the last of an odd 4-bit run, whose byte's high nibble the device sets to 0 (R38). -/
def oddTail (d : Nat) (cs : List Nat) : Bool :=
  (dFormat d).size == 4 && dSize d 0 % 2 == 1 && cs[0]? == some (dSize d 0 - 1)

/-- An element of a scratchpad tensor written. -/
def Block.spPut (s : Block) (c d : Nat) (cs : List Nat) (v : Nat) : Block :=
  let (k, hi) := spElemKey c d cs
  if oddTail d cs then { s with scratch := s.scratch.set byteZero k (BitVec.ofNat 8 (v % 16)) }
  else { s with scratch := elemWrite s.scratch (dFormat d) k hi v }

/-- An element of a Ledger tensor. -/
def Block.ledGet (s : Block) (d : Nat) (cs : List Nat) : Nat :=
  let (a, hi) := linAddr d cs
  elemRead s.ledger (dFormat d) a hi

/-- An element of a Ledger tensor written. -/
def Block.ledPut (s : Block) (d : Nat) (cs : List Nat) (v : Nat) : Block :=
  let (a, hi) := linAddr d cs
  if oddTail d cs then { s with ledger := s.ledger.set byteZero a (BitVec.ofNat 8 (v % 16)) }
  else { s with ledger := elemWrite s.ledger (dFormat d) a hi v }

/-- Every coordinate vector of a box, dimension 0 fastest (R70). -/
def boxCoords (sizes : List Nat) : List (List Nat) :=
  let n := fun i => (sizes[i]?).getD 1
  (List.range (n 3)).flatMap fun c3 => (List.range (n 2)).flatMap fun c2 => (List.range (n 1)).flatMap fun c1 =>
    (List.range (n 0)).map fun c0 => [c0, c1, c2, c3]

/-- The start of every dimension-0 run of a box. -/
def runCoords (sizes : List Nat) : List (List Nat) :=
  let n := fun i => (sizes[i]?).getD 1
  (List.range (n 3)).flatMap fun c3 => (List.range (n 2)).flatMap fun c2 =>
    (List.range (n 1)).map fun c1 => [0, c1, c2, c3]

/-! ### Placement in DRAM (R76, R79, R78) -/

/-- A place in DRAM: member of the bank set, row, and byte of the row. -/
structure DramAt where
  member : Nat
  row : Nat
  byte : Nat
  hi : Bool
deriving DecidableEq, Repr

/-- Region number of an element of a striped tensor (R76). -/
def dRegionOf (d : Nat) (cs : List Nat) : Nat :=
  let c := fun i => (cs[i]?).getD 0
  ((c 3 * dSize d 2 + c 2) * dT1 d + c 1 / dTileH d) * dT0 d + c 0 / dTileW d

/-- Where an element of a DRAM tensor stands. -/
def dPlace (d : Nat) (cs : List Nat) : DramAt :=
  let c := fun i => (cs[i]?).getD 0
  let f := (dFormat d).size
  let n := dMembers d
  if dHome d then
    let sl := c 1 / n
    let o := sl * dRecord d
    ⟨c 1 % n, dRowBase d + o / 2048, o % 2048 + c 0 * f / 8, c 0 * f % 8 == 4⟩
  else
    let k := dRegionOf d cs
    let x := c 0 % dTileW d * f
    ⟨k % n, dRowBase d + k / n, c 1 % dTileH d * (2048 / dTileH d) + x / 8, x % 8 == 4⟩

/-- Where the scale record of region k stands (R78): member, row, first byte. -/
def dScalePlace (d k : Nat) : DramAt :=
  let n := dMembers d
  let j := k / n
  ⟨k % n, dScaleBase d + j / 21, 96 * (j % 21), false⟩

/-! ### Bounce-buffer windows (R198, R199) -/

/-- First and last byte of window i of partition k. -/
def Block.bbRange (s : Block) (k i : Nat) : Nat × Nat :=
  (s.fld (rBb (0x100 * k + 0x10 * i)) 51 12 * 4096, s.fld (rBb (0x100 * k + 0x10 * i + 8)) 51 12 * 4096 + 4095)

/-- PERM of window i of partition k. -/
def Block.bbPerm (s : Block) (k i : Nat) : Nat := s.fld (rBb (0x100 * k + 0x10 * i + 8)) 53 52

/-- PORT of window i of partition k. -/
def Block.bbPort (s : Block) (k i : Nat) : Nat := s.fld (rBb (0x100 * k + 0x10 * i + 8)) 55 54

/-- Whether window i of k contains address a and grants `perm` (bit 0 read, bit 1 write). -/
def Block.bbGrants (s : Block) (k i a perm : Nat) : Bool :=
  let (lo, hi) := s.bbRange k i
  decide (lo ≤ a) && decide (a ≤ hi) && s.bbPerm k i != 0 && (s.bbPerm k i &&& perm == perm)

/-- The window through which address a is reached. -/
def Block.bbFind (s : Block) (k a perm : Nat) : Option Nat := firstFrom (fun i => s.bbGrants k i a perm) 0 8

/-- The farthest byte that a window granting `perm` at address a reaches, plus one. -/
def Block.bbReach (s : Block) (k a perm : Nat) : Nat :=
  (List.range 8).foldl (fun m i => if s.bbGrants k i a perm then max m ((s.bbRange k i).2 + 1) else m) a

/-- The first address of [a, e) that no granting window contains; every window is crossed at most once (DEDUCED, log
entry 35). -/
def Block.bbOutside (s : Block) (k e perm : Nat) : Nat → Nat → Option Nat
  | 0, a => if e ≤ a then none else some a
  | n + 1, a => if e ≤ a then none else if (s.bbFind k a perm).isNone then some a
    else s.bbOutside k e perm n (s.bbReach k a perm)

/-- The first address of [a, e) outside the windows that grant `perm`. -/
def Block.bbMiss (s : Block) (k a e perm : Nat) : Option Nat := s.bbOutside k e perm 9 a

/-- Whether one enabled window contains all of [a, e) (R199, creation). -/
def Block.bbOne (s : Block) (k a e : Nat) : Bool :=
  (List.range 8).any (fun i => let (lo, hi) := s.bbRange k i
    s.bbPerm k i != 0 && decide (lo ≤ a) && decide (e ≤ hi + 1))

/-! ### Validation at creation (R68) -/

/-- DIESTAT register of physical die d. -/
def rDie (p d : Nat) : Nat := rP p (0x10 + 4 * d)

/-- The physical die that serves die number d of pillar p (R3, R312). -/
def Block.physDie (s : Block) (p d : Nat) : Nat :=
  if s.fld (rDie p d) 2 0 = 2 ∧ s.fld (rDie p 16) 2 0 = 4 ∧ s.fld (rDie p 16) 9 6 = d then 16 else d

/-- Whether die number d of pillar p is marked ABSENT and not replaced. -/
def Block.dieAbsent (s : Block) (p d : Nat) : Bool := s.fld (rDie p (s.physDie p d)) 2 0 == 1

/-- Reason 0x01: a reserved encoding. -/
def badValue (d : Nat) : Bool :=
  decide (8 ≤ bits d 3 0) || decide (5 ≤ dSpace d) || dEdge d == 3 || dSwz d == 3 ||
    (dSpace d == 1 && (decide (5 ≤ bits d 110 108) || decide (2 ≤ bits d 113 112)))

/-- Reason 0x02: a reserved bit or an unused field is nonzero (DESIGN CHOICE, log entry 10 for CORE of another space). -/
def badBits (d : Nat) : Bool :=
  bits d 7 7 != 0 || bits d 15 14 != 0 || bits d 63 63 != 0 || (dSpace d != 0 && dCore d != 0) ||
    (List.range 4).any (fun i => decide (dRank d ≤ i) && dSize d i != 1) ||
    (dLinear d && (bits d 127 123 != 0 || bits d 255 255 != 0 ||
      (List.range 4).any (fun i => decide (dRank d ≤ i) && dStride d i != 0) ||
      (dTaps d == 0 && bits d 122 114 != 0) ||
      (dSpace d == 0 && bits d 179 154 != 0) || (dSpace d == 2 && bits d 179 153 != 0))) ||
    (dSpace d == 1 && (bits d 111 111 != 0 || bits d 127 114 != 0 || bits d 255 220 != 0 ||
      (dHome d && bits d 110 108 != 0) || (dFmt d != some .nb4 && bits d 219 194 != 0))) ||
    (dSpace d == 4 && (bits d 127 110 != 0 || bits d 255 191 != 0))

/-- Reason 0x03: the linear extent. -/
def Block.badExtent (s : Block) (k : Option Nat) (d : Nat) : Bool :=
  match dSpace d with
  | 0 => decide (spTop + 1 < linEnd d)
  | 2 => (match k with
    | some k => !(s.inLedAlloc k (dBase d) (linEnd d - dBase d))
    | none => true)
  | 3 => decide (2 ^ 52 < linEnd d) || (match k with
    | some k => !(s.bbOne k (dBase d) (linEnd d))
    | none => true)
  | _ => false

/-- Reason 0x04: a pillar or core outside the partition. -/
def Block.badOwned (s : Block) (k : Option Nat) (d : Nat) : Bool :=
  match dSpace d with
  | 0 => k.isNone || s.coreOwner (dCore d) != k
  | 1 => k.isNone || (maskList (dPillars d) 16).any (fun p => s.pillarOwner p != k)
  | _ => false

/-- Reason 0x05: an ABSENT die in the bank set. -/
def Block.badDie (s : Block) (d : Nat) : Bool :=
  dSpace d == 1 && (maskList (dPillars d) 16).any (fun p =>
    (List.range (dDies d)).any (fun i => s.dieAbsent p (dDieLo d + i)))

/-- Reason 0x06: the rows. An empty bank set has N = 0 members; the spec does not say what the least row counts of R76, R78
and R79 are then, and the model takes them as 0, so such a descriptor is refused for reason 0x0A (DESIGN CHOICE, log
entry 135). -/
def badRows (d : Nat) : Bool :=
  let n := dMembers d
  dSpace d == 1 && (decide (6136 < dRowBase d + dRowCount d) || decide (6136 < dScaleBase d + dScaleCount d) ||
    (if dHome d then decide (dRowCount d < ceilDiv (ceilDiv (dSize d 1) n * dRecord d) 2048)
     else decide (dRowCount d < ceilDiv (dRegions d) n) ||
       (dFmt d == some .nb4 && decide (dScaleCount d < ceilDiv (ceilDiv (dRegions d) n) 21))))

/-- Reason 0x07: NB4 data rows and scale rows overlap. -/
def badOverlap (d : Nat) : Bool :=
  dSpace d == 1 && dFmt d == some .nb4 && decide (dRowBase d < dScaleBase d + dScaleCount d) &&
    decide (dScaleBase d < dRowBase d + dRowCount d)

/-- Reason 0x08: alignment. -/
def badAlign (d : Nat) : Bool :=
  let g := max ((dFormat d).size / 8) 1
  (dLinear d && (dBase d % g != 0 || (List.range 4).any (fun i => decide (i < dRank d) && dStride d i % g != 0))) ||
    (dSpace d == 4 && dOwnerBase d % 64 != 0)

/-- Reason 0x09: the shape. -/
def badShape (d : Nat) : Bool :=
  (dWindow d && (dRank d == 4 || decide (dWinRoom d < 0) || (dCausal d && dEdge d == 0))) ||
    (dSwz d != 0 && dSpace d != 0) ||
    (dSpace d == 1 && dHome d && (decide (2 < dRank d) || dFmt d == some .nb4 ||
      !([32, 64, 128, 256, 512, 1024, 2048].contains (dRecord d)) ||
      dSize d 0 * (dFormat d).size % 8 != 0)) ||
    (dSpace d == 4 && decide (dRank d ≤ dSplit d))

/-- Reason 0x0A: an empty bank set. -/
def badSet (d : Nat) : Bool :=
  dSpace d == 1 && (dPillars d == 0 || decide (dDieHi d < dDieLo d) || decide (dBankHi d < dBankLo d))

/-- Reason 0x0B: the owner table. -/
def Block.badOwnerTable (s : Block) (k : Option Nat) (d : Nat) : Bool :=
  dSpace d == 4 && ((match k with
    | some k => !(s.inLedAlloc k (dOwnerBase d) (4 * dOwnerCount d))
    | none => true) || decide (dOwnerCount d * dBlock d < dSize d (dSplit d)))

/-- The first failing reason of a creation by core c of entry h, 0 for none (R68). -/
def Block.descReason (s : Block) (c h d : Nat) : Nat :=
  let k := s.coreOwner c
  if badValue d then 1 else if badBits d then 2 else if s.badExtent k d then 3 else if s.badOwned k d then 4
  else if s.badDie d then 5 else if badRows d then 6 else if badOverlap d then 7 else if badAlign d then 8
  else if badShape d then 9 else if badSet d then 10 else if s.badOwnerTable k d then 11
  else if h = 0 then 12 else 0

/-- An invalid descriptor entry. -/
def noDesc (_ : Nat) : Option Desc := none

/-- Descriptor entry h of core c, none where invalid; entry 0 is never valid (R57). -/
def Block.desc? (s : Block) (c h : Nat) : Option Desc := if h = 0 then none else s.descs.get noDesc (512 * c + h)

/-- Descriptor entry h of core c replaced (R58). -/
def Block.setDesc (s : Block) (c h : Nat) (d : Option Desc) : Block :=
  { s with descs := s.descs.set noDesc (512 * c + h) d }

end Sys2Proof.Machine
end

