-- ==== Sys2Proof/Machine/Operands.lean ====
section
/-!
DEFINITION. Operands of the hub engines: descriptors named by handle, the checks VEC, MTX and the bank engine share, and
elements read as values (R60, R64, R86, R209, R218, R220, R223).
-/
namespace Sys2Proof.Machine

/-- A check that succeeds or names its failure. -/
abbrev Check (α : Type) := Except Bad α

/-- The check fails with a code and DETAIL where `b` holds. -/
def failIf (b : Bool) (code : Nat) (detail : Option Nat) : Check Unit :=
  if b then .error ⟨code, detail⟩ else .ok ()

/-- FLT_FORMAT_UNSUPPORTED (R55). -/
def fltFormat : Nat := 0x22
/-- FLT_ALIGN (R86). -/
def fltAlign : Nat := 0x31
/-- FLT_DESC_UNDEFINED (R86). -/
def fltUndef : Nat := 0x32
/-- FLT_BOUNDS (R86). -/
def fltBounds : Nat := 0x33
/-- FLT_SPACE (R86). -/
def fltSpace : Nat := 0x35

/-- The descriptor a handle names, required (R60). -/
def Block.need (s : Block) (c h : Nat) : Check Nat :=
  match s.desc? c h with
  | some d => .ok d.toNat
  | none => .error ⟨fltUndef, none⟩

/-- The descriptor a handle names, none for handle 0. -/
def Block.opt (s : Block) (c h : Nat) : Check (Option Nat) :=
  if h = 0 then .ok none else (s.need c h).map some

/-- Whether a descriptor names the scratchpad of core c. -/
def ownSp (c d : Nat) : Bool := dSpace d == 0 && dCore d == c

/-- The start of the first dimension-0 run that is not a multiple of m, or BASE + the stride of a dimension of size 1
(R86, DEDUCED, log entry 13). -/
def misaligned (d m : Nat) : Option Nat :=
  if dBase d % m ≠ 0 then some (dBase d)
  else
    let bad := [1, 2, 3].filter (fun i => decide (i < dRank d) && dStride d i % m != 0)
    match bad.find? (fun i => decide (1 < dSize d i)) with
    | some i => some (dBase d + dStride d i)
    | none => bad.head?.map (fun i => dBase d + dStride d i)

/-- The alignment R209 asks of a descriptor (R71). -/
def aligned32 (d : Nat) : Check Unit :=
  match misaligned d 32 with
  | some a => .error ⟨fltAlign, some a⟩
  | none => .ok ()

/-- The byte range an operand covers, widened to 1 KiB boundaries when asked (R220). -/
def hubExtent (d : Nat) (widen : Bool) : Nat × Nat :=
  if widen then (dBase d / 1024 * 1024, ceilDiv (linEnd d) 1024 * 1024) else (dBase d, linEnd d)

/-- Whether two half-open ranges meet. -/
def meets (p q : Nat × Nat) : Bool := decide (p.1 < q.2) && decide (q.1 < p.2)

/-- Whether two scratchpad tensors overlap (R220). -/
def overlaps (d y : Nat) : Bool :=
  let w := dSwz d != 0 || dSwz y != 0
  meets (hubExtent d w) (hubExtent y w)

/-- Whether Y overlaps a plain scratchpad range (R220). -/
def overlapsRange (y lo hi : Nat) : Bool :=
  if dSwz y != 0 then meets (lo / 1024 * 1024, ceilDiv hi 1024 * 1024) (hubExtent y true)
  else meets (lo, hi) (hubExtent y false)

/-- Whether V.CHAIN may have Y over the source d (R220). -/
def sameRuns (d y : Nat) : Bool :=
  dBase d == dBase y && (List.range 3).all (fun i => dStride d (i + 1) == dStride y (i + 1)) && dSwz d == dSwz y &&
    (dFormat d).size == (dFormat y).size && !(dWindow d)

/-- The encoding of a scratchpad element at virtual coordinates; 0 where the window's padding is zero-filled. -/
def Block.spRaw (s : Block) (c d : Nat) (cs : List Int) : Nat :=
  match resolve d cs with
  | .at x => s.spGet c d x
  | _ => 0

/-- The value of a scratchpad element at virtual coordinates. -/
def Block.spVal (s : Block) (c d : Nat) (cs : List Nat) : FVal :=
  (dFormat d).decode (s.spRaw c d (cs.map Int.ofNat))

/-! ### NB4 in the scratchpad (R218) -/

/-- Q, regions per run. -/
def nbQ (d : Nat) : Nat := ceilDiv (dSize d 0) 4096
/-- Runs of a tensor. -/
def nbRuns (d : Nat) : Nat := dSize d 1 * dSize d 2 * dSize d 3
/-- Bytes of scale records. -/
def nbRecBytes (d : Nat) : Nat := 96 * nbRuns d * nbQ d
/-- Run index of coordinates. -/
def nbRun (d : Nat) (cs : List Nat) : Nat :=
  let c := fun i => (cs[i]?).getD 0
  (c 3 * dSize d 2 + c 2) * dSize d 1 + c 1
/-- Address of the record of an element. -/
def nbRecAt (d sc : Nat) (cs : List Nat) : Nat := sc + 96 * (nbRun d cs * nbQ d + (cs[0]?).getD 0 / 4096)

/-- The bytes of the scale records that a reader of a tensor's scales reads: bytes 68 to 95 are ignored (R40). -/
def nbRecords (d sc : Nat) : List (Nat × Nat × Nat) :=
  (List.range (nbRuns d * nbQ d)).map (fun k => (0, sc + 96 * k, 68))

/-- Block scale and region scale of an element (R40). -/
def Block.nbScales (s : Block) (c d sc : Nat) (cs : List Nat) : FVal × FVal :=
  let r := nbRecAt d sc cs
  let b := ((cs[0]?).getD 0) % 4096 / 64
  (Fmt.e4m3.decode (ofBytes (s.spRead c (r + b) 1)), Fmt.fp32.decode (ofBytes (s.spRead c (r + 64) 4)))

/-! ### SRAM errors met by an entry (R406) -/

/-- One element's bytes read for errors. -/
def Block.scanElem (s : Block) (c d : Nat) (cs : List Nat) : Block × Option Nat :=
  match resolve d (cs.map Int.ofNat) with
  | .at x =>
    let (a, _) := linAddr d x
    s.sramRead 0 c (swizzle (dSwz d) a) (max 1 ((dFormat d).size / 8))
  | _ => (s, none)

/-- The elements of a list of coordinates read for errors, up to the first uncorrectable one. -/
def Block.scanCoords (s : Block) (c d : Nat) : List (List Nat) → Block × Option Nat
  | [] => (s, none)
  | cs :: t => match s.scanElem c d cs with
    | (s, none) => s.scanCoords c d t
    | r => r

/-- Every element of the sources read for errors; nothing happens while no SRAM word holds one. -/
def Block.scan (s : Block) (c : Nat) : List Nat → Block × Option Nat
  | [] => (s, none)
  | d :: t =>
    if s.sramBad.isEmpty then (s, none)
    else match s.scanCoords c d (boxCoords (vSizes d)) with
      | (s, none) => s.scan c t
      | r => r

/-- Plain ranges of core c's memories read for errors: memory kind, address and bytes. -/
def Block.scanRanges (s : Block) (c : Nat) : List (Nat × Nat × Nat) → Block × Option Nat
  | [] => (s, none)
  | (k, a, n) :: t =>
    match s.sramRead k c a n with
    | (s, none) => s.scanRanges c t
    | r => r

/-- Everything an entry reads of its core's memories: its source tensors, then the plain ranges beside them. -/
def Block.scanAll (s : Block) (c : Nat) (ds : List Nat) (ranges : List (Nat × Nat × Nat)) : Block × Option Nat :=
  if s.sramBad.isEmpty then (s, none)
  else match s.scan c ds with
    | (s, none) => s.scanRanges c ranges
    | r => r

end Sys2Proof.Machine
end

