-- ==== Sys2Proof/Machine/Dram.lean ====
section
/-!
DEFINITION. DRAM columns: the column code, decoding, correction counts, and ordinary column reads and writes by the
pillar controllers (R91-R93, R115, R196, R303, R522).
-/
namespace Sys2Proof.Machine

/-! ### The column code (R91) -/

/-- One step of a product in GF(2⁸) with polynomial 0x11D: the sum so far, the shifted multiplicand. -/
def gfStep (a b : Nat) : Nat → Nat → Nat
  | 0, r => r
  | n + 1, r =>
    let r := if b % 2 = 1 then r ^^^ a else r
    let a2 := 2 * a
    gfStep (if 256 ≤ a2 then (a2 ^^^ 0x11D) % 256 else a2) (b / 2) n r

/-- Product in GF(2⁸). -/
def gfMul (a b : Nat) : Nat := gfStep a b 8 0

/-- The 35 message symbols of a column at (row, column): the data bytes, then the three address symbols (R91). -/
def colMessage (d : Column) (row col : Nat) : List Nat :=
  (leBytes d.toNat 32).map BitVec.toNat ++ [bits row 7 0, bits row 12 8 + 32 * (col % 8), bits col 5 3]

/-- One division step by g(x) = x⁴ + 0x0F x³ + 0x36 x² + 0x78 x + 0x40. -/
def rsStep (r : Nat × Nat × Nat × Nat) (m : Nat) : Nat × Nat × Nat × Nat :=
  let (r0, r1, r2, r3) := r
  let f := m ^^^ r3
  (gfMul f 0x40, r0 ^^^ gfMul f 0x78, r1 ^^^ gfMul f 0x36, r2 ^^^ gfMul f 0x0F)

/-- The check bits of a column (R91). -/
def colCheck (d : Column) (row col : Nat) : BitVec 32 :=
  let (a, b, c, e) := (colMessage d row col).reverse.foldl rsStep (0, 0, 0, 0)
  BitVec.ofNat 32 (a + b <<< 8 + c <<< 16 + e <<< 24)

/-- What decoding a column gives (R92). -/
inductive ColOut where
  | clean (d : Column)
  | corrected (d : Column)
  | badAddr
  | badData
deriving DecidableEq, Repr

/-- Value of the received polynomial at a point, by Horner, symbols from the highest degree. -/
def gfEval (x : Nat) (syms : List Nat) : Nat := syms.foldl (fun r m => gfMul r x ^^^ m) 0

/-- Powers of α. -/
def gfPow (a : Nat) : Nat → Nat
  | 0 => 1
  | n + 1 => gfMul a (gfPow a n)

/-- The symbol position at which one error explains the syndromes. -/
def errorPos (s0 s1 s2 s3 : Nat) : Option Nat :=
  (List.range 39).find? (fun l =>
    let x := gfPow 2 l
    let a := gfMul s0 x
    let b := gfMul a x
    s0 != 0 && a == s1 && b == s2 && gfMul b x == s3)

/-- A byte of a column changed by exclusive-or. -/
def flipByte (d : Column) (i e : Nat) : Column := d ^^^ BitVec.ofNat 256 (e <<< (8 * i))

/-- The decoder (R92) (DEDUCED, log entry 36). -/
def colDecode (w : BitVec 288) (row col : Nat) : ColOut :=
  let d := BitVec.ofNat 256 (w.toNat % 2 ^ 256)
  let c := (leBytes (w.toNat >>> 256) 4).map BitVec.toNat
  let syms := (c ++ colMessage d row col).reverse
  let s0 := gfEval 1 syms
  let s1 := gfEval 2 syms
  let s2 := gfEval 4 syms
  let s3 := gfEval 8 syms
  if s0 = 0 ∧ s1 = 0 ∧ s2 = 0 ∧ s3 = 0 then .clean d
  else match errorPos s0 s1 s2 s3 with
    | some l => if l < 4 then .corrected d else if l < 36 then .corrected (flipByte d (l - 4) s0) else .badAddr
    | none => .badData

/-- A column as it is stored. -/
def packCol (d : Column) (check : BitVec 32) : BitVec 288 := BitVec.ofNat 288 (d.toNat + check.toNat <<< 256)

/-- The poison check bits of a column (R308). -/
def poisonCheck (d : Column) (row col : Nat) : BitVec 32 := colCheck d row col ^^^ 0x00FF00FF#32

/-! ### Locations -/

/-- A physical bank: pillar, physical die, bank. -/
def bankKey (p d b : Nat) : Nat := (p * 17 + d) * 256 + b
/-- A physical column. -/
def colKey (p d b row col : Nat) : Nat := (bankKey p d b * 8192 + row) * 64 + col

/-- Nothing stored. -/
def noCol (_ : Nat) : Option (BitVec 288) := none
/-- Contents that nothing has filled are undefined. -/
def noFill (_ : Nat) : Fill := .undef 0
/-- A bank at rest. -/
def idleBlu (_ : Nat) : Blu := {}

/-- Zone of a row of a die (R482). -/
def rowZone (row : Nat) : Nat := if row < 6136 then 0 else if row < 6142 then 1 else 2

/-- What an unlisted column reads as (DESIGN CHOICE, log entry 6). -/
def Fill.column (f : Fill) (k : Nat) : BitVec 288 :=
  let row := k / 64 % 8192
  let col := k % 64
  match f with
  | .undef g => Config.dramFree g k
  | .zeros => packCol 0#256 (colCheck 0#256 row col)
  | .poison => packCol 0#256 (poisonCheck 0#256 row col)

/-- Key of a zone. -/
def zoneKey (p d z : Nat) : Nat := 3 * (17 * p + d) + z

/-- A column as it stands in its bank. -/
def Block.colRaw (s : Block) (k : Nat) : BitVec 288 :=
  match s.dram.get noCol k with
  | some w => w
  | none => (s.fills.get noFill (3 * (k / 64 / 8192 / 256) + rowZone (k / 64 % 8192))).column k

/-- A column stored. -/
def Block.setCol (s : Block) (k : Nat) (w : BitVec 288) : Block := { s with dram := s.dram.set noCol k (some w) }

/-- A bank and its BLU. -/
def Block.blu (s : Block) (k : Nat) : Blu := s.blus.get idleBlu k
/-- A bank and its BLU replaced. -/
def Block.setBlu (s : Block) (k : Nat) (b : Blu) : Block := { s with blus := s.blus.set idleBlu k b }
/-- A bank changed. -/
def Block.mapBlu (s : Block) (k : Nat) (f : Blu → Blu) : Block := s.setBlu k (f (s.blu k))

/-- The die number a physical die serves (R3, R312). R3 gives the banks of a spare that is not switched in no global bank
ID; an event or DETAIL about one carries that of the die number in SERVES, 0 at reset (DESIGN CHOICE, log entry 117). -/
def Block.dieServes (s : Block) (p d : Nat) : Nat := if d = 16 then s.fld (rDie p 16) 9 6 else d

/-- The global bank ID of a physical bank (R2, R3). -/
def Block.gbidOf (s : Block) (p d b : Nat) : Nat := 4096 * p + 256 * s.dieServes p d + b

/-- The physical bank of a global bank ID: pillar, physical die, bank. -/
def Block.physBank (s : Block) (g : Nat) : Nat × Nat × Nat :=
  (g / 4096, s.physDie (g / 4096) (g / 256 % 16), g % 256)

/-- Whether a physical die is UNRESP (R303). -/
def Block.unresp (s : Block) (p d : Nat) : Bool := bit (s.rn (rDie p d)) 3

/-- Whether the controller sends words to a die: it is powered and not UNRESP (R303). -/
def Block.sendsTo (s : Block) (p d : Nat) : Bool := s.fld (rDie p d) 2 0 != 5 && !(s.unresp p d)

/-! ### Counts and events (R93, R115, R522) -/

/-- Whether BLUCE logs at a count (R115). -/
def ceLogs (n : Nat) : Bool := n == 1 || n == 256 || n == 65536 || n == 16777216 || n == 0xFFFFFFFF

/-- Bytes 0-6 of a memory event. -/
def Block.memBody (s : Block) (p d b row col source : Nat) : Nat :=
  s.gbidOf p d b + row <<< 16 + col <<< 32 + source <<< 40 + d <<< 48

/-- A corrected column counted, and logged where R115 says so. -/
def Block.countCe (s : Block) (p d b row col source : Nat) : Block :=
  let k := bankKey p d b
  let old := (s.blu k).ce
  let n := min (old + 1) 0xFFFFFFFF
  let s := s.mapBlu k (fun x => { x with ce := n })
  if ceLogs n && old != n then s.logEvent 0x10 (unitDie p d) (s.memBody p d b row col source + n <<< 64) else s

/-- An uncorrectable column counted, flagged, held in BLULAST and logged; `kind` is 1 DATA or 2 ADDRESS. -/
def Block.countUe (s : Block) (p d b row col source kind : Nat) : Block :=
  let k := bankKey p d b
  let n := min ((s.blu k).ue + 1) 0xFFFFFFFF
  let s := s.mapBlu k (fun x =>
    { x with ue := n, err := x.err ||| 1#7, last := row + col <<< 13 + kind <<< 19 })
  s.logEvent 0x11 (unitDie p d) (s.memBody p d b row col source + kind <<< 56 + n <<< 64)

/-- A column read and decoded, with its counts (R92, R93). -/
def Block.readCol (s : Block) (p d b row col source : Nat) : Block × Option Column :=
  match colDecode (s.colRaw (colKey p d b row col)) row col with
  | .clean x => (s, some x)
  | .corrected x => (s.countCe p d b row col source, some x)
  | .badAddr => (s.countUe p d b row col source 2, none)
  | .badData => (s.countUe p d b row col source 1, none)

/-- No marked rows. -/
def noMarks (_ : Nat) : List Nat := []

/-- The mark that stands for rows 0-6,135 of every bank. -/
def allRows : Nat := 256 * 8192

/-- Whether a switch in MODE COPY of pillar p takes note of what is written to physical die d; in SWITCHING too, so that
what the last operations write there reaches the spare (R307, R309; DESIGN CHOICE, log entry 116). -/
def Block.noting (s : Block) (p d : Nat) : Bool :=
  let st := s.fld (rP p 0x194) 2 0
  decide (1 ≤ st) && decide (st ≤ 3) && s.fld (rP p 0x190) 3 0 == d && s.fld (rP p 0x190) 5 4 == 0

/-- Mark m of the die of pillar p under copy noted (R307). -/
def Block.mark (s : Block) (p d m : Nat) : Block :=
  let l := s.spareMarks.get noMarks p
  if s.noting p d && !(l.contains m) then { s with spareMarks := s.spareMarks.set noMarks p (l ++ [m]) } else s

/-- A row of a die under copy marked for another copy (R307). -/
def Block.markRow (s : Block) (p d b row : Nat) : Block := s.mark p d (b * 8192 + row)

/-- A column written with fresh check bits (R91, R196). -/
def Block.writeCol (s : Block) (p d b row col : Nat) (x : Column) : Block :=
  (s.setCol (colKey p d b row col) (packCol x (colCheck x row col))).markRow p d b row

/-! ### Die groups (R300) -/

/-- Dies of a group mask (R300). -/
def groupDies (m : Nat) : List Nat :=
  (List.range 17).filter (fun d => bit m (d / 4))

/-- PDOWN of every die of group g (R300, R312). -/
def Block.setGroup (s : Block) (p g v : Nat) : Block :=
  (groupDies (2 ^ g)).foldl (fun s d => s.setFld (rDie p d) 5 5 v) s

/-- Whether group g of pillar p is powered down. -/
def Block.groupDown (s : Block) (p g : Nat) : Bool := s.fld (rDie p (4 * g)) 5 5 == 1

/-- Whether group g is that of a spare which is not switched in: it stays powered down except in self-test and from an
accepted GO until the switch or a CANCEL (R300). -/
def Block.spareRests (s : Block) (p g : Nat) : Bool :=
  g == 4 && (s.fld (rP p 0x194) 2 0 == 0 || s.fld (rP p 0x194) 2 0 == 5) &&
    !(s.life == .dawn && s.fld (rMc 0x10) 3 0 == 6)

/-- The group of die d wakes for a word to it (R30, R300). -/
def Block.wakeDie (s : Block) (p d : Nat) : Block :=
  if s.groupDown p (d / 4) && !(s.spareRests p (d / 4)) then s.setGroup p (d / 4) 0 else s

/-! ### Ordinary access by global bank ID (R196) -/

/-- What an ordinary access can fault with: the code and DETAIL of R205 and R315. -/
structure MemFault where
  code : Nat
  detail : Nat
deriving DecidableEq, Repr

/-- An ordinary column read for a load or a merge: FLT_PC_DIE on an UNRESP die, FLT_MEM_ECC on an uncorrectable
column; a group that is powered down wakes first (R30, R196, R303). -/
def Block.fetchCol (s : Block) (g row col : Nat) : Block × Except MemFault Column :=
  let (p, d, b) := s.physBank g
  if s.unresp p d then (s, .error ⟨0x81, g + d <<< 16⟩)
  else match (s.wakeDie p d).readCol p d b row col 1 with
    | (s, some x) => (s, .ok x)
    | (s, none) => (s, .error ⟨0x52, g + row <<< 16 + col <<< 29⟩)

/-- An ordinary whole-column write; a group that is powered down wakes first (R30). -/
def Block.storeCol (s : Block) (g row col : Nat) (x : Column) : Block × Except MemFault Unit :=
  let (p, d, b) := s.physBank g
  if s.unresp p d then (s, .error ⟨0x81, g + d <<< 16⟩)
  else ((s.wakeDie p d).writeCol p d b row col x, .ok ())

/-- Nibble `n` of a column. -/
def colNibble (x : Column) (n : Nat) : Nat := bits x.toNat (4 * n + 3) (4 * n)

/-- A column with nibbles replaced. -/
def putNibbles (x : Nat) : List (Nat × Nat) → Nat
  | [] => x
  | (n, v) :: t => putNibbles (putBits x (4 * n + 3) (4 * n) v) t

end Sys2Proof.Machine
end

