-- ==== Sys2Proof/Machine/Words.lean ====
section
/-!
DEFINITION. The command words of the pillar buses: their fields, the dies and banks they address, and what waits and
stands in a pillar controller (11_pillar_controller.md, R286-R290, R300, R301).
-/
namespace Sys2Proof.Machine

/-- A field of a command word. -/
def wf (w : DWord) (hi lo : Nat) : Nat := bits w.toNat hi lo
/-- CMD. -/
def wCmd (w : DWord) : Nat := wf w 4 0
/-- MCAST. -/
def wMcast (w : DWord) : Bool := wf w 5 5 == 1
/-- LANE. -/
def wLane (w : DWord) : Nat := wf w 6 6
/-- TAG. -/
def wTag (w : DWord) : Nat := wf w 12 7
/-- PDIE. -/
def wDie (w : DWord) : Nat := wf w 17 13
/-- BANK. -/
def wBank (w : DWord) : Nat := wf w 25 18

/-- A pillar at rest. -/
def idlePillar (_ : Nat) : PillarSt := {}
/-- What pillar p holds beside its registers. -/
def Block.pillar (s : Block) (p : Nat) : PillarSt := s.pillars.get idlePillar p
/-- Pillar p changed. -/
def Block.onPillar (s : Block) (p : Nat) (f : PillarSt → PillarSt) : Block :=
  { s with pillars := s.pillars.set idlePillar p (f (s.pillar p)) }

/-! ### Targets (R289, R300) -/

/-- The dies a word addresses under a selection. -/
def wordDies (w : DWord) (sel : Sel) : List Nat :=
  let c := wCmd w
  if c = 0x06 ∨ 17 ≤ wDie w then List.range 17
  else if c = 0x07 ∨ c = 0x08 then groupDies (wf w 30 26)
  else if wMcast w then (List.range 17).filter (fun d => bit sel.dies d)
  else [wDie w]

/-- The banks of one die a word addresses. -/
def wordBanks (w : DWord) (sel : Sel) : List Nat :=
  if wMcast w then (List.range 256).filter (fun b => decide (sel.lo ≤ b) && decide (b ≤ sel.hi)) else [wBank w]

/-- Whether a command acts on banks (R287). -/
def actsOnBanks (c : Nat) : Bool := (decide (1 ≤ c) && decide (c ≤ 5)) || decide (0x10 ≤ c)

/-- The operation of a lane of a unit. -/
def Blu.laneOp (u : Blu) (lane : Nat) : Option BluOp := if lane = 0 then u.op else u.uop

/-- The operation a PIM word belongs to in a die: the ticket an ARMX carries, else that of the lane's operation in the
first bank it addresses there. -/
def Block.wordTicket (s : Block) (p d : Nat) (w : DWord) (sel : Sel) : Option (Nat × Nat) :=
  match (wordBanks w sel).head? with
  | none => none
  | some b =>
    let g := s.gbidOf p d b
    if wCmd w = 0x18 then some (wf w 37 26, g)
    else if wCmd w < 0x10 then none
    else ((s.blu (bankKey p d b)).laneOp (wLane w)).map (fun o => (o.ticket, g))

/-- The ticket of the bank operation a word belongs to, from the first die it addresses. -/
def Block.ticketOf (s : Block) (p : Nat) (w : DWord) (sel : Sel) : Option Nat :=
  ((wordDies w sel).head?).bind (fun d => (s.wordTicket p d w sel).map Prod.fst)

/-- Whether an ARMX belongs to the ARM before it: the same target and lane. -/
def sameTarget (a w : DWord) : Bool :=
  wMcast a == wMcast w && wLane a == wLane w && wDie a == wDie w && wBank a == wBank w

/-- The word that names a sent word's operation: for an ARM, the ARMX behind it. -/
def pairWord (e : Shadow) : List Shadow → DWord
  | n :: _ => if wCmd e.word = 0x10 ∧ wCmd n.word = 0x18 ∧ sameTarget e.word n.word = true then n.word else e.word
  | [] => e.word

/-! ### Words of an operation that are not at their end (R19) -/

/-- Whether a word of a ticket's operation awaits its re-sending to a die that has failed a word: the ticket is then in
the REPLAY state (R19, R302). -/
def PillarSt.replays (q : PillarSt) (t : Nat) : Bool :=
  q.discarding.any (fun d => (q.ring.dropWhile (fun e => !(e.failed.contains d))).any (fun e =>
    e.ticket == some t && (wordDies e.word e.sel).contains d))

/-- Whether a ticket is in the REPLAY state in some pillar (R19). -/
def Block.inReplay (s : Block) (t : Nat) : Bool := s.pillars.any (fun p => p.2.replays t)

/-- Whether a word of a ticket's operation still waits in a controller: its sequence there has not finished (R19). -/
def Block.unsent (s : Block) (t : Nat) : Bool :=
  s.pillars.any (fun p => p.2.waiting.any (fun x => s.ticketOf p.1 x.word x.sel == some t))

end Sys2Proof.Machine
end

