-- ==== Sys2Proof/Machine/Tickets.lean ====
section
/-!
DEFINITION. Issued bank operations: the banks they use, their leaves, their faults and their tickets
(05_bank_operations.md; R18, R19, R117).
-/
namespace Sys2Proof.Machine

/-- No operation holds a ticket. -/
def noOp (_ : Nat) : Option BankOp := none

/-- The operation that holds a ticket. -/
def Block.op? (s : Block) (t : Nat) : Option BankOp := s.ops.get noOp t

/-- The operation of a ticket changed. -/
def Block.mapOp (s : Block) (t : Nat) (f : BankOp → BankOp) : Block :=
  match s.op? t with
  | some o => { s with ops := s.ops.set noOp t (some (f o)) }
  | none => s

/-- The engine index of BNK. -/
def eBnk : Nat := 3

/-! ### Geometry (R100, R122) -/

/-- Elements per record of a home-position descriptor. -/
def dElems (d : Nat) : Nat := dSize d 0
/-- Records of a row. -/
def dPerRow (d : Nat) : Nat := 2048 / max 1 (dRecord d)

/-- The first and last slot of member m that a position range touches, none where it touches none (R79). -/
def slotRange (d m p0 pc : Nat) : Option (Nat × Nat) :=
  let n := dMembers d
  let a := ceilDiv (p0 - m) n
  let e := p0 + pc - 1
  if e < m then none else if (e - m) / n < a then none else some (a, (e - m) / n)

/-- No RUN made. -/
def noRuns (_ : Nat) : Nat := 0

/-- RUNs that an operation makes in member m of its bank set (R125-R129). -/
def BankOp.runsIn (o : BankOp) (m : Nat) : Nat :=
  let n := dMembers o.w
  if o.op = 0x80 then (let g := dRegions o.w; if m < g then (g - m + n - 1) / n else 0)
  else if o.op = 0x81 ∨ o.op = 0x82 then
    (match slotRange o.w m o.p0 o.pcount with
     | some (a, b) => b / dPerRow o.w - a / dPerRow o.w + 1
     | none => 0)
  else if o.op = 0x83 then (if o.p0 % n = m then (if o.vc.isSome then 2 else 1) else 0)
  else
    let d := (o.rows[0]?).getD 0
    let a := (o.rows[1]?).getD 0
    let b := (o.rows[2]?).getD 0
    (if (o.op = 0xA2 ∨ o.op = 0xA3 ∨ o.op = 0xA4) ∧ d ≠ a ∧ d ≠ b then 2 else 1) * o.nrow

/-- Members that an operation runs in, ascending: their global bank IDs ascend with them (R75). -/
def BankOp.members (o : BankOp) : List Nat := (List.range (dMembers o.w)).filter (fun m => o.runsIn m != 0)

/-- The global bank IDs an operation runs in. -/
def BankOp.banks (o : BankOp) : List Nat := o.members.map (dMember o.w)

/-- The member number of a global bank ID, none outside the bank set (R75). -/
def memberOf? (d g : Nat) : Option Nat := (List.range (dMembers d)).find? (fun m => dMember d m == g)

/-- Whether an operation runs in a bank. -/
def BankOp.uses (o : BankOp) (g : Nat) : Bool :=
  match memberOf? o.w g with
  | some m => o.runsIn m != 0
  | none => false

/-- Whether an operation has RUNs due in a bank. -/
def BankOp.due (o : BankOp) (g : Nat) : Bool :=
  o.stage == .running && (match memberOf? o.w g with
    | some m => decide (o.ran.get noRuns g < o.runsIn m)
    | none => false)

/-- Whether the operation of a ticket has RUNs due in a bank. -/
def Block.dueOf (s : Block) (t g : Nat) : Bool :=
  match s.op? t with
  | some o => o.due g
  | none => false

/-- Whether an earlier operation of the same lane and core still has RUNs due in a bank (R130). -/
def Block.earlierThere (s : Block) (o : BankOp) (g : Nat) : Bool :=
  s.ops.any (fun p => match p.2 with
    | some x => x.lane == o.lane && x.core == o.core && decide (x.seq < o.seq) && x.due g
    | none => false)

/-! ### Leaves (R125-R127, R138) -/

/-- Key of the leaf that a drained entry brings: its place in the staging range for the dot forms, its sum word and
bank for BV.PV. -/
def BankOp.leafKey (o : BankOp) (g idx rseq : Nat) : Option Nat :=
  match memberOf? o.w g with
  | none => none
  | some m =>
    let n := dMembers o.w
    if o.op = 0x80 then
      let k := m + n * rseq
      let h := dTileH o.w
      let out := k / dT0 o.w * h + idx / o.nv
      some ((idx % o.nv * (dT1 o.w * h) + out) * dT0 o.w + k % dT0 o.w)
    else if o.op = 0x81 then
      match slotRange o.w m o.p0 o.pcount with
      | none => none
      | some (a, _) =>
        let r := dPerRow o.w
        let p := ((a / r + rseq) * r + idx / (o.nv * o.ns)) * n + m
        if p < o.p0 ∨ o.p0 + o.pcount ≤ p then none
        else some ((idx % o.nv * o.ns + idx / o.nv % o.ns) * o.pcount + (p - o.p0))
    else if o.op = 0x82 then some (idx * 65536 + g)
    else none

/-- Leaves that complete an operation's tree. -/
def BankOp.leafCount (o : BankOp) : Nat :=
  if o.op = 0x80 then dT0 o.w * dT1 o.w * dTileH o.w * o.nv
  else if o.op = 0x81 then o.pcount * o.ns * o.nv
  else if o.op = 0x82 then o.members.length * o.nv * dElems o.w
  else 0

/-- Whether an operation's tree is complete (R139); an operation without leaves is complete when every bank has ended
it. -/
def BankOp.complete (o : BankOp) : Bool :=
  decide (o.leafCount ≤ o.leaves.length) && (o.leafCount != 0 || o.banks.all (fun g => o.ended.contains g))

/-! ### Tickets and faults (R19, R117, R142) -/

/-- Whether a bank holds an operation of a ticket. -/
def Blu.holds (x : Blu) (t : Nat) : Bool :=
  (match x.op with
   | some o => o.ticket == t
   | none => false) ||
  (match x.uop with
   | some o => o.ticket == t
   | none => false)

/-- Whether a unit's normal operation is that of a ticket. -/
def Blu.holdsNormal (u : Blu) (t : Nat) : Bool :=
  match u.op with
  | some o => o.ticket == t
  | none => false

/-- A ticket returns once its operation is visible or faulted and every pillar sequence of it has finished: no bank holds
it any more, no word of it waits, and none awaits its re-sending (R19). -/
def Block.settleTicket (s : Block) (t : Nat) : Block :=
  match s.op? t with
  | none => s
  | some o =>
    if (o.stage = .committed ∨ o.stage = .faulted) ∧ s.blus.all (fun p => !(p.2.holds t)) ∧ s.inReplay t = false ∧
        s.unsent t = false then
      { s with ops := s.ops.set noOp t none }
    else s

/-- Every ticket that may return does (R19). -/
def Block.settleAll (s : Block) : Block := (s.ops.map Prod.fst).foldl Block.settleTicket s

/-- The words of a faulted operation that still wait are not sent, its ABORTs apart (R117). -/
def Block.dropWords (s : Block) (t : Nat) : Block :=
  (s.pillars.map Prod.fst).foldl (fun b p => b.onPillar p (fun q => { q with
    waiting := q.waiting.filter (fun x => wCmd x.word == 0x16 || s.ticketOf p x.word x.sel != some t) })) s

/-- Position of the queue entry that holds a ticket. -/
def Block.opEntry (s : Block) (o : BankOp) (t : Nat) : Option (Nat × Entry) :=
  let q := s.queue (qKey o.core eBnk o.lane)
  match q.findIdx? (fun en => en.ticket == some t && en.stage == .issued) with
  | none => none
  | some i => (q[i]?).map (fun en => (i, en))

/-- A bank operation faults after issue: it is never committed (R117, R142). -/
def Block.opFault (s : Block) (t code detail : Nat) : Block :=
  match s.op? t with
  | none => s
  | some o =>
    if o.stage = .committed ∨ o.stage = .faulted then s
    else
      let s := (s.mapOp t (fun o => { o with stage := .faulted })).dropWords t
      let key := 2 * o.core + o.lane
      let s := if s.bnkFault.contains key then s else { s with bnkFault := s.bnkFault ++ [key] }
      let s := match s.opEntry o t with
        | some (i, en) => s.faultEntry o.core eBnk o.lane i en code detail
        | none => s
      s.settleTicket t

/-- A bank has ended an operation: every RUN it makes there is done and its lane is free (R19). -/
def Block.bankEnded (s : Block) (t g : Nat) : Block :=
  (s.mapOp t (fun o => if o.ended.contains g then o else { o with ended := o.ended ++ [g] })).settleTicket t

/-- One RUN of an operation has ended in a bank; with the last one the lit token taken for it returns (R133). -/
def Block.runEnded (s : Block) (t p d b : Nat) : Block :=
  let g := s.gbidOf p d b
  let s := s.mapOp t (fun o => { o with ran := o.ran.set noRuns g (o.ran.get noRuns g + 1) })
  match s.op? t with
  | none => s
  | some o =>
    let last := match memberOf? o.w g with
      | some m => decide (o.runsIn m ≤ o.ran.get noRuns g)
      | none => true
    s.mapBlu (bankKey p d b) (fun x => if last && x.litBy == some t then { x with lit := false, litBy := none } else x)

end Sys2Proof.Machine
end

