-- ==== Sys2Proof/Machine/Blu.lean ====
section
/-!
DEFINITION. What a bank and its bank lane unit do on each PIM command (04_bank_lane_units.md, R87-R119).
-/
namespace Sys2Proof.Machine

/-- A physical bank. -/
structure BankAt where
  p : Nat
  d : Nat
  b : Nat
deriving DecidableEq, Repr

/-- Its key. -/
def BankAt.key (x : BankAt) : Nat := bankKey x.p x.d x.b

/-- The unit of a bank. -/
def Block.bluAt (s : Block) (x : BankAt) : Blu := s.blu x.key
/-- The unit of a bank changed. -/
def Block.onBlu (s : Block) (x : BankAt) (f : Blu → Blu) : Block := s.mapBlu x.key f

/-- STATE of a die (R312). -/
def Block.dieState (s : Block) (p d : Nat) : Nat := s.fld (rDie p d) 2 0

/-- Whether the units of a die are OFFLINE (R88, R118, R119). -/
def Block.offline (s : Block) (p d : Nat) : Bool := s.dieState p d != 0 && s.dieState p d != 4

/-! ### Words with residues (R111) -/

/-- A word with its residue. -/
def resWord (v : Nat) : ResWord := ⟨BitVec.ofNat 32 v, BitVec.ofNat 3 (v % 2 ^ 32 % 7)⟩
/-- Whether a word agrees with its residue. -/
def ResWord.ok (w : ResWord) : Bool := w.val.toNat % 7 == w.res.toNat
/-- A word never written. -/
def noWord (_ : Nat) : ResWord := {}
/-- Sixteen accumulators at +0. -/
def zeroAcc : List ResWord := List.replicate 16 {}

/-- A latch word's byte. -/
def latchByte (t : Tab ResWord) (a : Nat) : Nat := bits (t.get noWord (a / 4)).val.toNat (8 * (a % 4) + 7) (8 * (a % 4))

/-- A column written at a 32-byte-aligned latch offset, each word's residue computed on entry (R89); words beyond the
latch do not exist. -/
def latchPut (t : Tab ResWord) (words off : Nat) (x : Column) : Nat → Tab ResWord
  | 0 => t
  | n + 1 =>
    let t := latchPut t words off x n
    let w := off / 4 + n
    if w < words then t.set noWord w (resWord (bits x.toNat (32 * n + 31) (32 * n))) else t

/-- Columns written one after another. -/
def latchFeed (t : Tab ResWord) (words off : Nat) : List Column → Tab ResWord
  | [] => t
  | x :: xs => latchFeed (latchPut t words off x 8) words (off + 32) xs

/-- Words 0 to n − 1 set to +0. -/
def latchZero (t : Tab ResWord) : Nat → Tab ResWord
  | 0 => t
  | n + 1 => (latchZero t n).set noWord n {}

/-! ### An operation's geometry (R100) -/

/-- The weight format. -/
def BluOp.weight (o : BluOp) : Fmt := (Fmt.ofCode o.wfmt).getD .fp32
/-- The activation format. -/
def BluOp.act (o : BluOp) : Fmt := (Fmt.ofCode o.afmt).getD .fp32
/-- Elements per column. -/
def BluOp.perCol (o : BluOp) : Nat := 256 / o.weight.size
/-- Columns per record. -/
def BluOp.recCols (o : BluOp) : Nat := 2 ^ o.geom
/-- Elements per record, n. -/
def BluOp.recElems (o : BluOp) : Nat := o.recCols * o.perCol
/-- Segment length L. -/
def BluOp.segLen (o : BluOp) : Nat := o.recElems / max 1 o.ns
/-- Sum words of an accumulate form. -/
def BluOp.sums (o : BluOp) : Nat := o.nv * o.recElems

/-- The operation ARM and ARMX bind (R288). -/
def bluOpOf (w x : DWord) : BluOp :=
  { form := wf w 27 26, wfmt := wf w 31 28, afmt := wf w 35 32, nv := wf w 37 36 + 1, geom := wf w 41 38,
    ns := 2 ^ wf w 44 42, lbase := 32 * wf w 51 45, lstride := 32 * wf w 58 52, ticket := wf x 37 26 }

/-! ### Refusals and errors (R90, R115, R117) -/

/-- A refused command: CMD_SEQ and an event (R90, R522). -/
def Block.bluRefuse (s : Block) (x : BankAt) (cmd lane : Nat) : Block :=
  let u := s.bluAt x
  let st := if s.offline x.p x.d then 0 else u.st
  let body := s.gbidOf x.p x.d x.b + cmd <<< 16 + lane <<< 24 + st <<< 32 + (b2n u.uop.isSome) <<< 40 + x.d <<< 48
  (s.onBlu x (fun u => { u with err := u.err ||| 64#7 })).logEvent 0x13 (unitDie x.p x.d) body

/-- The RUN of a lane. -/
def Blu.laneRun (u : Blu) (lane : Nat) : Option BluRun := if lane = 0 then u.run else u.urun
/-- The RUN of a lane replaced. -/
def Blu.setRun (u : Blu) (lane : Nat) (r : Option BluRun) : Blu :=
  if lane = 0 then { u with run := r } else { u with urun := r }

/-- Drain entries of a ticket dropped. -/
def dropTicket (t : Nat) (l : List DWord) : List DWord := l.filter (fun e => wf e 63 52 != t)

/-- A unit stops on an error: the lane is halted, its accumulators and drain entries are discarded, and the operation
faults (R117). -/
def Block.bluHalt (s : Block) (x : BankAt) (lane code row col : Nat) : Block :=
  match (s.bluAt x).laneOp lane with
  | none => s
  | some o =>
    let s := s.onBlu x (fun u =>
      let u := { u with acc := zeroAcc, drain := dropTicket o.ticket u.drain }.setRun lane none
      if lane = 0 then { u with st := 6 } else { u with uhalt := true })
    s.opFault o.ticket code (Config.bluDetail (s.gbidOf x.p x.d x.b) row col).toNat

/-- A residue mismatch: counted, flagged, held in BLULAST and logged; `kind` is 3, 4 or 5 (R115, R522). -/
def Block.countRes (s : Block) (x : BankAt) (row col kind : Nat) : Block :=
  let n := min ((s.bluAt x).rescnt + 1) 0xFFFFFFFF
  let s := s.onBlu x (fun u =>
    { u with rescnt := n, err := u.err ||| (if kind = 4 then 4#7 else 2#7), last := row + col <<< 13 + kind <<< 19 })
  s.logEvent 0x12 (unitDie x.p x.d) (s.memBody x.p x.d x.b row col 0 + kind <<< 56 + n <<< 64)

/-- Numeric flags of a bank lane unit (R98, R99, R114): INVALID, OVERFLOW, NAN_INPUT. -/
def bluFlags (fl : Flags) (nanIn : Bool) : BitVec 7 :=
  (if fl &&& flInvalid = 0#6 then 0#7 else 8#7) ||| (if fl &&& flOverflow = 0#6 then 0#7 else 16#7) |||
    (if nanIn then 32#7 else 0#7)

/-! ### One column of a sweep (R94-R102) -/

/-- Element i of a column in a weight format. -/
def weightAt (f : Fmt) (c : Column) (i : Nat) : FVal := f.decode (bits c.toNat (f.size * i + f.size - 1) (f.size * i))

/-- The weights of a column, ascending. -/
def BluOp.weights (o : BluOp) (c : Column) : List FVal := (List.range o.perCol).map (weightAt o.weight c)

/-- Latch byte address of element i of vector slot v, slice included (R95, R102). -/
def BluOp.latchAt (o : BluOp) (slice v i : Nat) : Nat := o.lbase + v * o.lstride + 32 * slice + i * (o.act.size / 8)

/-- Activations of a column for slot v from element e0 on. -/
def BluOp.acts (o : BluOp) (t : Tab ResWord) (slice v e0 : Nat) : List FVal :=
  (List.range o.perCol).map (fun i =>
    let a := o.latchAt slice v (e0 + i)
    o.act.decode ((List.range (o.act.size / 8)).foldl (fun n k => n + (latchByte t (a + k)) <<< (8 * k)) 0))

/-- Whether every latch word that n elements of slot v need agrees with its residue (R94 step 2). -/
def BluOp.latchOk (o : BluOp) (t : Tab ResWord) (slice v e0 n : Nat) : Bool :=
  (List.range n).all (fun i => (t.get noWord (o.latchAt slice v (e0 + i) / 4)).ok)

/-- The column partial: the first product exactly, each later one added and rounded (R98). -/
def dotPartial : List (FVal × FVal) → Option FVal → Flags → FVal × Flags
  | [], acc, fl => (acc.getD .zero, fl)
  | (a, b) :: t, acc, fl =>
    let (p, f1) := a.mul b
    match acc with
    | none => dotPartial t (some p) (fl ||| f1)
    | some q =>
      let (v, f2) := fadd32 q p
      dotPartial t (some v) (fl ||| f1 ||| f2)

/-- The FP32 value of an accumulator. -/
def ResWord.fval (w : ResWord) : FVal := Fmt.fp32.decode w.val.toNat

/-- A value added into an accumulator (R98). -/
def accAdd (acc : List ResWord) (i : Nat) (v : FVal) : List ResWord × Flags :=
  let (x, fl) := fadd32 ((acc[i]?).getD {}).fval v
  (acc.set i (resWord x.bits32), fl)

/-- What one column does to a unit: its accumulators or latch after it and its numeric flags, or a residue failure. -/
structure ColEffect where
  acc : List ResWord
  latch : Tab ResWord
  flags : BitVec 7 := 0#7
  bad : Bool := false
deriving DecidableEq, Repr

/-- The scale t of an NB4 block: its value, the flags of its product, and whether S_b or S_r was a NaN (R51, R56). -/
structure BlockScale where
  t : FVal
  flags : Flags
  nan : Bool
deriving DecidableEq, Repr

/-- A dot form's column for each vector slot (R98, R102): accumulator base a0, first element e0, NB4 scale `sc`. -/
def BluOp.dotCol (o : BluOp) (ws : List FVal) (slice a0 e0 : Nat) (sc : Option BlockScale) : Nat → ColEffect → ColEffect
  | 0, e => e
  | v + 1, e =>
    let e := o.dotCol ws slice a0 e0 sc v e
    if e.bad then e
    else if !(o.latchOk e.latch slice v e0 ws.length) || !(((e.acc[a0 + v]?).getD {}).ok) then { e with bad := true }
    else
      let xs := (o.acts e.latch slice v e0).take ws.length
      let (q, f1) := dotPartial (List.zip ws xs) none 0#6
      let (q, f2) := match sc with
        | some x => let (y, f) := fmul32 q x.t; (y, x.flags ||| f)
        | none => (q, 0#6)
      let (acc, f3) := accAdd e.acc (a0 + v) q
      { e with acc := acc, flags := e.flags ||| bluFlags (f1 ||| f2 ||| f3) (xs.any FVal.isNan) }

/-- One element of an accumulate form for each vector slot (R99): probability base a0, element index e in the record. -/
def BluOp.pvElem (o : BluOp) (x : FVal) (a0 i : Nat) : Nat → ColEffect → ColEffect
  | 0, e => e
  | v + 1, e =>
    let e := o.pvElem x a0 i v e
    let w := v * o.recElems + i
    let p := (e.acc[a0 + v]?).getD {}
    let old := e.latch.get noWord w
    if e.bad || !p.ok || !old.ok then { e with bad := true }
    else
      let (q, f1) := x.mul p.fval
      let (y, f2) := fadd32 old.fval q
      { e with latch := e.latch.set noWord w (resWord y.bits32),
               flags := e.flags ||| bluFlags (f1 ||| f2) p.fval.isNan }

/-- The elements of an accumulate form's column in ascending order. -/
def BluOp.pvCol (o : BluOp) (a0 : Nat) : Nat → List FVal → ColEffect → ColEffect
  | _, [], e => e
  | i, x :: t, e => o.pvCol a0 (i + 1) t (o.pvElem x a0 i o.nv e)

/-- How many elements of column c of a tile are not padding, where `lim` gives the inputs and outputs of the tile that
the tensor has (R76, R77). -/
def BluOp.realElems (o : BluOp) (lim : Option (Nat × Nat)) (c : Nat) : Nat :=
  match lim with
  | none => o.perCol
  | some (inputs, outputs) =>
    let h := 2 ^ o.geom
    if c * h / 64 < outputs then inputs - c % (64 / h) * o.perCol else 0

/-- What column c of a sweep does (R98-R102); `sc` is the block's NB4 scale. Padding of a tile is ignored, and a column
of padding alone adds nothing (R77). -/
def BluOp.sweepCol (o : BluOp) (lim : Option (Nat × Nat)) (word : DWord) (c : Nat) (x : Column) (sc : Option BlockScale)
    (acc : List ResWord) (latch : Tab ResWord) : ColEffect :=
  let ws := if o.form = 0 then (o.weights x).take (o.realElems lim c) else o.weights x
  let nan := ws.any FVal.isNan || (sc.map BlockScale.nan).getD false
  let e : ColEffect := { acc := acc, latch := latch }
  let slice := wf word 34 28
  if o.form = 0 then
    let h := 2 ^ o.geom
    if ws.isEmpty then e
    else
      let e := o.dotCol ws slice (c * h / 64 * o.nv) (c % (64 / h) * o.perCol) sc o.nv e
      { e with flags := e.flags ||| bluFlags 0#6 nan }
  else
    let r := c / o.recCols
    let e0 := c % o.recCols * o.perCol
    if r < wf word 51 48 ∨ wf word 55 52 < r then e
    else
      let a0 := (r * o.ns + e0 / max 1 o.segLen) * o.nv
      let e := if o.form = 1 then o.dotCol ws slice a0 e0 none o.nv e else o.pvCol a0 e0 ws e
      { e with flags := e.flags ||| bluFlags 0#6 nan }

/-! ### Columns in sequence -/

/-- Byte i of a scale record held in three columns. -/
def recordByte (l : List Column) (i : Nat) : Nat := bits ((l[i / 32]?).getD 0#256).toNat (8 * (i % 32) + 7) (8 * (i % 32))

/-- The scale record of a row read from RB1 through the scale port (R40, R94): counted once, as the row's first column
is read; none where a column of it is uncorrectable. -/
def Block.readScales (s : Block) (x : BankAt) (row slot : Nat) (count : Bool) : Block × Except (Nat × Nat) (List Column) :=
  let go := fun (acc : Block × Except (Nat × Nat) (List Column)) (i : Nat) =>
    match acc with
    | (s, .error e) => (s, .error e)
    | (s, .ok l) =>
      let c := 3 * slot + i
      match (if count then s.readCol x.p x.d x.b row c 0
             else match colDecode (s.colRaw (colKey x.p x.d x.b row c)) row c with
               | .clean v => (s, some v)
               | .corrected v => (s, some v)
               | _ => s.readCol x.p x.d x.b row c 0) with
      | (s, some v) => (s, .ok (l ++ [v]))
      | (s, none) => (s, .error (row, c))
  [0, 1, 2].foldl go (s, .ok [])

/-- The block scale t of column c: S_b × S_r in FP32, with the events of that product (R51, R56, R98). -/
def blockScale (l : List Column) (c : Nat) : BlockScale :=
  let sr := Fmt.fp32.decode (recordByte l 64 + recordByte l 65 <<< 8 + recordByte l 66 <<< 16 + recordByte l 67 <<< 24)
  let sb := Fmt.e4m3.decode (recordByte l c)
  let (t, fl) := fmul32 sb sr
  ⟨t, fl, sb.isNan || sr.isNan⟩

/-- The latch a lane uses. -/
def Blu.laneLatch (u : Blu) (lane : Nat) : Tab ResWord := if lane = 0 then u.latch else u.ulatch

/-- Inputs and outputs of the tile a RUN sweeps that the tensor has: the rest of the tile is padding (R76, R77). -/
def Block.tileLimit (s : Block) (x : BankAt) (o : BluOp) (r : BluRun) : Option (Nat × Nat) :=
  match s.op? o.ticket with
  | none => none
  | some p => (memberOf? p.w (s.gbidOf x.p x.d x.b)).map (fun m =>
      let k := m + dMembers p.w * wf r.word 47 35
      (dSize p.w 0 - k % dT0 p.w * dTileW p.w, dSize p.w 1 - k / dT0 p.w * dTileH p.w))

/-- Column c of a sweep (R94): decode, scales, products, commit; a failing column commits nothing and halts the lane. -/
def Block.sweepStep (s : Block) (x : BankAt) (lane : Nat) (o : BluOp) (r : BluRun) : Block × Bool :=
  match (if o.weight = .nb4 then s.readScales x r.row1 (wf r.word 47 35 % 21) (r.col == 0) else (s, .ok [])) with
  | (s, .error (row, c)) => (s.bluHalt x lane 0x40 row c, false)
  | (s, .ok scales) =>
    match s.readCol x.p x.d x.b r.row r.col 0 with
    | (s, none) => (s.bluHalt x lane 0x40 r.row r.col, false)
    | (s, some v) =>
      let u := s.bluAt x
      let sc := if o.weight = .nb4 then some (blockScale scales r.col) else none
      let e := o.sweepCol (s.tileLimit x o r) r.word r.col v sc u.acc (u.laneLatch lane)
      if e.bad then ((s.countRes x r.row r.col 4).bluHalt x lane 0x42 r.row r.col, false)
      else if u.slip then
        (((s.onBlu x (fun u => { u with slip := false })).countRes x r.row r.col 3).bluHalt x lane 0x41 r.row r.col, false)
      else (s.onBlu x (fun u =>
        let u := { u with acc := e.acc, err := u.err ||| e.flags }.setRun lane (some { r with col := r.col + 1 })
        if lane = 0 then { u with latch := e.latch } else { u with ulatch := e.latch }), true)

/-- What a utility writes into a column of D (R109, R129). -/
def utilColumn (op : Nat) (pattern src dst : Column) : Column :=
  match op with
  | 0 => pattern
  | 1 => src
  | 2 => ~~~src
  | 3 => dst &&& src
  | 4 => dst ||| src
  | _ => dst ^^^ src

/-- Column c of a utility pass (R109): RB0 holds the source and RB1 the destination, or one buffer both. -/
def Block.utilStep (s : Block) (x : BankAt) (lane : Nat) (r : BluRun) : Block × Bool :=
  let op := wf r.word 30 28
  let inplace := wf r.word 31 31 = 1
  let drow := if inplace then r.row else r.row1
  let fail := fun (s : Block) (row : Nat) => (s.bluHalt x lane 0x40 row r.col, false)
  let done := fun (s : Block) (v : Column) =>
    ((s.writeCol x.p x.d x.b drow r.col v).onBlu x (fun u => u.setRun lane (some { r with col := r.col + 1 })), true)
  if op = 0 then done s (utilColumn 0 (r.data.headD 0#256) 0#256 0#256)
  else match s.readCol x.p x.d x.b r.row r.col 0 with
    | (s, none) => fail s r.row
    | (s, some src) =>
      if op ≤ 2 then done s (utilColumn op 0#256 src 0#256)
      else match s.readCol x.p x.d x.b drow r.col 0 with
        | (s, none) => fail s drow
        | (s, some dst) => done s (utilColumn op 0#256 src dst)

/-- Column c of an append (R110). -/
def Block.appendStep (s : Block) (x : BankAt) (lane : Nat) (r : BluRun) : Block × Bool :=
  let v := (r.data[r.col]?).getD 0#256
  ((s.writeCol x.p x.d x.b r.row (wf r.word 33 28 + r.col) v).onBlu x
    (fun u => u.setRun lane (some { r with col := r.col + 1 })), true)

/-- Columns of a RUN. -/
def BluRun.total (r : BluRun) : Nat := if wf r.word 27 26 = 2 then wf r.word 39 34 + 1 else 64

/-- The next column of a lane's RUN. -/
def Block.runStep (s : Block) (x : BankAt) (lane : Nat) : Block × Bool :=
  match (s.bluAt x).laneRun lane, (s.bluAt x).laneOp lane with
  | some r, some o =>
    if r.total ≤ r.col then (s, false)
    else match wf r.word 27 26 with
      | 0 => s.sweepStep x lane o r
      | 1 => s.utilStep x lane r
      | _ => s.appendStep x lane r
  | _, _ => (s, false)

/-- Up to n columns of a lane's RUN. -/
def Block.runCols (s : Block) (x : BankAt) (lane : Nat) : Nat → Block
  | 0 => s
  | n + 1 =>
    match s.runStep x lane with
    | (s, true) => s.runCols x lane n
    | (s, false) => s

/-- Whether a lane is admitted: the bank is lit, and for the normal lane on a token taken for its own operation, since
ember tokens serve urgent operations alone (R132-R134). -/
def Blu.litFor (u : Blu) (lane : Nat) : Bool :=
  u.lit && (lane != 0 || (match u.litBy with
    | some t => u.holdsNormal t
    | none => false))

/-- Whether the rows of a RUN are open. -/
def Blu.rowOpen (u : Blu) (r : BluRun) : Bool := u.rb0 == some r.row || (u.rb0.isNone && u.rb1 == some r.row)

/-- Whether a lane's RUN waits for the drain buffer: it has not emptied before the row's first column (R103). -/
def Blu.drainWaits (u : Blu) (r : BluRun) : Bool := !u.drain.isEmpty && r.col == 0 && wf r.word 27 26 == 0

/-- Whether a lane's RUN may read columns: it is admitted, its rows are open, and the drain buffer is empty before a row's
first column (R89, R103, R133). -/
def Blu.mayRun (u : Blu) (lane : Nat) (r : BluRun) : Bool := u.litFor lane && u.rowOpen r && !(u.drainWaits r)

/-- A lane's RUN carried on to column `upto`. -/
def Block.runTo (s : Block) (x : BankAt) (lane upto : Nat) : Block :=
  let u := s.bluAt x
  match u.laneRun lane with
  | none => s
  | some r => if u.mayRun lane r then s.runCols x lane (min upto r.total - r.col) else s

/-! ### The commands (R89) -/

/-- The accumulators kept in the shadows (R105, R107). -/
def Blu.shadowed (u : Blu) : Blu := { u with shadow := u.acc, ckptValid := true }

/-- The parity of a checkpoint record: row, next column and pass (R87). -/
def BluRun.parity (r : BluRun) : Bool :=
  (List.range 32).foldl (fun x i => xor x (bit (r.row + r.col <<< 13 + (wf r.word 31 28) <<< 20) i)) false

/-- A normal RUN stopped at a column boundary (R105). -/
def Blu.park (u : Blu) : Blu :=
  match u.run with
  | some r => { u.shadowed with ckpt := some r, ckptPar := r.parity, run := none, st := 4 }
  | none => u

/-- The accumulators are read for a copy: where one disagrees with its residue, the normal operation is halted (R111,
R117). The answer's second part says whether the copy may be made. -/
def Block.accsRead (s : Block) (x : BankAt) (row col : Nat) : Block × Bool :=
  if (s.bluAt x).acc.all ResWord.ok then (s, true) else ((s.countRes x row col 4).bluHalt x 0 0x42 row col, false)

/-- A normal RUN in a bank, if there is one, stopped at a column boundary (R105). -/
def Block.parkBank (s : Block) (x : BankAt) : Block :=
  match (s.bluAt x).run with
  | none => s
  | some r =>
    match s.accsRead x r.row r.col with
    | (s, true) => s.onBlu x Blu.park
    | (s, false) => s

/-- An ARMED normal operation's accumulators copied to the shadows (R107). -/
def Block.shadowBank (s : Block) (x : BankAt) : Block :=
  if (s.bluAt x).st ≠ 2 then s
  else match s.accsRead x 0 0 with
    | (s, true) => s.onBlu x Blu.shadowed
    | (s, false) => s

/-- The cycle of the next tREFI of a bank (R296, R299). -/
def Block.nextRefi (s : Block) (x : BankAt) : Nat :=
  (s.bluAt x).refiAt + (if s.fld (rDie x.p x.d) 4 4 = 1 then 31250 else 62500)

/-- Whether a REFB goes before an urgent operation's ACT: the debt, a REFB in progress counted as done, is 7 or 8, and the
next tREFI falls within 4,672 ns (R298). -/
def Block.refreshOwed (s : Block) (x : BankAt) : Bool :=
  decide (7 ≤ (s.bluAt x).debt) && decide (s.nextRefi x ≤ s.cycle + 7008)

/-- ARM with its ARMX (R89). An urgent ARM of the accumulate form sets the urgent latch's sum region to +0 too, as a
normal one does the latch's: the table says so for the normal ARM alone (DESIGN CHOICE, log entry 123). -/
def Block.bluArm (s : Block) (x : BankAt) (lane : Nat) (w w2 : DWord) : Block :=
  let o := bluOpOf w w2
  let u := s.bluAt x
  if s.offline x.p x.d then s.bluRefuse x 0x10 lane
  else if lane = 0 then
    if u.st ≠ 1 then s.bluRefuse x 0x10 lane
    else s.onBlu x (fun u => { u with
      op := some o, acc := zeroAcc, st := 2, sent := 0, latch := if o.form = 2 then latchZero u.latch o.sums else u.latch })
  else if u.uop.isSome then s.bluRefuse x 0x10 lane
  else
    let s := if u.run.isSome then s.parkBank x else s.shadowBank x
    let owed := s.refreshOwed x
    s.onBlu x (fun u =>
      { u with uop := some o, uhalt := false, udrain := false, usent := 0, acc := zeroAcc, refOwed := owed,
               ulatch := if o.form = 2 then latchZero u.ulatch o.sums else u.ulatch })

/-- Sixteen probabilities of a column, widened exactly to FP32 (R89, R288). -/
def probWords (f : Fmt) (x : Column) : List ResWord :=
  (List.range 16).map (fun i =>
    resWord (Fmt.fp32.encode .rne false (f.decode (bits x.toNat (f.size * i + f.size - 1) (f.size * i)))).1)

/-- FEED (R89, R96). An urgent lane that is halted accepts none (DESIGN CHOICE, log entry 22). -/
def Block.bluFeed (s : Block) (x : BankAt) (lane : Nat) (w : DWord) (data : List Column) : Block :=
  let u := s.bluAt x
  let off := 32 * wf w 34 28
  let no := s.bluRefuse x 0x11 lane
  if s.offline x.p x.d then no
  else match wf w 27 26 with
    | 0 => if lane = 0 ∧ (u.st = 1 ∨ u.st = 2) then
        s.onBlu x (fun u => { u with latch := latchFeed u.latch 1024 off data }) else no
    | 1 => if lane = 1 ∧ u.uop.isSome ∧ !u.uhalt then
        s.onBlu x (fun u => { u with ulatch := latchFeed u.ulatch 128 off data }) else no
    | _ =>
      match u.laneOp lane with
      | none => no
      | some o =>
        if o.form ≠ 2 ∨ (lane = 0 ∧ (u.st ≠ 2 ∨ u.uop.isSome)) ∨ (lane = 1 ∧ u.uhalt) then no
        else s.onBlu x (fun u => { u with acc := probWords o.act (data.headD 0#256) })

/-- Whether RUN is accepted in a lane (R89): STATE is ARMED, or an urgent operation is bound; an urgent lane that is
halted, draining or in a RUN accepts none (DESIGN CHOICE, log entry 22). -/
def Blu.acceptsRun (u : Blu) (lane : Nat) : Bool :=
  if lane = 0 then u.st == 2 else u.uop.isSome && !u.uhalt && !u.udrain && u.urun.isNone

/-- The buffers a RUN needs open: RB0, and RB1 for the scale port or a utility's destination. -/
def Blu.rowsFor (u : Blu) (o : BluOp) (w : DWord) : Option (Nat × Nat) :=
  let two := (wf w 27 26 = 0 && o.weight = .nb4) || (wf w 27 26 = 1 && wf w 31 31 = 0)
  let one := !(wf w 27 26 = 1 && wf w 30 28 = 0 && wf w 31 31 = 0)
  match u.rb0, u.rb1 with
  | some a, some b => some (a, b)
  | some a, none => if two then none else some (a, 0)
  | none, some b => if one then none else some (b, b)
  | none, none => none

/-- The RUN a lane starts: an urgent one takes up its own checkpoint, from column 0 in the dot forms (R108). -/
def Blu.startRun (u : Blu) (lane : Nat) (o : BluOp) (w : DWord) (data : List Column) (rows : Nat × Nat) : Blu :=
  let r : BluRun := ⟨w, data, rows.1, rows.2, 0⟩
  if lane = 0 then { u with st := 3, run := some r }
  else match u.uckpt with
    | none => { u with urun := some r }
    | some k =>
      if o.form ≤ 1 then { u with urun := some r, uckpt := none, acc := zeroAcc }
      else { u with urun := some { r with col := k.col }, uckpt := none }

/-- RUN (R89): the row is swept as far as `upto`. A RUN whose buffers hold no open row, or whose kind is not that of the
bound form, is refused (DESIGN CHOICE, log entry 22). -/
def Block.bluRun (s : Block) (x : BankAt) (lane : Nat) (w : DWord) (data : List Column) (upto : Nat) : Block :=
  let u := s.bluAt x
  let no := s.bluRefuse x 0x12 lane
  if s.offline x.p x.d || !(u.acceptsRun lane) then no
  else match u.laneOp lane with
  | none => no
  | some o =>
    if (wf w 27 26 = 0) ≠ (o.form ≤ 2) then no
    else match u.rowsFor o w with
    | none => no
    | some rows =>
      (s.onBlu x (fun u => u.startRun lane o w data rows)).runTo x lane upto

/-- PARK (R89, R105). -/
def Block.bluPark (s : Block) (x : BankAt) (lane : Nat) : Block :=
  if s.offline x.p x.d ∨ (s.bluAt x).st ≠ 3 ∨ lane ≠ 0 then s.bluRefuse x 0x13 lane else s.parkBank x

/-- A parked operation taken up again (R106): the shadows are copied back, their residues checked. -/
def Block.unpark (s : Block) (x : BankAt) : Block :=
  let u := s.bluAt x
  match u.ckpt with
  | none => s
  | some r =>
    if u.shadow.all ResWord.ok then
      s.onBlu x (fun u => { u with acc := u.shadow, ckptValid := false, ckpt := none, run := some r, st := 3 })
    else (s.countRes x r.row r.col 4).bluHalt x 0 0x42 r.row r.col

/-- RESUME (R89, R106). -/
def Block.bluResume (s : Block) (x : BankAt) (lane upto : Nat) : Block :=
  let u := s.bluAt x
  if s.offline x.p x.d ∨ u.st ≠ 4 ∨ u.uop.isSome ∨ lane ≠ 0 then s.bluRefuse x 0x14 lane
  else (s.unpark x).runTo x 0 upto

/-- A drain entry (R104). -/
def drainEntry (v : ResWord) (index ticket : Nat) : DWord :=
  BitVec.ofNat 64 (v.val.toNat + v.res.toNat <<< 32 + (index % 2 ^ 17) <<< 35 + (ticket % 2 ^ 12) <<< 52)

/-- Accumulators that a row's end drains, ascending (R103). -/
def BluOp.outputs (o : BluOp) (w : DWord) : List Nat :=
  if o.form = 0 then List.range (2 ^ o.geom * o.nv)
  else if o.form = 1 then
    (List.range 16).filter (fun a => decide (wf w 51 48 ≤ a / (o.ns * o.nv)) && decide (a / (o.ns * o.nv) ≤ wf w 55 52))
  else []

/-- The end of a RUN: outputs into the drain buffer, accumulators at +0, and the lane between rows (R103). -/
def Blu.endRow (u : Blu) (lane : Nat) (o : BluOp) (w : DWord) : Blu :=
  let out := (o.outputs w).map (fun a => drainEntry ((u.acc[a]?).getD {}) (a + (wf w 47 35) <<< 4) o.ticket)
  let u := { u with drain := u.drain ++ out, acc := if o.form ≤ 1 then zeroAcc else u.acc }.setRun lane none
  if lane = 0 then { u with st := 2 } else u

/-- The lane's RUN reaches its end. -/
def Block.bluRowEnd (s : Block) (x : BankAt) (lane : Nat) : Block :=
  let s := s.runTo x lane 64
  match (s.bluAt x).laneRun lane, (s.bluAt x).laneOp lane with
  | some r, some o =>
    if r.col < r.total then s
    else if (o.outputs r.word).any (fun a => !(((s.bluAt x).acc[a]?).getD {}).ok) then
      (s.countRes x r.row (r.total - 1) 4).bluHalt x lane 0x42 r.row (r.total - 1)
    else (s.onBlu x (fun u => u.endRow lane o r.word)).runEnded o.ticket x.p x.d x.b
  | _, _ => s

/-- The lane ends: IDLE, or the urgent operation gone (R89, R107). -/
def Blu.endLane (u : Blu) (lane : Nat) : Blu :=
  if lane = 0 then { u with st := 1, op := none, run := none, ckpt := none, ckptValid := false, sent := 0 }
  else { u with uop := none, urun := none, uckpt := none, uhalt := false, udrain := false, refOwed := false, usent := 0 }

/-- An ARMED normal operation gets its accumulators back once no urgent operation is bound: the shadows are read and their
residues checked (R107, R111). -/
def Block.restoreBank (s : Block) (x : BankAt) : Block :=
  let u := s.bluAt x
  if u.st ≠ 2 then s
  else if u.shadow.all ResWord.ok then s.onBlu x (fun u => { u with acc := u.shadow, ckptValid := false })
  else (s.countRes x 0 0 4).bluHalt x 0 0x42 0 0

/-- A lane of a bank ends; the end of the urgent one, by its DRAIN or by ABORT (DESIGN CHOICE, log entry 124), gives an
ARMED normal operation its accumulators back (R107). -/
def Block.laneEnds (s : Block) (x : BankAt) (lane : Nat) : Block :=
  let s := s.onBlu x (fun u => u.endLane lane)
  if lane = 0 then s else s.restoreBank x

/-- Latch sums of a lane that its DRAIN has put into the drain buffer so far. -/
def Blu.laneSent (u : Blu) (lane : Nat) : Nat := if lane = 0 then u.sent else u.usent

/-- Whether a lane is draining. -/
def Blu.draining (u : Blu) (lane : Nat) : Bool := if lane = 0 then u.st == 5 else u.udrain

/-- The next latch sums of a draining accumulate form, while the sixteen entries of the drain buffer have room (R87, R103):
each is read and its residue checked (R111). -/
def Block.topUp (s : Block) (x : BankAt) (lane : Nat) : Nat → Block
  | 0 => s
  | n + 1 =>
    let u := s.bluAt x
    match u.laneOp lane with
    | none => s
    | some o =>
      let i := u.laneSent lane
      if u.draining lane = false ∨ o.form ≠ 2 ∨ o.sums ≤ i ∨ 16 ≤ u.drain.length then s
      else
        let w := (u.laneLatch lane).get noWord i
        if w.ok then
          (s.onBlu x (fun u =>
            let u := { u with drain := u.drain ++ [drainEntry w i o.ticket] }
            if lane = 0 then { u with sent := i + 1 } else { u with usent := i + 1 })).topUp x lane n
        else (s.countRes x 0 0 4).bluHalt x lane 0x42 0 0

/-- A draining lane whose last entry has left ends. -/
def Block.drainDone (s : Block) (x : BankAt) (lane : Nat) : Block :=
  let u := s.bluAt x
  match u.laneOp lane with
  | none => s
  | some o =>
    if u.draining lane = false ∨ u.drain.any (fun e => wf e 63 52 == o.ticket) = true ∨
        (o.form = 2 ∧ u.laneSent lane < o.sums) then s
    else (s.laneEnds x lane).bankEnded o.ticket (s.gbidOf x.p x.d x.b)

/-- Whether DRAIN is accepted in a lane (R89): an ARMED operation, or an urgent one between rows that is neither halted nor
draining already (DESIGN CHOICE, log entry 22). -/
def Blu.acceptsDrain (u : Blu) (lane : Nat) : Bool :=
  if lane = 0 then u.st == 2 else u.uop.isSome && u.urun.isNone && u.uckpt.isNone && !u.uhalt && !u.udrain

/-- DRAIN (R89, R103). -/
def Block.bluDrain (s : Block) (x : BankAt) (lane : Nat) : Block :=
  if s.offline x.p x.d || !((s.bluAt x).acceptsDrain lane) then s.bluRefuse x 0x15 lane
  else
    let s := s.onBlu x (fun u => if lane = 0 then { u with st := 5, sent := 0 } else { u with udrain := true, usent := 0 })
    (s.topUp x lane 16).drainDone x lane

/-- ABORT (R89). -/
def Block.bluAbort (s : Block) (x : BankAt) (lane : Nat) : Block :=
  let u := s.bluAt x
  if s.offline x.p x.d then s.bluRefuse x 0x16 lane
  else match u.laneOp lane with
  | none => s
  | some o =>
    let s := s.onBlu x (fun u =>
      let u := { u with drain := dropTicket o.ticket u.drain }
      if u.litBy = some o.ticket then { u with lit := false, litBy := none } else u)
    (s.laneEnds x lane).bankEnded o.ticket (s.gbidOf x.p x.d x.b)

/-- An urgent RUN stopped at a column boundary: its checkpoint is recorded and the lit token returned (R108). -/
def Blu.stopUrgent (u : Blu) : Blu :=
  match u.urun with
  | some r => { u with uckpt := some r, uckptPar := r.parity, urun := none, lit := false, litBy := none }
  | none => u

/-! ### Rows and refresh (R287, R295, R296) -/

/-- An ordinary command stops the normal RUN of its bank at a column boundary; the operation keeps its lit token (R105,
R293). -/
def Block.giveWay (s : Block) (x : BankAt) : BusSource → Block
  | .port _ => s.parkBank x
  | _ => s

/-- A row opened in a buffer, under the page policy then in force (R287, R295). -/
def Block.bankAct (s : Block) (x : BankAt) (w : DWord) : Block :=
  let timer := s.fld (rP x.p 0x70) 0 0 == 0
  s.onBlu x (fun u => if wf w 39 39 = 0 then { u with rb0 := some (wf w 38 26), rb0Timer := timer }
    else { u with rb1 := some (wf w 38 26), rb1Timer := timer })

/-- Buffers closed. -/
def Block.bankPre (s : Block) (x : BankAt) (w : DWord) : Block :=
  s.onBlu x (fun u =>
    { u with rb0 := if wf w 26 26 = 1 then none else u.rb0, rb1 := if wf w 27 27 = 1 then none else u.rb1 })

/-- A refresh (R296, R297): a normal RUN stops first (R105), the rows close, the pointer and the debt move; a refresh
at the deadline is counted. -/
def Block.bankRefresh (s : Block) (x : BankAt) : Block :=
  let s := if (s.bluAt x).debt = 8 then s.bump48 (rP x.p 0x108) 1 else s
  (s.parkBank x).onBlu x (fun u =>
    { u with rb0 := none, rb1 := none, ptr := (u.ptr + 1) % 768, debt := if u.debt ≤ -8 then -8 else u.debt - 1,
             refUntil := s.cycle + 180, refOwed := false })

/-- A column read by the controller from an open row: it is returned with its check bits, decoded and counted (R93,
R287). -/
def Block.bankRead (s : Block) (x : BankAt) (w : DWord) : Block :=
  match (if wf w 26 26 = 0 then (s.bluAt x).rb0 else (s.bluAt x).rb1) with
  | some row =>
    let raw := s.colRaw (colKey x.p x.d x.b row (wf w 32 27))
    ((s.readCol x.p x.d x.b row (wf w 32 27) 1).1).onPillar x.p (fun q => { q with rdata := some raw })
  | none => s

/-- A column written with the check bits that accompany it (R287). -/
def Block.bankWrite (s : Block) (x : BankAt) (w : DWord) (data : Column) (check : BitVec 32) : Block :=
  match (if wf w 26 26 = 0 then (s.bluAt x).rb0 else (s.bluAt x).rb1) with
  | some row => (s.setCol (colKey x.p x.d x.b row (wf w 32 27)) (packCol data check)).markRow x.p x.d x.b row
  | none => s

/-- A free latch: words nobody has stated (DESIGN CHOICE, log entry 23). -/
def Block.freeLatch (s : Block) : Nat → Tab ResWord → Block × Tab ResWord
  | 0, t => (s, t)
  | n + 1, t =>
    let (v, s) := s.draw
    s.freeLatch n (t.set noWord n (resWord (v % 2 ^ 32)))

/-- Columns of a test row written with free data and right check bits (DESIGN CHOICE, log entry 23). -/
def Block.freeRow (s : Block) (x : BankAt) (row : Nat) : Nat → Block
  | 0 => s
  | n + 1 =>
    let (v, s) := s.draw
    (s.writeCol x.p x.d x.b row n (BitVec.ofNat 256 v)).freeRow x row n

/-- A self-test step failed, the first to do so (R484, R494). -/
def failStest (u : Blu) (test : Nat) : Blu := { u with tested := true, passed := false, firstFail := test }

/-- STEST (R483): accepted in step TEST by units in OFFLINE or IDLE of a die that is not ABSENT; `pass` is the pass bit
the bank returns. PATTERN rewrites rows 6,142 and 6,143; MAC, RESIDUE and SHADOW use the latch. -/
def Block.bluStest (s : Block) (x : BankAt) (lane : Nat) (w : DWord) (pass : Bool) : Block :=
  let u := s.bluAt x
  let test := wf w 29 26
  if s.fld (rMc 0x10) 3 0 ≠ 6 ∨ s.life ≠ .dawn ∨ s.dieState x.p x.d = 1 ∨ (!(s.offline x.p x.d) ∧ u.st ≠ 1) then
    s.bluRefuse x 0x17 lane
  else
    let s := if test = 0 then (s.freeRow x 6142 64).freeRow x 6143 64 else s
    let s := if 2 ≤ test then
        let (s, t) := s.freeLatch 1024 []
        s.onBlu x (fun u => { u with latch := t })
      else s
    if u.tested && !u.passed then s
    else if pass then s.onBlu x (fun u => { u with tested := true, passed := true })
    else (s.onBlu x (fun u => failStest u test)).bump32 (rP x.p 0xC30) 1

end Sys2Proof.Machine
end

