-- ==== Sys2Proof/Machine/Sequence.lean ====
section
/-!
DEFINITION. The PIM command sequence of a bank operation: which ARM, RUN and DRAIN it holds for a bank, and the operands
they carry (05_bank_operations.md, R125-R130, R138; R102, R104, R109, R288).
-/
namespace Sys2Proof.Machine

/-! ### ARM (R100, R288) -/

/-- FORM of an operation (R120). -/
def BankOp.form (o : BankOp) : Nat := if o.op = 0x80 then 0 else if o.op = 0x81 then 1 else if o.op = 0x82 then 2 else 3

/-- Whether a binding is an operation's own: form, formats, V, geometry and segments (R288). -/
def BankOp.binds (o : BankOp) (b : BluOp) : Bool :=
  b.form == o.form && (o.form == 3 ||
    (b.weight == dFormat o.w && b.act == dFormat o.x && b.nv == o.nv &&
      (if o.form = 0 then 2 ^ b.geom == dTileH o.w else 32 * 2 ^ b.geom == dRecord o.w && b.ns == o.ns)))

/-- Whether the sequence of operation o holds an ARM of bank g in a lane: it is the operation's own, the operation still
runs there, and no earlier one of its lane and core does (R130). -/
def Block.armDue (s : Block) (o : BankOp) (g lane : Nat) (b : BluOp) : Bool :=
  o.stage == .running && o.lane == lane && o.uses g && !(s.earlierThere o g) && o.binds b

/-! ### RUN (R125-R129) -/

/-- What the j-th sweep of an operation in member m of its bank set opens and names: the data row, the scale row, and the
first and last record in range (R76, R78, R79, R125-R127). -/
structure RowPlan where
  row : Nat
  scale : Option Nat
  first : Nat
  last : Nat
deriving DecidableEq, Repr

/-- The j-th sweep of an operation in member m. -/
def BankOp.rowPlan (o : BankOp) (m j : Nat) : Option RowPlan :=
  if o.op = 0x80 then
    some ⟨dRowBase o.w + j, if dFormat o.w = .nb4 then some (dScaleBase o.w + j / 21) else none, 0, 0⟩
  else
    let r := dPerRow o.w
    (slotRange o.w m o.p0 o.pcount).map (fun ab =>
      let q := ab.1 / r + j
      ⟨dRowBase o.w + q, none, max ab.1 (q * r) - q * r, min ab.2 (q * r + r - 1) - q * r⟩)

/-- Element i of vector slot v of a latch slice as the unit reads it (R95). -/
def BluOp.latchVal (b : BluOp) (t : Tab ResWord) (slice v i : Nat) : FVal :=
  let a := b.latchAt slice v i
  b.act.decode ((List.range (b.act.size / 8)).foldl (fun n k => n + (latchByte t (a + k)) <<< (8 * k)) 0)

/-- Whether the latch holds elements e0 to e0 + n − 1 of every vector of the operation's X (R125, R126). -/
def Block.sliceFed (s : Block) (o : BankOp) (b : BluOp) (t : Tab ResWord) (slice e0 n : Nat) : Bool :=
  (List.range o.nv).all (fun v => (List.range n).all (fun i =>
    b.latchVal t slice v i == s.spVal o.core o.x [e0 + i, v]))

/-- Whether the accumulators hold the probabilities of the records in range of a row (R127). -/
def Block.probsFed (s : Block) (o : BankOp) (m : Nat) (acc : List ResWord) (x : RowPlan) : Bool :=
  let r := dPerRow o.w
  (List.range (x.last + 1 - x.first)).all (fun k => (List.range o.ns).all (fun sg => (List.range o.nv).all (fun v =>
    let rec_ := x.first + k
    let p := ((x.row - dRowBase o.w) * r + rec_) * dMembers o.w + m
    ((acc[(rec_ * o.ns + sg) * o.nv + v]?).getD {}).fval == s.spVal o.core o.x [p - o.p0, sg, v])))

/-- Whether a sweep is the operation's next one in a bank: its row, its fields, and its vectors or probabilities in place
(R125-R127). -/
def Block.sweepDue (s : Block) (o : BankOp) (b : BluOp) (u : Blu) (lane m j : Nat) (w : DWord) (rows : Nat × Nat) : Bool :=
  match o.rowPlan m j with
  | none => false
  | some x =>
    wf w 27 26 == 0 && wf w 47 35 == j && wf w 51 48 == x.first && wf w 55 52 == x.last && rows.1 == x.row &&
      (match x.scale with
       | some r => rows.2 == r
       | none => true) &&
      (if o.op = 0x80 then
         let c := (m + dMembers o.w * j) % dT0 o.w
         s.sliceFed o b (u.laneLatch lane) (wf w 34 28) (c * dTileW o.w) (min (dTileW o.w) (dSize o.w 0 - c * dTileW o.w))
       else if o.op = 0x81 then s.sliceFed o b (u.laneLatch lane) (wf w 34 28) 0 (dElems o.w)
       else s.probsFed o m u.acc x)

/-- The columns of the record that starts at a scratchpad address (R128). -/
def Block.recordCols (s : Block) (c a n : Nat) : List Column :=
  (List.range n).map (fun i => BitVec.ofNat 256 (ofBytes (s.spRead c (a + 32 * i) 32)))

/-- Whether an append is the operation's next one: the key record first, then the value record, each at its place (R79,
R128). -/
def Block.appendDue (s : Block) (o : BankOp) (j : Nat) (w : DWord) (data : List Column) (rows : Nat × Nat) : Bool :=
  let d := if j = 0 then o.w else o.vc.getD o.w
  let n := dRecord d / 32
  let slot := o.p0 / dMembers d
  wf w 27 26 == 2 && rows.1 == dRowBase d + slot / dPerRow d && wf w 33 28 == slot % dPerRow d * n &&
    wf w 39 34 + 1 == n && data == s.recordCols o.core (if j = 0 then o.stg else o.xv) n

/-- A utility pass: UOP, the source row (none where one buffer holds both, or for INIT), and the destination row (R109). -/
structure UtilPass where
  uop : Nat
  src : Option Nat
  dst : Nat
deriving DecidableEq, Repr

/-- The passes of row i of a row utility, in order (R109, R129). -/
def BankOp.passes (o : BankOp) (i : Nat) : List UtilPass :=
  let row := fun n : Nat => (o.rows[n]?).getD 0 + i
  let d := row 0
  let a := row 1
  let b := row 2
  let from_ := fun r : Nat => if r = d then none else some r
  if o.op = 0xA1 then [⟨0, none, d⟩]
  else if o.op = 0xA0 then [⟨1, from_ a, d⟩]
  else if o.op = 0xA5 then [⟨2, from_ a, d⟩]
  else
    let k := if o.op = 0xA2 then 3 else if o.op = 0xA3 then 4 else 5
    if d = a then [⟨k, from_ b, d⟩] else if d = b then [⟨k, from_ a, d⟩] else [⟨1, some a, d⟩, ⟨k, some b, d⟩]

/-- Whether a utility pass is the operation's next one (R109, R129). -/
def Block.passDue (s : Block) (o : BankOp) (j : Nat) (w : DWord) (data : List Column) (rows : Nat × Nat) : Bool :=
  let n := (o.passes 0).length
  match (o.passes (j / max 1 n))[j % max 1 n]? with
  | none => false
  | some x =>
    let one := wf w 31 31 == 1
    wf w 27 26 == 1 && wf w 30 28 == x.uop && (if one then rows.1 == x.dst else rows.2 == x.dst) &&
      (match x.src with
       | some r => !one && rows.1 == r
       | none => one || x.uop == 0) &&
      (x.uop != 0 || data == s.recordCols o.core o.stg 1)

/-- Whether the sequence of operation o holds a RUN as the next one of bank g (R125-R129); a RUN that takes up an urgent
checkpoint is the one that was stopped (R108). -/
def Block.runDue (s : Block) (o : BankOp) (g lane : Nat) (u : Blu) (b : BluOp) (w : DWord) (data : List Column) : Bool :=
  match memberOf? o.w g, u.rowsFor b w with
  | some m, some rows =>
    let j := o.ran.get noRuns g
    o.stage == .running && o.lane == lane && decide (j < o.runsIn m) &&
      (match o.form with
       | 3 => if o.op = 0x83 then s.appendDue o j w data rows else s.passDue o j w data rows
       | _ => s.sweepDue o b u lane m j w rows)
  | _, none => true
  | none, _ => false

/-! ### DRAIN (R138) -/

/-- Whether a bank has been sent the DRAIN of an operation, or has ended it. -/
def Block.drained (s : Block) (t : Nat) (o : BankOp) (g : Nat) : Bool :=
  o.ended.contains g || (
    let (p, d, b) := s.physBank g
    let u := s.blu (bankKey p d b)
    u.draining o.lane && (match u.laneOp o.lane with
      | some x => x.ticket == t
      | none => false))

/-- Whether the sequence of operation o, under ticket t, holds DRAIN of bank g now: the bank's last RUN has ended, and for
BV.PV every lower bank of its pillar has been drained or is among `with_` (R138). -/
def Block.drainDue (s : Block) (t : Nat) (o : BankOp) (g : Nat) (with_ : List Nat) : Bool :=
  o.stage != .faulted && !(o.due g) &&
    (o.op != 0x82 || o.banks.all (fun h => !(h / 4096 == g / 4096 && decide (h < g)) || with_.contains h || s.drained t o h))

/-! ### Any PIM word -/

/-- Whether a PIM word for one bank is one of its operation's sequence. Where no operation holds the ticket the word is
sent as it is given: the controllers make no such word (DESIGN CHOICE, log entry 118). -/
def Block.bankDue (s : Block) (p d b : Nat) (arm : Option DWord) (w : DWord) (data : List Column) (with_ : List Nat) : Bool :=
  let u := s.blu (bankKey p d b)
  let g := s.gbidOf p d b
  let lane := wLane w
  let bound := u.laneOp lane
  let live := match bound with
    | some x => (match s.op? x.ticket with
      | some o => o.stage == .running
      | none => true)
    | none => true
  match wCmd w with
  | 0x18 => (match arm, s.op? (wf w 37 26) with
    | some a, some o => s.armDue o g lane (bluOpOf a w)
    | _, _ => true)
  | 0x11 => live
  | 0x12 => (match bound with
    | some x => (match s.op? x.ticket with
      | some o => s.runDue o g lane u x w data
      | none => true)
    | none => true)
  | 0x14 => live
  | 0x15 => (match bound with
    | some x => (match s.op? x.ticket with
      | some o => s.drainDue x.ticket o g with_
      | none => true)
    | none => true)
  | _ => true

end Sys2Proof.Machine
end

