-- ==== Sys2Proof/Machine/Bank.lean ====
section
/-!
DEFINITION. The bank engine: issue checks, tickets, leaves, reduction, visibility and fences
(05_bank_operations.md; R18, R64, R100, R116).
-/
namespace Sys2Proof.Machine

/-! ### Parameters (R121, R159) -/

/-- Handle W, K, VC of BV.PV, or T. -/
def Entry.bW (en : Entry) : Nat := en.f0 44 36
/-- Handle X; VC of BV.KVAPPEND. -/
def Entry.bX (en : Entry) : Nat := en.f0 53 45
/-- Handle Y. -/
def Entry.bY (en : Entry) : Nat := en.f0 62 54
/-- STG, XK or PAT. -/
def Entry.bStg (en : Entry) : Nat := en.f1 25 0
/-- XV. -/
def Entry.bXv (en : Entry) : Nat := en.f1 51 26
/-- V. -/
def Entry.bV (en : Entry) : Nat := en.f1 53 52 + 1
/-- S. -/
def Entry.bS (en : Entry) : Nat := 2 ^ en.f1 56 54
/-- P0 or POS. -/
def Entry.bP0 (en : Entry) : Nat := en.f2 21 0
/-- PCOUNT. -/
def Entry.bPc (en : Entry) : Nat := en.f2 43 22 + 1
/-- Rows of a row utility. -/
def Entry.bNrow (en : Entry) : Nat := en.f2 44 39 + 1
/-- DROW, AROW, BROW. -/
def Entry.bRows (en : Entry) : List Nat := [en.f2 12 0, en.f2 25 13, en.f2 38 26]

/-! ### Checks at issue (R122-R124) -/

/-- FLT_BANK_OPERAND. -/
def fltBankOperand : Nat := 0x44
/-- FLT_BLU_SHAPE. -/
def fltBluShape : Nat := 0x43
/-- FLT_URGENT_SPAN. -/
def fltUrgentSpan : Nat := 0x45

/-- Whether a descriptor lies in DRAM with a placement (R64). -/
def inDram (d : Nat) (home : Bool) : Bool := dSpace d == 1 && dHome d == home

/-- Stored operands that a BLU accepts (R54). -/
def bluStored (f : Fmt) : Bool := f == .int4 || f == .nb4 || f == .e4m3 || f == .int8 || f == .bf16
/-- Cached keys and values (R54). -/
def kvStored (f : Fmt) : Bool := f == .e4m3 || f == .int8 || f == .bf16
/-- Activations (R54). -/
def bluAct (f : Fmt) : Bool := f == .bf16 || f == .e4m3 || f == .e5m2
/-- Result formats (R122). -/
def bankOut (f : Fmt) : Bool := f == .fp32 || f == .bf16

/-- Whether a descriptor has the given rank and leading sizes. -/
def hasSizes (d : Nat) (l : List Nat) : Bool :=
  vRank d == l.length && (List.range l.length).all (fun i => vSize d i == (l[i]?).getD 0)

/-- A scratchpad range of n bytes at a is aligned and populated (R121, R122). -/
def badRange (a n : Nat) : Bool := a % 32 != 0 || decide (spTop + 1 < a + n)

/-- A scratchpad operand of n bytes at a, XK, XV or PAT: a misaligned one faults with FLT_ALIGN (R86, R121), and one past
the end of the scratchpad with FLT_BANK_OPERAND, which the spec states of the staging range alone (DESIGN CHOICE, log
entry 128). -/
def placed (a n : Nat) : Check Unit := do
  failIf (a % 32 != 0) fltAlign (some a)
  failIf (decide (spTop + 1 < a + n)) fltBankOperand (some 2)

/-- The staging range: placed, and clear of X and Y (R122). -/
def stagingCheck (stg n x y : Nat) : Check Unit := do
  failIf (badRange stg n) fltBankOperand (some 2)
  failIf (overlapsRange x stg (stg + n) || overlapsRange y stg (stg + n)) fltBankOperand (some 3)

/-- C of R100. -/
def latchCap (l : Nat) : Nat := if l = 1 then 512 else 4096

/-- Whether two descriptors name one bank set (R122). -/
def sameSet (a b : Nat) : Bool :=
  dPillars a == dPillars b && dDieLo a == dDieLo b && dDieHi a == dDieHi b && dBankLo a == dBankLo b &&
    dBankHi a == dBankHi b

/-- Whether n rows from r on lie in T's data rows or in its scale rows (R122). -/
def rowsIn (d r n : Nat) : Bool :=
  (decide (dRowBase d ≤ r) && decide (r + n ≤ dRowBase d + dRowCount d)) ||
    (decide (dScaleBase d ≤ r) && decide (r + n ≤ dScaleBase d + dScaleCount d)) ||
    (List.range n).all (fun i =>
      (decide (dRowBase d ≤ r + i) && decide (r + i < dRowBase d + dRowCount d)) ||
        (decide (dScaleBase d ≤ r + i) && decide (r + i < dScaleBase d + dScaleCount d)))

/-- An operation that has passed its checks, still without ticket. -/
def bankOp (c l : Nat) (en : Entry) (w : Nat) (vc : Option Nat) (x y : Nat) : BankOp :=
  { seq := 0, core := c, lane := l, op := en.opcode, w := w, vc := vc, x := x, y := y, stg := en.bStg, xv := en.bXv, nv := en.bV,
    ns := en.bS, p0 := en.bP0, pcount := en.bPc, nrow := en.bNrow, rows := en.bRows }

/-- The urgent limits (R124): four banks, sixteen rows in each, scale rows among them (DEDUCED, log entry 37). -/
def spanCheck (l : Nat) (o : BankOp) : Check Unit :=
  let scale := fun m : Nat => if o.op = 0x80 ∧ dFormat o.w = .nb4 then ceilDiv (o.runsIn m) 21 else 0
  let util := (o.rows.flatMap (fun r => (List.range o.nrow).map (fun i => r + i))).eraseDups.length
  let rows := fun m : Nat => if 0xA0 ≤ o.op then util else o.runsIn m + scale m
  failIf (l == 1 && (decide (4 < o.members.length) || o.members.any (fun m => decide (16 < rows m)))) fltUrgentSpan none

/-- BV.GEMV's checks. -/
def Block.gemvCheck (s : Block) (c l : Nat) (en : Entry) : Check BankOp := do
  let w ← s.need c en.bW
  let x ← s.need c en.bX
  let y ← s.need c en.bY
  failIf (!(inDram w false) || !(ownSp c x) || !(ownSp c y) || dWindow y) fltSpace none
  failIf (!(bluStored (dFormat w)) || !(bluAct (dFormat x)) || !(bankOut (dFormat y))) fltFormat none
  let v := en.bV
  failIf (dRank w != 2 || !(hasSizes x [dSize w 0, v]) || !(hasSizes y [dSize w 1, v])) fltBankOperand (some 1)
  stagingCheck en.bStg (4 * dT0 w * dT1 w * dTileH w * v) x y
  failIf (decide (latchCap l < v * dTileW w * ((dFormat x).size / 8)) || decide (16 < dTileH w * v)) fltBluShape none
  let o := bankOp c l en w none x y
  spanCheck l o
  pure o

/-- Whether a segmented or accumulate form exceeds R100's limits on records and segments. -/
def recordBad (k v sg : Nat) : Bool :=
  decide (16 < dPerRow k * sg * v) || dElems k / sg % (256 / (dFormat k).size) != 0

/-- BV.QK's and BV.PV's checks; `pv` tells which. -/
def Block.attnCheck (s : Block) (c l : Nat) (en : Entry) (pv : Bool) : Check BankOp := do
  let k ← s.need c en.bW
  let x ← s.need c en.bX
  let y ← s.need c en.bY
  failIf (!(inDram k true) || !(ownSp c x) || !(ownSp c y) || dWindow y) fltSpace none
  failIf (!(kvStored (dFormat k)) || !(bluAct (dFormat x)) || !(bankOut (dFormat y))) fltFormat none
  let v := en.bV
  let n := dElems k
  let vec := if pv then y else x
  let tab := if pv then x else y
  failIf (!(hasSizes vec [n, v]) || !(hasSizes tab [en.bPc, en.bS, v])) fltBankOperand (some 1)
  stagingCheck en.bStg (if pv then 64 * v * n else en.bPc * en.bS * v * ((dFormat y).size / 8)) x y
  failIf (decide (dSize k 1 < en.bP0 + en.bPc)) fltBankOperand (some 6)
  failIf (decide (latchCap l < v * n * (if pv then 4 else (dFormat x).size / 8)) || recordBad k v en.bS) fltBluShape none
  let o := bankOp c l en k none x y
  spanCheck l o
  pure o

/-- BV.KVAPPEND's checks. It admits the stored formats of R54 alone, and a row utility any format: the spec states no
requirement of format for either (DESIGN CHOICE, log entry 122). -/
def Block.appendCheck (s : Block) (c l : Nat) (en : Entry) : Check BankOp := do
  let k ← s.need c en.bW
  let vc ← s.opt c en.bX
  let ds := k :: vc.toList
  failIf (ds.any (fun d => !(inDram d true))) fltSpace none
  failIf (ds.any (fun d => !(bluStored (dFormat d)))) fltFormat none
  placed en.bStg (dRecord k)
  placed en.bXv ((vc.map dRecord).getD 0)
  failIf (vc.any (fun d => !(sameSet k d))) fltBankOperand (some 4)
  failIf (ds.any (fun d => decide (dSize d 1 ≤ en.bP0))) fltBankOperand (some 6)
  failIf (ds.any (fun d => dRecord d % 32 != 0)) fltBluShape none
  let o := bankOp c l en k vc 0 0
  spanCheck l o
  pure o

/-- The rows a row utility uses (R129). -/
def Entry.utilRows (en : Entry) : List Nat :=
  if en.opcode = 0xA1 then en.bRows.take 1 else if en.opcode = 0xA0 ∨ en.opcode = 0xA5 then en.bRows.take 2 else en.bRows

/-- A row utility's checks. -/
def Block.utilCheck (s : Block) (c l : Nat) (en : Entry) : Check BankOp := do
  let t ← s.need c en.bW
  failIf (dSpace t != 1) fltSpace none
  if en.opcode = 0xA1 then placed en.bStg 32 else pure ()
  failIf (en.utilRows.any (fun r => !(rowsIn t r en.bNrow))) fltBankOperand (some 5)
  let o := { bankOp c l en t none 0 0 with rows := en.utilRows }
  spanCheck l o
  pure o

/-! ### Issue (R18, R19, R130, R303) -/

/-- The tickets that are free, in a turn that starts at x: which one is drawn the spec leaves open. -/
def Block.freeTicket (s : Block) (x : Nat) : Option Nat :=
  ((List.range 4096).map (fun i => (x + i) % 4096)).find? (fun t => (s.op? t).isNone)

/-- The first bank of an operation whose die is UNRESP (R303, R315). -/
def Block.unrespBank (s : Block) (o : BankOp) : Option Nat :=
  o.banks.find? (fun g => let (p, d, _) := s.physBank g; s.unresp p d)

/-- A checked operation issues: it draws its ticket, or is held while none is free (R18); one that needs an UNRESP die
then faults (R303). -/
def Block.drawTicket (s : Block) (c l i : Nat) (o : BankOp) (ds : List Desc) : Block :=
  if (if l = 1 then 64 else 4032) ≤ s.ticketsOf l then s
  else
    let (x, s) := s.draw
    match s.freeTicket x with
    | none => s
    | some t =>
      let s := s.markIssued c eBnk l i ds
      let s := s.mapEntry (qKey c eBnk l) i (fun en => { en with ticket := some t })
      let s := { s with ops := s.ops.set noOp t (some { o with seq := s.opSeq }), opSeq := s.opSeq + 1 }
      let s := s.bump48 (rC c 0xB18) 1
      match s.unrespBank o with
      | none => s
      | some g => s.opFault t 0x81 (g + (s.physBank g).2.1 <<< 16)

/-- A bank operation at the head of its lane (R123) (DEDUCED, log entry 109). -/
def Block.bankIssue (s : Block) (c l op : Nat) (check : Block → Entry → Check BankOp) : Block :=
  if s.fenced c l then s
  else match s.gate c eBnk l op 65536 noUses with
  | .error s => s
  | .ok (s, i, en) =>
    match check s en with
    | .error b => s.failEntry c eBnk l i en b
    | .ok o =>
      s.drawTicket c l i o (([o.w] ++ o.vc.toList ++ [o.x, o.y]).map (BitVec.ofNat 256))

/-- `BV_GEMV` (R122, R125). -/
def execBvGemv (core : CoreId) (lane : Lane) (st : State) : Host.Outcome State Fault Refusal := st.act fun s =>
  .next (s.bankIssue core.val lane.num 0x80 (fun s en => s.gemvCheck core.val lane.num en))

/-- `BV_QK` (R122, R126). -/
def execBvQk (core : CoreId) (lane : Lane) (st : State) : Host.Outcome State Fault Refusal := st.act fun s =>
  .next (s.bankIssue core.val lane.num 0x81 (fun s en => s.attnCheck core.val lane.num en false))

/-- `BV_PV` (R122, R127). -/
def execBvPv (core : CoreId) (lane : Lane) (st : State) : Host.Outcome State Fault Refusal := st.act fun s =>
  .next (s.bankIssue core.val lane.num 0x82 (fun s en => s.attnCheck core.val lane.num en true))

/-- `BV_KVAPPEND` (R122, R128). -/
def execBvKvappend (core : CoreId) (lane : Lane) (st : State) : Host.Outcome State Fault Refusal := st.act fun s =>
  .next (s.bankIssue core.val lane.num 0x83 (fun s en => s.appendCheck core.val lane.num en))

/-- `BR_COPY` (R129). -/
def execBrCopy (core : CoreId) (lane : Lane) (st : State) : Host.Outcome State Fault Refusal := st.act fun s =>
  .next (s.bankIssue core.val lane.num 0xA0 (fun s en => s.utilCheck core.val lane.num en))

/-- `BR_INIT` (R129). -/
def execBrInit (core : CoreId) (lane : Lane) (st : State) : Host.Outcome State Fault Refusal := st.act fun s =>
  .next (s.bankIssue core.val lane.num 0xA1 (fun s en => s.utilCheck core.val lane.num en))

/-- `BR_AND` (R129). -/
def execBrAnd (core : CoreId) (lane : Lane) (st : State) : Host.Outcome State Fault Refusal := st.act fun s =>
  .next (s.bankIssue core.val lane.num 0xA2 (fun s en => s.utilCheck core.val lane.num en))

/-- `BR_OR` (R129). -/
def execBrOr (core : CoreId) (lane : Lane) (st : State) : Host.Outcome State Fault Refusal := st.act fun s =>
  .next (s.bankIssue core.val lane.num 0xA3 (fun s en => s.utilCheck core.val lane.num en))

/-- `BR_XOR` (R129). -/
def execBrXor (core : CoreId) (lane : Lane) (st : State) : Host.Outcome State Fault Refusal := st.act fun s =>
  .next (s.bankIssue core.val lane.num 0xA4 (fun s en => s.utilCheck core.val lane.num en))

/-- `BR_NOT` (R129). -/
def execBrNot (core : CoreId) (lane : Lane) (st : State) : Host.Outcome State Fault Refusal := st.act fun s =>
  .next (s.bankIssue core.val lane.num 0xA5 (fun s en => s.utilCheck core.val lane.num en))

/-! ### Leaves (R56, R104, R138) -/

/-- No leaf. -/
def noLeaf (_ : Nat) : Option Word := none

/-- Bytes of an FP32 value. -/
def fp32Bytes (x : FVal) : List Byte := leBytes x.bits32 4

/-- A leaf written into the staging range (R138). -/
def Block.stageLeaf (s : Block) (o : BankOp) (key : Nat) (v : FVal) : Block :=
  if o.op = 0x80 then s.spWrite o.core (o.stg + 4 * key) (fp32Bytes v)
  else if o.op = 0x81 then
    let f := dFormat o.y
    let n := f.size / 8
    s.spWrite o.core (o.stg + n * key) (leBytes (f.encode .rne false v).1 n)
  else s

/-- The NUMSTAT flag of an arriving partial (R56). -/
def partialFlag : FVal → Flags
  | .nan => flNanInput
  | .inf _ => flOverflow
  | .fin _ _ _ => 0#6

/-- A leaf arrives at its operation's stage. -/
def Block.takeLeaf (s : Block) (t g : Nat) (o : BankOp) (e : DWord) : Block :=
  match (if o.op = 0x82 then o.leafKey g (wf e 51 35) 0 else o.leafKey g (wf e 38 35) (wf e 51 39)) with
  | none => s
  | some k =>
    let v := Fmt.fp32.decode (wf e 31 0)
    let s := s.mapOp t (fun o => { o with leaves := o.leaves.set noLeaf k (some (BitVec.ofNat 32 (wf e 31 0))) })
    (s.numFlags o.core (partialFlag v)).stageLeaf o k v

/-- The ticket of the entry at the front of a bank's drain buffer. -/
def Blu.frontTicket (u : Blu) : Option Nat := u.drain.head?.map (fun e => wf e 63 52)

/-- Whether the operation of a ticket is an urgent one. -/
def Block.urgentOp (s : Block) (t : Nat) : Bool :=
  match s.op? t with
  | some o => o.lane == 1
  | none => false

/-- Whether an urgent drain entry stands at the front of some bank of pillar p: it goes ahead of the normal ones (R294). -/
def Block.urgentFront (s : Block) (p : Nat) : Bool :=
  s.blus.any (fun x => decide (x.1 / 256 / 17 = p) && x.2.frontTicket.any s.urgentOp)

/-- Room in a bank's drain buffer is filled from the sums still to drain, and a lane whose last entry has left ends. -/
def Block.drainMoves (s : Block) (x : BankAt) : Block :=
  let s := (s.topUp x 0 16).topUp x 1 16
  (s.drainDone x 0).drainDone x 1

/-- `DRAIN_ENTRY_ARRIVE` (R104, R138, R294): the oldest entry of a bank's drain buffer reaches the reduction unit, which
checks its residue; a normal one does not go before an urgent one of its pillar, and entries of an operation that is gone
are dropped. An entry carries no row and no column: a mismatch reports both as 0 (DESIGN CHOICE, log entry 129). -/
def execDrainEntryArrive (gbid : BitVec 16) (st : State) : Host.Outcome State Fault Refusal := st.act fun s =>
  let g := gbid.toNat
  let (p, d, b) := s.physBank g
  let x : BankAt := ⟨p, d, b⟩
  .next <| match (s.bluAt x).drain with
  | [] => s
  | e :: rest =>
    let t := wf e 63 52
    if s.urgentOp t = false ∧ s.urgentFront p = true then s
    else
      let s := s.onBlu x (fun u => { u with drain := rest })
      let s := match s.op? t with
        | none => s
        | some o =>
          if o.stage ≠ OpStage.running then s
          else if wf e 31 0 % 7 ≠ wf e 34 32 then
            (s.countRes x 0 0 5).opFault t 0x41 (Config.bluDetail g 0 0).toNat
          else s.takeLeaf t g o e
      s.drainMoves x

/-! ### The tree and the commit (R137-R140) -/

/-- The values of leaves by key. -/
def BankOp.leafVals (o : BankOp) (ks : List Nat) : List FVal :=
  ks.filterMap (fun k => (o.leaves.get noLeaf k).map (fun w => Fmt.fp32.decode w.toNat))

/-- A list in ascending order of a key. -/
def sortOn (f : Nat → Nat) (l : List Nat) : List Nat := l.mergeSort (fun a b => decide (f a ≤ f b))

/-- The two tiers over groups of leaf values, one group a pillar (R137). -/
def twoTier (groups : List (List FVal)) : FVal × Flags :=
  let ps := (groups.filter (fun g => !g.isEmpty)).map foldF
  let (v, fl) := foldF (ps.map Prod.fst)
  (v, ps.foldl (fun a p => a ||| p.2) fl)

/-- Leaves of word (o, v) of a BV.GEMV by pillar, in key order: tile column j lies in region row·T0 + j (R125, R137). -/
def BankOp.gemvGroups (o : BankOp) (out v : Nat) : List (List FVal) :=
  let n := dMembers o.w
  let t0 := dT0 o.w
  let region := fun j : Nat => out / dTileH o.w * t0 + j
  let bank := fun j : Nat => dMember o.w (region j % n)
  let js := sortOn (fun j => bank j * 2 ^ 32 + region j / n) (List.range t0)
  let base := (v * (dT1 o.w * dTileH o.w) + out) * t0
  (List.range 16).map (fun p => o.leafVals ((js.filter (fun j => bank j / 4096 == p)).map (fun j => base + j)))

/-- Sums of word i of a BV.PV by pillar, in bank order. -/
def BankOp.pvGroups (o : BankOp) (i : Nat) : List (List FVal) :=
  (List.range 16).map (fun p => o.leafVals ((o.banks.filter (fun g => g / 4096 == p)).map (fun g => i * 65536 + g)))

/-- One result word: its value, its flags, its coordinates in Y where Y holds it, and the staging words its tiers
write. -/
structure Reduced where
  val : FVal
  flags : Flags
  at_ : Option (List Nat)
  staged : List (Nat × FVal)
deriving DecidableEq, Repr

/-- The pillar values of a BV.PV word in their staging places, the result over the word of pillar 0 (R138). -/
def BankOp.pvStaged (o : BankOp) (i : Nat) (val : FVal) : List (Nat × FVal) :=
  let n := dElems o.w
  let ps := (List.range 16).filterMap (fun p =>
    let l := o.leafVals ((o.banks.filter (fun g => g / 4096 == p)).map (fun g => i * 65536 + g))
    if l.isEmpty then none else some (o.stg + 4 * ((p * o.nv + i / n) * n + i % n), (foldF l).1))
  ps ++ [(o.stg + 4 * i, val)]

/-- Every result word of an operation. -/
def BankOp.words (o : BankOp) : List Reduced :=
  if o.op = 0x80 then
    let outs := dT1 o.w * dTileH o.w
    (List.range o.nv).flatMap (fun v => (List.range outs).map (fun out =>
      let r := twoTier (o.gemvGroups out v)
      ⟨r.1, r.2, if out < dSize o.w 1 then some [out, v] else none, [(o.stg + 4 * ((v * outs + out) * dT0 o.w), r.1)]⟩))
  else if o.op = 0x81 then
    (List.range (o.nv * o.ns * o.pcount)).map (fun k =>
      let v := ((o.leafVals [k]).head?).getD .zero
      ⟨v, 0#6, some [k % o.pcount, k / o.pcount % o.ns, k / o.pcount / o.ns], []⟩)
  else if o.op = 0x82 then
    let n := dElems o.w
    (List.range (o.nv * n)).map (fun i =>
      let r := twoTier (o.pvGroups i)
      ⟨r.1, r.2, some [i % n, i / n], o.pvStaged i r.1⟩)
  else []

/-- The reduction unit's last writes to the staging range and its flags. -/
def Block.reduceOp (s : Block) (o : BankOp) : Block :=
  o.words.foldl (fun s r =>
    let s := s.numFlags o.core r.flags
    r.staged.foldl (fun s p => s.spWrite o.core p.1 (fp32Bytes p.2)) s) s

/-- Y written at the visibility point: each word to Y's format by round-to-nearest-even, without OVF_SAT (R139). -/
def Block.writeResult (s : Block) (o : BankOp) : Block :=
  o.words.foldl (fun s r =>
    match r.at_ with
    | none => s
    | some cs =>
      let (x, fl) := (dFormat o.y).encode .rne false r.val
      (s.spPut o.core o.y cs x).numFlags o.core fl) s

/-- The visibility point: the result, then the entry's signal (R139, R140). -/
def Block.commitOp (s : Block) (t : Nat) : Block :=
  match s.op? t with
  | none => s
  | some o =>
    if o.stage ≠ .reduced then s
    else
      let s := if o.op ≤ 0x82 then s.writeResult o else s
      let s := s.mapOp t (fun o => { o with stage := .committed })
      let s := match s.opEntry o t with
        | some (i, en) => s.endEntry o.core eBnk o.lane i en
        | none => s
      s.settleTicket t

/-- Whether a ticket's operation commits as soon as it is reduced (R140). -/
def Block.opSignals (s : Block) (o : BankOp) (t : Nat) : Bool :=
  match s.opEntry o t with
  | some (_, en) => en.sige
  | none => false

/-- `BANK_OP_REDUCED` (R137, R139, R140): the tree of an operation is complete; one that names a signal commits, and any other
keeps the old contents of Y until a fence completes (R23). -/
def execBankOpReduced (ticket : BitVec 12) (st : State) : Host.Outcome State Fault Refusal := st.act fun s =>
  let t := ticket.toNat
  .next <| match s.op? t with
  | none => s
  | some o =>
    if o.stage ≠ OpStage.running ∨ !o.complete then s
    else
      let s := (s.reduceOp o).mapOp t (fun o => { o with stage := .reduced })
      if s.opSignals o t then s.commitOp t else s

/-! ### Fences (R141) -/

/-- What a lane's operations have reduced is committed, in ticket order (R141). -/
def Block.fenceCommits (s : Block) (c l : Nat) : Block :=
  let ts := (s.ops.filterMap (fun p => match p.2 with
    | some o => if o.core = c ∧ o.lane = l ∧ o.stage = .reduced then some (o.seq, p.1) else none
    | none => none)).mergeSort (fun a b => decide (a.1 ≤ b.1))
  ts.foldl (fun s p => s.commitOp p.2) s

/-- `BV_FENCE`: it issues and holds its lane (R141). -/
def execBvFence (core : CoreId) (lane : Lane) (st : State) : Host.Outcome State Fault Refusal := st.act fun s =>
  let c := core.val
  let l := lane.num
  .next <| if s.fenced c l then s
  else match s.gate c eBnk l 0xBF 65536 noUses with
  | .error s => s
  | .ok (s, i, _) => s.markIssued c eBnk l i []

/-- Whether every operation of a lane is reduced, committed or faulted. -/
def Block.laneDone (s : Block) (c l : Nat) : Bool :=
  s.ops.all (fun p => match p.2 with
    | some o => o.core != c || o.lane != l || o.stage != .running
    | none => true)

/-- `BV_FENCE_COMPLETE` (R23, R141): once no covered operation runs any more, what is reduced is committed, and the fence
completes. -/
def execBvFenceComplete (core : CoreId) (lane : Lane) (st : State) : Host.Outcome State Fault Refusal := st.act fun s =>
  let c := core.val
  let l := lane.num
  let q := s.queue (qKey c eBnk l)
  .next <| match q.findIdx? (fun en => en.stage == .issued && en.opcode == 0xBF) with
  | none => s
  | some i =>
    if !(s.laneDone c l) then s
    else
      let s := s.fenceCommits c l
      let key := 2 * c + l
      let s := if s.bnkFault.contains key then s.orReg (rC c 0xB00) 0x80000 else s
      let s := { s with bnkFault := s.bnkFault.filter (fun k => k != key) }
      match (s.queue (qKey c eBnk l)).findIdx? (fun en => en.stage == .issued && en.opcode == 0xBF) with
      | none => s
      | some j => match (s.queue (qKey c eBnk l))[j]? with
        | some en => s.endEntry c eBnk l j en
        | none => (s.finishEntry (qKey c eBnk l) i)

end Sys2Proof.Machine
end

