-- ==== Sys2Proof/Machine/Access.lean ====
section
/-!
DEFINITION. Who may reach which BAR0 block, what a refused or violating access does, and the one guard every register
write passes (R7, R350, R351, R426, R479, R516-R520).
-/
namespace Sys2Proof.Machine

/-- A digest held in twelve 32-bit registers (R444). -/
def Block.digestAt (s : Block) (a : Nat) : Nat → Nat
  | 0 => 0
  | n + 1 => s.digestAt a n + (s.rn (a + 4 * n)) <<< (32 * n)

/-- Whether a session's requester is the administrator (R425). -/
def Block.isAdmin (s : Block) (x : Session) : Bool :=
  x.mutualAuth && bit (s.rn (rSb 0x300)) 0 && x.requester.toNat == s.digestAt (rSb 0x310) 12

/-- Whether a session's requester is the tenant of partition k (R425). -/
def Block.isTenant (s : Block) (x : Session) (k : Nat) : Bool :=
  x.mutualAuth && x.requester.toNat == s.digestAt (rPart k 0x10) 12

/-- Whether port p is an administrator's role port (R425). -/
def Block.adminPort (s : Block) (p : Nat) : Bool := s.sessions.any (fun x => x.port.num == p && s.isAdmin x)

/-- Which ports reach a register, as R426 divides BAR0. -/
inductive Reach where
  | owned (k : Option Nat)
  | ownedOrAdmin (k : Nat)
  | closedRing (k : Option Nat)
  | anyPort
  | shared
deriving DecidableEq, Repr

/-- Reach of the registers of ring r (R426). -/
def Block.ringReach (s : Block) (r : Nat) : Reach :=
  if bit (s.rn (rRing r 0)) 0 then .owned (some (s.fld (rRing r 0) 3 1))
  else if r = 8 then .closedRing none else .closedRing (s.coreOwner r)

/-- The reach of a BAR0 offset (R426). -/
def Block.reach (s : Block) (a : Nat) : Reach :=
  if 0x100000 ≤ a ∧ a < 0x180000 then .owned (s.coreOwner ((a - 0x100000) / 0x10000))
  else if 0xA0000 ≤ a ∧ a < 0xA8000 then .owned (s.coreOwner ((a - 0xA0000) / 0x1000))
  else if 0xA8000 ≤ a ∧ a < 0xA9000 then s.ringReach 8
  else if 0xB0000 ≤ a ∧ a < 0xC0000 then .owned (s.coreOwner ((a - 0xB0000) / 0x2000))
  else if 0x200000 ≤ a ∧ a < 0x300000 then .owned (s.pillarOwner ((a - 0x200000) / 0x10000))
  else if 0x61000 ≤ a ∧ a < 0x61480 then s.ringReach ((a - 0x61000) / 0x80)
  else if 0x60500 ≤ a ∧ a < 0x60520 then .ownedOrAdmin ((a - 0x60500) / 4)
  else if 0x70000 ≤ a ∧ a < 0x70800 then .ownedOrAdmin ((a - 0x70000) / 0x100)
  else if 0x51000 ≤ a ∧ a < 0x51200 then .ownedOrAdmin ((a - 0x51000) / 0x40)
  else if 0x52000 ≤ a ∧ a < 0x52200 then .ownedOrAdmin ((a - 0x52000) / 0x40)
  else if 0x80000 ≤ a ∧ a < 0x90000 then .owned (s.poolOwner ((a - 0x80000) / 16))
  else if a = 0x90000 ∨ (0x60540 ≤ a ∧ a < 0x6054C) then .anyPort
  else .shared

/-- Whether port p reaches a partition, if there is one (R323). -/
def Block.ownAttached (s : Block) (k : Option Nat) (p : Nat) : Bool :=
  match k with
  | some k => s.reachedOn k p
  | none => false

/-- Whether port p may make an access (R426). -/
def Block.portMay (s : Block) (p a : Nat) (write : Bool) : Bool :=
  match s.reach a with
  | .owned k => s.ownAttached k p
  | .ownedOrAdmin k => s.reachedOn k p || s.adminPort p
  | .closedRing k => !write || (match k with
    | some k => s.reachedOn k p
    | none => s.adminPort p && decide (0x61400 ≤ a ∨ a < 0x61000))
  | .anyPort => true
  | .shared => !write || s.adminPort p

/-- The partition of a sequencer: its core's (R421). -/
def Block.seqOwner (s : Block) (q : Nat) : Option Nat := s.coreOwner (q / 2)

/-- Whether a sequencer reaches a BAR0 offset: a block of its own partition (R426, R448; DEDUCED, log entry 9). -/
def Block.seqMay (s : Block) (q a : Nat) : Bool :=
  match s.seqOwner q with
  | none => false
  | some j =>
    match s.reach a with
    | .owned k => k == some j
    | .ownedOrAdmin k => k == j
    | .closedRing k => k == some j
    | _ => false

/-- The block's power domain, for the blocks R520 names (R375). -/
def blockDomain (a : Nat) : Option Nat :=
  if 0x100000 ≤ a ∧ a < 0x180000 then some ((a - 0x100000) / 0x10000)
  else if 0xB0000 ≤ a ∧ a < 0xC0000 then some (24 + (a - 0xB0000) / 0x1000)
  else if 0x200000 ≤ a ∧ a < 0x300000 then some (51 + (a - 0x200000) / 0x10000)
  else none

/-- Whether the block at an offset is off (R520). -/
def Block.blockOff (s : Block) (a : Nat) : Bool :=
  match blockDomain a with
  | some d => !(s.domOn d)
  | none => false

/-- Aperture code of VIOLAST (R357). -/
def apCode : Aperture → Nat
  | .hdm => 0 | .bar0 => 1 | .bar2 => 2 | .bar4 => 3

/-- No violation has been logged. -/
def noVio (_ : Nat) : Option Nat := none

/-- A host violation is counted and recorded, and logged at most once a millisecond per code (R350, R351). -/
def Block.violation (s : Block) (p code aperture off : Nat) : Block :=
  let last := code + p <<< 8 + aperture <<< 9 + (off % 2 ^ 32) <<< 16
  let s := (s.bump32 (rHi (0x100 + 4 * code)) 1).setRn (rHi 0x140) last
  let due := match s.vioLog.get noVio code with
    | none => true
    | some t => decide (t + usCycles 1000 ≤ s.cycle)
  if due then { s.logEvent 0x31 (unitPort p) last with vioLog := s.vioLog.set noVio code (some s.cycle) } else s

/-- The latch key of a requester. -/
def reqKey : Requester → Nat
  | .port p => p.num
  | .seq q => 2 + q.val
  | .mc => 18

/-- Empty half-word latches. -/
def noLatch (_ : Nat) : Latch := {}

/-- Another access by a requester discards the low half it holds, logging WRITE_REJECT (R517). -/
def Block.dropHeld (s : Block) (r : Requester) : Block :=
  let l := s.latches.get noLatch (reqKey r)
  match l.heldAt with
  | none => s
  | some a => ({ s with latches := s.latches.set noLatch (reqKey r) { l with heldAt := none, held := 0 } }).writeReject a
      l.held.toNat

/-- Whether the requester can make accesses at all: the module is powered, and a port's link is up. -/
def Block.reqPresent (s : Block) (r : Requester) : Bool :=
  s.life != .night && s.life != .dark && (match r with
    | .port p => s.dlUp p.num
    | _ => true)

/-- Whether a requester's access is within its reach (R426). -/
def Block.reqMay (s : Block) (r : Requester) (a : Nat) (write : Bool) : Bool :=
  match r with
  | .port p => s.portMay p.num a write
  | .seq q => s.seqMay q.val a
  | .mc => true

/-- A register write by a requester whose reach `may` says: refused while Dawn lasts (R479), a violation beyond the
port's reach (R426), refused on reserved space (R518) and on a block whose domain is off (R520), and otherwise judged by
the register's own rule `act`, whose `none` refuses the write whole (R7). -/
def Block.guardedBy (s : Block) (r : Requester) (may : Bool) (a v : Nat) (act : Block → Option Block) : Block :=
  if !(s.reqPresent r) then s
  else
    let s := s.dropHeld r
    if s.life == .dawn && r != .mc then s.writeReject a v
    else if !may then
      (match r with
       | .port p => s.violation p.num 0x0A 1 a
       | _ => s.writeReject a v)
    else if (regInfo a).isNone || s.blockOff a then s.writeReject a v
    else match act s with
      | some s' => s'
      | none => s.writeReject a v

/-- A register write under R426 (DEDUCED, log entry 54). -/
def Block.guarded (s : Block) (r : Requester) (a v : Nat) (act : Block → Option Block) : Block :=
  s.guardedBy r (s.reqMay r a true) a v act

end Sys2Proof.Machine
end

