-- ==== Sys2Proof/Machine/Crc.lean ====
section
/-!
DEFINITION. The CRC-32C that guards ring lines and images (R148).
-/
namespace Sys2Proof.Machine

/-- `n` bit steps of the reflected Castagnoli polynomial. -/
def crcBits : Nat → BitVec 32 → BitVec 32
  | 0, x => x
  | n + 1, x => crcBits n (if x &&& 1#32 = 1#32 then (x >>> 1) ^^^ 0x82F63B78#32 else x >>> 1)

/-- The register after a run of bytes. -/
def crcRun (x : BitVec 32) : List Byte → BitVec 32
  | [] => x
  | b :: bs => crcRun (crcBits 8 (x ^^^ b.zeroExtend 32)) bs

/-- CRC-32C of a run of bytes: initial value and final exclusive-or 0xFFFF_FFFF (R148). -/
def crc32c (bs : List Byte) : BitVec 32 := crcRun 0xFFFFFFFF#32 bs ^^^ 0xFFFFFFFF#32

end Sys2Proof.Machine
end

