-- ==== Sys2Proof/Machine/Slots.lean ====
section
/-!
DEFINITION. The encodings of slots and the dispatcher's checks of them (06_bundles_and_queues.md, R156-R159, R171, R175;
R181, R187, R207, R208, R211, R223, R257, R260).
-/
namespace Sys2Proof.Machine

/-- What a field of a slot may hold. -/
inductive FieldKind where
  | any
  | range (lo hi : Nat)
  | counter
  | format
deriving DecidableEq, Repr

/-- A field of a slot, its bits counted in the slot's words 3:0 as one number. -/
structure SlotField where
  hi : Nat
  lo : Nat
  kind : FieldKind := .any
deriving DecidableEq, Repr

/-- Field [hi:lo] of word w. -/
def fw (w hi lo : Nat) : SlotField := { hi := 64 * w + hi, lo := 64 * w + lo }

/-- Field [hi:lo] of word w holding values from a to b. -/
def fr (w hi lo a b : Nat) : SlotField := { hi := 64 * w + hi, lo := 64 * w + lo, kind := .range a b }

/-- The common fields of word 0 (R156). -/
def commonFields : List SlotField :=
  [fw 0 7 0, fw 0 8 8, { hi := 21, lo := 9, kind := .counter }, fw 0 22 22, { hi := 35, lo := 23, kind := .counter }]

/-- Handles in word 0: A or W or S, B or X or D, Y. -/
def hand3 : List SlotField := [fw 0 44 36, fw 0 53 45, fw 0 62 54]

/-- A stage list: OP and SEL of each stage byte (R211). -/
def stageFields : Nat → List SlotField
  | 0 => []
  | n + 1 => stageFields n ++ [fr 2 (8 * n + 4) (8 * n) 0 0x0D, fr 2 (8 * n + 7) (8 * n + 5) 0 5]

/-- SCA slots (R181, R182): words used and fields. -/
def scaSlot (op : Nat) : Option (Nat × List SlotField) :=
  if op < 0x10 then some (1, [fw 0 40 36, fw 0 45 41, fw 0 50 46])
  else if op < 0x20 then some (2, [fw 0 40 36, fw 0 45 41, fw 1 63 0])
  else match op with
    | 0x20 => some (2, [fw 0 40 36, fw 0 45 41, fw 0 47 46, fw 0 48 48, fw 1 25 0])
    | 0x21 => some (2, [fw 0 40 36, fw 0 45 41, fw 0 47 46, fr 0 48 48 0 0, fw 1 25 0])
    | 0x30 => some (2, [fw 0 44 36, fw 0 49 45, fw 1 25 0])
    | 0x31 => some (1, [fw 0 44 36])
    | _ => none

/-- CF of VEC (R208). -/
def cfField : SlotField := { hi := 67, lo := 64, kind := .format }

/-- VEC slots (R207, R208). -/
def vecSlot (op : Nat) : Option (Nat × List SlotField) :=
  match op with
  | 0x00 => some (4, hand3 ++ [cfField, fw 1 9 4] ++ stageFields 8 ++ [fw 3 31 0, fw 3 63 32])
  | 0x01 => some (4, hand3 ++ [cfField, fw 1 9 4, fr 1 12 10 0 5] ++ stageFields 8 ++ [fw 3 31 0, fw 3 63 32])
  | 0x02 => some (2, [fw 0 44 36, fw 0 62 54, fw 1 25 0])
  | 0x03 => some (2, [fw 0 44 36, fw 0 62 54, fr 1 2 0 0 3, fr 1 6 3 1 12, fw 1 18 7])
  | 0x04 => some (2, [fw 0 44 36, fw 0 62 54, fw 1 25 0, fw 1 63 32])
  | 0x05 => some (2, [fw 0 44 36, fw 0 62 54, fw 1 25 0])
  | _ => none

/-- MTX slots (R223). -/
def mtxSlot (op : Nat) : Option (Nat × List SlotField) :=
  if op = 0 then some (2, hand3 ++ [fw 1 8 0, fr 1 10 9 0 2, fw 1 11 11, fw 1 37 12]) else none

/-- BNK slots (R120, R159). -/
def bnkSlot (op : Nat) : Option (Nat × List SlotField) :=
  match op with
  | 0x80 => some (2, hand3 ++ [fw 1 25 0, fw 1 53 52])
  | 0x81 => some (3, hand3 ++ [fw 1 25 0, fw 1 53 52, fr 1 56 54 0 4, fw 2 21 0, fw 2 43 22])
  | 0x82 => some (3, hand3 ++ [fw 1 25 0, fw 1 53 52, fr 1 56 54 0 4, fw 2 21 0, fw 2 43 22])
  | 0x83 => some (3, [fw 0 44 36, fw 0 53 45, fw 1 25 0, fw 1 51 26, fw 2 21 0])
  | 0xA0 => some (3, [fw 0 44 36, fw 2 12 0, fw 2 25 13, fw 2 44 39])
  | 0xA1 => some (3, [fw 0 44 36, fw 1 25 0, fw 2 12 0, fw 2 44 39])
  | 0xA2 => some (3, [fw 0 44 36, fw 2 12 0, fw 2 25 13, fw 2 38 26, fw 2 44 39])
  | 0xA3 => some (3, [fw 0 44 36, fw 2 12 0, fw 2 25 13, fw 2 38 26, fw 2 44 39])
  | 0xA4 => some (3, [fw 0 44 36, fw 2 12 0, fw 2 25 13, fw 2 38 26, fw 2 44 39])
  | 0xA5 => some (3, [fw 0 44 36, fw 2 12 0, fw 2 25 13, fw 2 44 39])
  | 0xBF => some (1, [])
  | _ => none

/-- Words 1 and 2 of a box transfer. -/
def boxFields : List SlotField := [fw 1 21 0, fw 1 43 22, fw 2 21 0, fw 2 43 22]
/-- Words 1 and 2 of a gather or scatter, with the handle and CNT of word 0. -/
def gatherFields : List SlotField :=
  [fw 0 44 36, fw 0 60 45, fw 1 25 0, fw 1 51 26, fw 2 15 0, fw 2 31 16, fw 2 47 32, fw 2 63 48]
/-- A linear transfer. -/
def linFields : List SlotField :=
  [fr 0 37 36 2 3, fw 0 53 38, fw 1 51 0, fw 2 25 0, fw 2 43 26, fw 3 24 0, fw 3 49 25]
/-- A scale transfer. -/
def scaleFields : List SlotField := [fw 0 44 36, fw 1 25 0, fw 1 47 26, fw 1 63 48]

/-- LDE slots (R186, R187). -/
def ldeSlot (op : Nat) : Option (Nat × List SlotField) :=
  match op with
  | 0x00 => some (3, [fw 0 44 36, fw 0 53 45, fw 0 54 54] ++ boxFields)
  | 0x01 => some (3, gatherFields)
  | 0x02 => some (2, [fw 0 44 36, fw 0 53 45, fw 0 55 54, fw 1 25 0])
  | 0x03 => some (4, linFields)
  | 0x04 => some (2, scaleFields)
  | _ => none

/-- STE slots (R186, R187). -/
def steSlot (op : Nat) : Option (Nat × List SlotField) :=
  match op with
  | 0x00 => some (3, [fw 0 44 36, fw 0 53 45, fw 0 54 54, fr 0 56 55 0 1] ++ boxFields)
  | 0x01 => some (3, gatherFields)
  | 0x02 => some (2, [fw 0 44 36, fw 0 53 45, fw 0 55 54, fr 0 57 56 0 1, fw 1 25 0])
  | 0x03 => some (4, linFields)
  | 0x04 => some (2, scaleFields)
  | 0x05 => some (2, [fw 0 44 36, fw 0 60 45, fw 1 25 0, fw 1 47 26])
  | _ => none

/-- SYN slots (R260). -/
def synSlot (op : Nat) : Option (Nat × List SlotField) :=
  let ctr : SlotField := { hi := 48, lo := 36, kind := .counter }
  match op with
  | 0x00 => some (1, [ctr, fw 0 63 49])
  | 0x01 => some (1, [ctr, fw 0 63 49])
  | 0x02 => some (1, [ctr, fw 0 63 49])
  | 0x03 => some (1, [ctr])
  | 0x04 => some (1, [ctr, fw 0 51 49, fw 0 63 52])
  | _ => none

/-- The words an opcode uses and its engine fields, none where it is undefined (R158). -/
def slotFields (e op : Nat) : Option (Nat × List SlotField) :=
  match e with
  | 0 => scaSlot op
  | 1 => vecSlot op
  | 2 => mtxSlot op
  | 3 => bnkSlot op
  | 4 => ldeSlot op
  | 5 => steSlot op
  | _ => synSlot op

/-- The engine a slot drives (R13). -/
def slotEngine (j op : Nat) : Nat :=
  match j with
  | 0 => 0
  | 1 => 1
  | 2 => if op < 0x80 then 2 else 3
  | 3 => 4
  | 4 => 5
  | _ => 6

/-- The lowest bit that is 1 among the `n` bits from `i` on. -/
def lowBitOf (x i n : Nat) : Option Nat := firstFrom (fun k => bit x k) i n

/-- A mask of a field's bits. -/
def SlotField.mask (f : SlotField) : Nat := (2 ^ (f.hi + 1 - f.lo) - 1) <<< f.lo

/-- A field's value. -/
def SlotField.get (f : SlotField) (x : Nat) : Nat := bits x f.hi f.lo

/-- Fields that must be 0 for the values of others (R156, R159, R217). -/
def zeroFields (e op x : Nat) : List SlotField :=
  (if bit x 8 then [] else [fw 0 21 9]) ++ (if bit x 22 then [] else [fw 0 35 23]) ++
    (if e = 3 ∧ op = 0x83 ∧ bits x 53 45 = 0 then [fw 1 51 26] else []) ++
    (if e = 1 ∧ op = 0x03 ∧ bits x 66 64 ≠ 1 then [fw 1 18 7] else [])

/-- Whether a field holds a reserved encoding (R171 check 4). -/
def SlotField.reserved (f : SlotField) (x : Nat) : Bool :=
  match f.kind with
  | .range a b => decide (f.get x < a) || decide (b < f.get x)
  | .counter => !(ctrDefined (f.get x))
  | _ => false

/-- SX of a form M access that sign-extends 8 bytes (R181). -/
def badSx (e op x : Nat) : Bool := e == 0 && op == 0x20 && bits x 48 46 == 7

/-- The lowest-placed of the fields that meet a test. -/
def lowestField (l : List SlotField) (p : SlotField → Bool) : Option Nat :=
  (l.filter p).foldl (fun r f => match r with
    | some m => some (min m f.lo)
    | none => some f.lo) none

/-- A failed check of the dispatcher: code and DETAIL. -/
abbrev SlotFault := Nat × Nat

/-- The checks of a present slot of an item of `n` lines, in the order of R171. -/
def slotCheck (e n x : Nat) : Option SlotFault :=
  let op := x % 256
  match slotFields e op with
  | none => some (0x01, op)
  | some (u, fs) =>
    let fs := commonFields ++ fs
    if n < u then some (0x03, (n - 1) + (u - 1) <<< 2)
    else
      let used := fs.foldl (fun m f => m ||| f.mask) 0
      let mustZero := (zeroFields e op x).foldl (fun m f => m ||| f.mask) 0
      let bad := x &&& ((2 ^ 256 - 1 - used) ||| mustZero)
      match lowBitOf bad 0 256 with
      | some b => some (0x02, b)
      | none =>
        let enc := lowestField fs (fun f => f.reserved x)
        let enc := if badSx e op x then some (min 48 (enc.getD 48)) else enc
        match enc with
        | some b => some (0x02, b)
        | none =>
          match fs.find? (fun f => f.kind == .format && decide (8 ≤ f.get x)) with
          | some f => some (0x21, f.lo + (f.get x) <<< 12)
          | none => none

/-! ### Lines and items (R146-R149) -/

/-- Slot word j of a line. -/
def lineSlot (l : Line) (j : Nat) : Nat := bits l.toNat (64 * j + 127) (64 * j + 64)

/-- Slot j of an item as one number, word k from line k. -/
def itemSlot : List Line → Nat → Nat
  | [], _ => 0
  | l :: t, j => lineSlot l j + itemSlot t j <<< 64

/-- Field of a line header. -/
def hdr (l : Line) (hi lo : Nat) : Nat := bits l.toNat hi lo

/-- The first failed check over all six slots, in ascending slot order: the slot, the queue the record names, the code
and DETAIL (R171, R172). -/
def itemCheck (ls : List Line) (slotmask : Nat) : Nat → Option (Nat × Nat × SlotFault)
  | 0 => none
  | n + 1 =>
    let j := 5 - n
    let x := itemSlot ls j
    let r : Option (Nat × SlotFault) :=
      if bit slotmask j then
        let e := slotEngine j (x % 256)
        (slotCheck e ls.length x).map (fun f => (e, f))
      else (lowBitOf x 0 256).map (fun b => (7, (0x02, b)))
    match r with
    | some (q, f) => some (j, q, f)
    | none => itemCheck ls slotmask n

/-- The lowest bit that is 1 in slot words `from_` to 5 of a line, counted over the six words (R175). -/
def itemLevelBit (l : Line) (from_ : Nat) : Option Nat :=
  lowBitOf (bits l.toNat 447 64) (64 * from_) (384 - 64 * from_)

end Sys2Proof.Machine
end

