-- ==== Sys2Proof/Machine/Ring.lean ====
section
/-!
DEFINITION. Command rings: lines, items, credits and flushes (06_bundles_and_queues.md, R146-R155, R177;
12_host_interface.md, R326-R330, R342, R346, R350).
-/
namespace Sys2Proof.Machine

/-! ### Registers of a ring -/

/-- A ring with nothing in assembly. -/
def idleRing (_ : Nat) : RingSt := {}
/-- What ring r holds. -/
def Block.ring (s : Block) (r : Nat) : RingSt := s.rings.get idleRing r
/-- Ring r changed. -/
def Block.onRing (s : Block) (r : Nat) (f : RingSt → RingSt) : Block :=
  { s with rings := s.rings.set idleRing r (f (s.ring r)) }

/-- RCFG.OPEN. -/
def Block.ringOpen (s : Block) (r : Nat) : Bool := bit (s.rn (rRing r 0)) 0
/-- RCFG.PART. -/
def Block.ringPart (s : Block) (r : Nat) : Nat := s.fld (rRing r 0) 3 1
/-- RCFG.WRITER: 0 the host, 0x10 + q a sequencer. -/
def Block.ringWriter (s : Block) (r : Nat) : Nat := s.fld (rRing r 0) 8 4
/-- RCFG.PATH: 0 M, 1 I, 2 D. -/
def Block.ringPath (s : Block) (r : Nat) : Nat := s.fld (rRing r 0) 10 9
/-- CSIZE. -/
def Block.csize (s : Block) (r : Nat) : Nat := 2 ^ s.fld (rRing r 0) 15 12
/-- WPOS. -/
def Block.wpos (s : Block) (r : Nat) : Nat := s.rn (rRing r 0xC)
/-- RCOUNT. -/
def Block.rcount (s : Block) (r : Nat) : Nat := s.fld (rRing r 0x1C) 15 0
/-- RSIZE in bytes. -/
def Block.rsize (s : Block) (r : Nat) : Nat := s.fld (rRing r 0x1C) 31 16 * 64
/-- The difference of two 32-bit counts. -/
def sub32 (a b : Nat) : Nat := (a + 2 ^ 32 - b % 2 ^ 32) % 2 ^ 32

/-! ### Line positions (R146, R154, R328) -/

/-- No line. -/
def noLine (_ : Nat) : Option HeldLine := none
/-- Key of position p of ring r. -/
def lineKey (r p : Nat) : Nat := 8192 * r + p
/-- The line at a position. -/
def Block.lineAt (s : Block) (r p : Nat) : Option HeldLine := s.lines.get noLine (lineKey r p)
/-- Position p of ring r set. -/
def Block.setLine (s : Block) (r p : Nat) (l : Option HeldLine) : Block :=
  { s with lines := s.lines.set noLine (lineKey r p) l }

/-- The positions of `n` lines from line number w on become empty, without credit. -/
def Block.clearLines (s : Block) (r w : Nat) : Nat → Block
  | 0 => s
  | n + 1 => (s.clearLines r w n).setLine r ((w + n) % 8192) none

/-- `n` lines from number w on are freed (R154). -/
def Block.freeLines (s : Block) (r w n : Nat) : Block := (s.clearLines r w n).bumpMod32 (rRg r 0) n

/-! ### Headers (R147, R149) -/

/-- The kind line 0 fixes. -/
def lineKind (l : Line) : ItemKind :=
  if hdr l 42 42 = 1 then .fence else if hdr l 44 44 = 1 then .loopCall
  else if hdr l 41 36 = 0 then .marker else .bundle

/-- Whether a line breaks R147, R149 or has a nonzero LRSV. -/
def malformed (l : Line) (urgent : Bool) : Bool :=
  hdr l 63 49 != 0 || bits l.toNat 479 448 != 0 ||
    (if hdr l 33 32 ≠ 0 then hdr l 48 36 != 0
    else
      (hdr l 42 42 == 1 && hdr l 44 44 == 1) ||
        (hdr l 41 36 != 0 && (hdr l 42 42 == 1 || hdr l 44 44 == 1)) ||
        (hdr l 43 43 == 1 && hdr l 42 42 == 0) || (hdr l 35 34 != 0 && lineKind l != .bundle) ||
        (hdr l 42 42 == 1 && hdr l 45 45 == 1) ||
        (urgent && (hdr l 44 44 == 1 || hdr l 45 45 == 1)) || (!urgent && hdr l 48 46 != 0))

/-- Whether LCHK is right (R148). -/
def lchkOk (l : Line) : Bool := bits l.toNat 511 480 == (crc32c (leBytes l.toNat 60)).toNat

/-! ### Discarding and acceptance (R150-R153, R336) -/

/-- The item being assembled is discarded (R150 step 4). -/
def Block.discardAsm (s : Block) (r : Nat) : Block :=
  match (s.ring r).asm with
  | none => s
  | some a =>
    let n := a.lines.length
    let s := s.freeLines r a.first n
    let s := s.setRn (rRg r 4) ((a.seq.toNat + 1) % 2 ^ 32)
    let s := s.bump32 (rRg r 0x18) 1
    s.onRing r (fun q => { q with asm := none, stale := some a.seq })

/-- Line WPOS is discarded: its credit returns and WPOS moves on (DEDUCED, log entry 31). -/
def Block.dropLine (s : Block) (r : Nat) : Block :=
  (s.freeLines r (s.wpos r) 1).bumpMod32 (rRing r 0xC) 1

/-- The port a ring's lines come through, as a violation names it. -/
def Block.ringPort (s : Block) (r : Nat) : Nat := s.attPort (s.ringPart r)

/-- An event of class SEQUENCER (R468). -/
def Block.seqEvent (s : Block) (q kind code ring sibling : Nat) : Block :=
  s.logEvent 0xB0 (unitSeq q) (kind + code <<< 8 + ring <<< 16 + sibling <<< 24 + s.rn (rQ q 0xC) <<< 32 +
    s.rn (rQ q 0x18) <<< 64 + s.rn (rQ q 0x10) <<< 96)

/-- A discarded line of a ring that a sequencer writes is logged for it (R457). -/
def Block.lineLost (s : Block) (r : Nat) : Block :=
  if 16 ≤ s.ringWriter r then s.seqEvent (s.ringWriter r - 16) 9 0 r 0 else s

/-- A malformed line (R150 step 6): a violation of the host, the assembly and the line discarded. -/
def Block.malformedLine (s : Block) (r : Nat) : Block :=
  let off := 0x100000 * r + 64 * (s.wpos r % 8192)
  let s := if 16 ≤ s.ringWriter r then s.lineLost r else s.violation (s.ringPort r) 0x04 0 off
  let s := s.orReg (rRg r 8) 8
  let w := s.wpos r
  let s := s.discardAsm r
  (s.freeLines r w 1).bumpMod32 (rRing r 0xC) 1

/-- Items of a ring whose record is not posted. -/
def Block.ringItems (s : Block) (r : Nat) : List Item := s.items.filter (fun i => i.ring.val == r)

/-- Whether the urgent ring holds acceptance (R153). -/
def Block.urgentFull (s : Block) : Bool := decide (64 ≤ (s.ringItems 8).length)

/-- Whether a bundle takes a result slot (R336). -/
def Block.takesSlot (s : Block) (r : Nat) (l0 : Line) : Bool :=
  lineKind l0 == .bundle && hdr l0 40 40 == 1 && s.rcount r != 0

/-- Whether acceptance waits for a result slot (R336). -/
def Block.slotHeld (s : Block) (r : Nat) (l0 : Line) : Bool :=
  s.takesSlot r l0 && decide (s.rcount r ≤ sub32 (s.rn (rRing r 0x2C)) (s.rn (rRing r 0x28)))

/-- The core an item runs in: its ring's, or its TARGET on the urgent ring. -/
def itemCore (r : RingId) (l0 : Line) : CoreId :=
  if h : r.val < 8 then ⟨r.val, h⟩ else ⟨hdr l0 48 46 % 8, Nat.mod_lt _ (by decide)⟩

/-- An item is accepted (R151): NEXTSEQ and JR.CURSOR advance, and a slot-taking bundle takes the next slot. -/
def Block.acceptItem (s : Block) (r : RingId) (ls : List Line) (first stamp : Nat) : Block :=
  let l0 := ls.headD 0#512
  let seq := hdr l0 31 0
  let k := s.rn (rRing r.val 0x2C)
  let takes := s.takesSlot r.val l0
  let it : Item :=
    { id := s.rn (rJr 0x10), ring := r, seq := BitVec.ofNat 32 seq, core := itemCore r l0, kind := lineKind l0,
      phase := .accepted, lines := ls, first := BitVec.ofNat 32 first, freed := false, stamp := stamp, outstanding := 0,
      placing := false, done := 0#6, granted := 0#6, faulted := false, voided := false, fcode := 0#8, evidx := 0#32,
      slotK := if takes then some (BitVec.ofNat 32 k) else none, pathd := false }
  let s := s.setRn (rRg r.val 4) ((seq + 1) % 2 ^ 32)
  let s := s.setRn (rJr 0x10) (s.rn (rJr 0x10) + 1)
  let s := if takes then s.bumpMod32 (rRing r.val 0x2C) 1 else s
  let s := s.onRing r.val (fun q => { q with asm := none })
  { s with items := s.items ++ [it] }

/-- Whether line l, at WPOS, may follow what is in assembly (R150 steps 2 and 3, R326). -/
def Block.lineFits (s : Block) (r : Nat) (l : Line) : Bool :=
  match (s.ring r).asm with
  | none => hdr l 33 32 == 0 && hdr l 31 0 == s.rn (rRg r 4) &&
      (decide (r < 8) || s.coreOwner (hdr l 48 46) == some (s.ringPart r))
  | some a => hdr l 31 0 == a.seq.toNat && hdr l 35 34 == a.nlines && hdr l 33 32 == a.lines.length &&
      s.wpos r == (a.first + a.lines.length) % 2 ^ 32

/-- A good line joins its item, which is accepted with its last line (R150, R151). -/
def Block.joinLine (s : Block) (r : RingId) (h : HeldLine) : Block :=
  let q := s.ring r.val
  let l := h.data
  let ls := (match q.asm with
    | some a => a.lines
    | none => []) ++ [l]
  let w := s.wpos r.val
  let first := sub32 w (ls.length - 1)
  let s := s.bumpMod32 (rRing r.val 0xC) 1
  if hdr l 33 32 = hdr l 35 34 then s.acceptItem r ls first h.stamp
  else s.onRing r.val (fun q =>
    { q with asm := some { seq := BitVec.ofNat 32 (hdr l 31 0), nlines := hdr l 35 34, first := first, lines := ls } })

/-- Whether the next line waits at its position: an urgent item beyond 64, or a bundle without a free result slot. -/
def Block.lineHeld (s : Block) (r : Nat) (l : Line) : Bool :=
  (r == 8 && (s.ring r).asm.isNone && s.urgentFull) ||
    (hdr l 33 32 == hdr l 35 34 && s.slotHeld r (match (s.ring r).asm with
      | some a => a.lines.headD l
      | none => l))

/-- Whether position p of ring r holds a line that has been taken already: one in assembly or of an accepted item. -/
def Block.posTaken (s : Block) (r p : Nat) : Bool :=
  (s.ringItems r).any (fun i => !i.freed && decide ((p + 8192 - i.first.toNat % 8192) % 8192 < i.lines.length)) ||
    (match (s.ring r).asm with
     | some a => decide ((p + 8192 - a.first % 8192) % 8192 < a.lines.length)
     | none => false)

/-- The dispatcher takes the line at WPOS, if one stands there and no acceptance holds it (R150-R153, R336). The answer
says whether it took one. -/
def Block.takeLine (s : Block) (r : RingId) : Block × Bool :=
  let n := r.val
  let p := s.wpos n % 8192
  match (if s.posTaken n p then none else s.lineAt n p) with
  | none => (s, false)
  | some h =>
    let l := h.data
    let (s, bad) := s.sramRead 1 0 (0x80000 * n + 64 * p) 64
    if bad.isSome || !(lchkOk l) then
      let s := ((s.bump32 (rRg n 0x10) 1).orReg (rRg n 8) 2).lineLost n
      let w := s.wpos n
      let s := s.discardAsm n
      ((s.freeLines n w 1).bumpMod32 (rRing n 0xC) 1, true)
    else if (s.ring n).stale = some (BitVec.ofNat 32 (hdr l 31 0)) ∧ hdr l 33 32 ≠ 0 then
      ((((s.bump32 (rRg n 0x14) 1).orReg (rRg n 8) 4).lineLost n).dropLine n, true)
    else if malformed l (n == 8) || !(s.lineFits n l) then (s.malformedLine n, true)
    else if s.lineHeld n l then (s, false)
    else (s.joinLine r h, true)

/-- PUTN of ring r in sequencer q (R457, R464). -/
def rPutn (q r : Nat) : Nat := rQ q (0x40 + 4 * r)

/-- A ring whose plan has left RUNNING is settled once no line stands at WPOS (R463). -/
def Block.settlePlanRing (s : Block) (r : Nat) : Block :=
  let q := s.ringWriter r - 16
  let p := s.wpos r % 8192
  if 16 ≤ s.ringWriter r ∧ s.fld (rQ q 8) 2 0 ≠ 2 ∧ ((s.lineAt r p).isNone ∨ s.posTaken r p = true) then
    let s := s.discardAsm r
    s.setRn (rPutn q r) (s.wpos r)
  else s

/-- `LINE_TAKE` (R150). -/
def execLineTake (ring : RingId) (st : State) : Host.Outcome State Fault Refusal := st.act fun s =>
  .next (if s.life == .service && s.ringOpen ring.val then (s.takeLine ring).1.settlePlanRing ring.val else s)

/-! ### Settling and flushing (R177, R346) -/

/-- Lines taken while the next position holds one. -/
def Block.takeLines (s : Block) (r : RingId) : Nat → Block
  | 0 => s
  | n + 1 => match s.takeLine r with
    | (s, true) => s.takeLines r n
    | (s, false) => s

/-- Numbers of the lines that stand from WPOS on. -/
def Block.heldFrom (s : Block) (r : Nat) : List Nat :=
  ((List.range 8192).map (fun i => (s.wpos r + i) % 2 ^ 32)).filter (fun w => (s.lineAt r (w % 8192)).isSome)

/-- Numbers of the lines of accepted items that still hold positions. -/
def Block.acceptedLines (s : Block) (r : Nat) : List Nat :=
  (s.ringItems r).flatMap (fun i => if i.freed then [] else
    (List.range i.lines.length).map (fun k => (i.first.toNat + k) % 2 ^ 32 % 8192))

/-- A ring is settled (R346) (DEDUCED, log entry 30). -/
def Block.settleRing (s : Block) (r : RingId) : Block :=
  let n := r.val
  let s := (s.takeLines r 8192).discardAsm n
  let keep := s.acceptedLines n
  let ws := (s.heldFrom n).filter (fun w => !(keep.contains (w % 8192)))
  let s := ws.foldl (fun s w => (s.freeLines n w 1).bump32 (rRing n 0x50) 1) s
  match ws.getLast? with
  | some w => s.setRn (rRing n 0xC) ((w + 1) % 2 ^ 32)
  | none => s

/-- `RING_FLUSH` (R177). -/
def execRingFlush (req : Requester) (ring : RingId) (st : State) : Host.Outcome State Fault Refusal := st.act fun s =>
  .next (s.guarded req (rRg ring.val 0xC) 1 (fun s => some (s.discardAsm ring.val)))

/-! ### Host writes (R321, R328, R350) -/

/-- Whether a port offers the HDM range: its link is up in a CXL mode (R317). -/
def Block.hasHdm (s : Block) (p : Nat) : Bool := s.dlUp p && s.fld (rHi (0x10 * p)) 2 1 != 0

/-- Whether the host on port p writes ring r now (R328); during Dawn every ring answers as closed (R479). -/
def Block.mayWriteRing (s : Block) (p r : Nat) : Bool :=
  s.life != .dawn && s.ringOpen r && s.ringWriter r == 0 && s.reachedOn (s.ringPart r) p

/-- The violation of a write of n bytes at offset o of ring r's aperture, in the order of R350. -/
def Block.ringVio (s : Block) (p r o n : Nat) : Option Nat :=
  if n ≠ 64 ∨ o % 64 ≠ 0 then some 0x02
  else if !(s.mayWriteRing p r) then some 0x03
  else if (s.lineAt r (o / 64)).isSome then some 0x01
  else none

/-- The next arrival stamp. -/
def Block.nextStamp (s : Block) : Nat × Block := (s.stamp, { s with stamp := s.stamp + 1 })

/-- Bytes of a write as one line. -/
def lineOf (bs : List Byte) : Line := BitVec.ofNat 512 (ofBytes bs)

/-- Ring r's aperture written through port p: a line, or a violation (R328, R350). In Twilight lines are discarded and
counted (R393). -/
def Block.writeRing (s : Block) (p r o : Nat) (data : List Byte) : Block :=
  if s.life == .twilight then s.bump32 (rJr 0x40) 1
  else match s.ringVio p r o data.length with
  | some c =>
    let s := if c = 0x01 then s.orReg (rRg r 8) 1 else s
    s.violation p c 0 (0x100000 * r + o)
  | none =>
    let (t, s) := s.nextStamp
    s.setLine r (o / 64) (some ⟨lineOf data, t⟩)

/-- Whether port p reaches Ledger byte a through the result window: it is in the allocation of a partition ATTACHED
there, and not sealed (R323, R427). -/
def Block.winByte (s : Block) (p a : Nat) : Bool :=
  (List.range 8).any (fun k =>
    let (z, n) := s.sealedRange k
    s.reachedOn k p && s.inLedAlloc k a 1 && !(decide (z ≤ a) && decide (a < z + n)))

/-- Whether port p reaches n Ledger bytes at a through the result window, each byte by itself (R323). -/
def Block.winReach (s : Block) (p a n : Nat) : Bool :=
  s.life != .dawn && (List.range n).all (fun i => s.winByte p (a + i))

/-- A result-window write through port p, to become visible later (R329, DESIGN CHOICE, log entry 29), or a violation. -/
def Block.writeWindow (s : Block) (p a : Nat) (data : List Byte) : Block :=
  if data.isEmpty then s
  else if s.winReach p a data.length then
    let (t, s) := s.nextStamp
    { s with winBuf := s.winBuf ++ [⟨t, a, data⟩] }
  else s.violation p 0x07 0 (0x10000000 + a)

/-- Whether an HDM offset lies in a command ring's aperture. -/
def inRingAperture (o : Nat) : Bool := decide (o < 0x900000) && decide (o % 0x100000 < 0x80000)

/-- An HDM write by the host on port p. -/
def Block.writeHdm (s : Block) (p o : Nat) (data : List Byte) : Block :=
  if !(s.hasHdm p) || s.life == .night || s.life == .dark then s
  else if inRingAperture o then s.writeRing p (o / 0x100000) (o % 0x100000) data
  else if 0x10000000 ≤ o ∧ o < 0x12000000 then s.writeWindow p (o - 0x10000000) data
  else s.violation p 0x05 0 o

/-- `RING_LINE_WRITE` (R328, R350). -/
def execRingLineWrite (port : Port) (off : BitVec 30) (data : List Byte) (st : State) :
    Host.Outcome State Fault Refusal := st.act fun s =>
  .next (s.writeHdm port.num off.toNat data)

/-- `RESULT_WINDOW_WRITE` (R323, R329). -/
def execResultWindowWrite (port : Port) (off : BitVec 25) (data : List Byte) (st : State) :
    Host.Outcome State Fault Refusal := st.act fun s =>
  .next (s.writeHdm port.num (0x10000000 + off.toNat) data)

/-- Result-window writes with a stamp before t become visible, in the order they came (R330); the result window shows
what was written through it. -/
def Block.showWindow (s : Block) (t : Nat) : Block :=
  let due := s.winBuf.filter (fun w => decide (w.stamp < t))
  let s := { s with winBuf := s.winBuf.filter (fun w => decide (t ≤ w.stamp)) }
  due.foldl (fun s w => { s.ledWrite w.off w.data with pathM := writeBytes s.pathM w.off w.data }) s

/-! ### What host reads return (R321, R322, R329, R339, R340) -/

/-- The Ledger as a path's read pipeline last showed it: path 0 M, 1 I. -/
def Block.pathOld (s : Block) (path : Nat) : Tab Byte := if path = 0 then s.pathM else s.pathI

/-- What a path's pipeline shows changed. -/
def Block.setPath (s : Block) (path : Nat) (t : Tab Byte) : Block :=
  if path = 0 then { s with pathM := t } else { s with pathI := t }

/-- Every Ledger write completed so far is visible to every later read on a path (R340). -/
def Block.catchUp (s : Block) (path : Nat) : Block := s.setPath path s.ledger

/-- n Ledger bytes from address a as a read on a path returns them: of a byte written since the path last showed it,
either contents, as a free value says; what a read has shown stays shown (R339; DESIGN CHOICE, log entry 134). -/
def Block.pathRead (s : Block) (path a : Nat) : Nat → Block × List Byte
  | 0 => (s, [])
  | n + 1 =>
    let old := (s.pathOld path).get byteZero a
    let new := s.ledger.get byteZero a
    let (s, b) := if old = new then (s, new) else
      let (x, s) := s.draw
      if x % 2 = 0 then (s, old) else (s.setPath path ((s.pathOld path).set byteZero a new), new)
    let (s, bs) := s.pathRead path (a + 1) n
    (s, b :: bs)

/-- A read completed with its bytes. -/
def Block.answerRead (s : Block) (port : Port) (bs : List Byte) (poison : Bool := false) : Block :=
  { s with hostOut := s.hostOut ++ [HostMsg.data port bs poison] }

/-- A read of Ledger bytes through the result window (path 0) or its BAR2 mirror (path 1) answered: poisoned where it
meets a word with an uncorrectable error (R406). -/
def Block.answerWindow (s : Block) (port : Port) (path a n : Nat) : Block :=
  let (s, bad) := s.ledScan a n
  let (s, bs) := s.pathRead path a n
  s.answerRead port bs bad.isSome

/-- Bytes [o, o + n) of a fence word: the timestamp in bytes 0 to 7, 0 elsewhere (R340). -/
def fenceBytes (time o n : Nat) : List Byte :=
  (List.range n).map (fun i => if o + i < 8 then BitVec.ofNat 8 (time >>> (8 * (o + i))) else 0#8)

/-- A host read that is granted: the result window, which the read-back orders behind the host's own writes (R329), its
BAR2 mirror, a completion ring, and the fence words (R321, R322, R340). -/
def Block.grantRead (s : Block) (port : Port) (x : HostAccess) : Block :=
  let o := x.off.toNat
  let n := x.size
  match x.aperture with
  | .hdm =>
    if 0x12000000 ≤ o then ((s.showWindow s.stamp).catchUp 0).answerRead port (fenceBytes s.now (o - 0x12000000) n)
    else if 0x10000000 ≤ o then
      (s.showWindow s.stamp).answerWindow port 0 (o - 0x10000000) n
    else
      let r := (o - 0x8000000) / 0x100000
      s.answerRead port (s.ledRead (0x480000 + 8192 * s.rn (rRing r 0x10) + o % 0x100000) n)
  | .bar2 =>
    if 0x2000000 ≤ o then ((s.showWindow s.stamp).catchUp 1).answerRead port (fenceBytes s.now (o - 0x2000000) n)
    else s.answerWindow port 1 o n
  | _ => s

/-! ### Violations (R350) -/

/-- The violation of an HDM access, if it is one. -/
def Block.hdmVio (s : Block) (p o n : Nat) (write : Bool) : Option Nat :=
  if inRingAperture o then (if write then s.ringVio p (o / 0x100000) (o % 0x100000) n else some 0x06)
  else if 0x8000000 ≤ o ∧ o < 0x8900000 then
    let r := (o - 0x8000000) / 0x100000
    if write then some 0x05
    else if s.life == .dawn || !(s.ringOpen r) || decide (s.csize r * 32 < o % 0x100000 + n) then some 0x06
    else if s.reachedOn (s.ringPart r) p then none else some 0x07
  else if 0x10000000 ≤ o ∧ o < 0x12000000 then (if s.winReach p (o - 0x10000000) n then none else some 0x07)
  else if 0x12000000 ≤ o ∧ o < 0x12000040 ∧ ¬ write then none
  else some (if write then 0x05 else 0x06)

/-- Whether a PBR identifier is a member's and peer traffic is enabled on port p (R352). -/
def Block.peerSource (s : Block) (p id : Nat) : Bool :=
  bit (s.rn (rHi 0x700)) 0 && s.fld (rHi 0x700) 1 1 == p &&
    (List.range 8).any (fun m => s.fld (rHi (0x710 + 4 * m)) 12 0 == id + 2 ^ 12)

/-- The violation of a host access, if it is one (R350, R426, R518). -/
def Block.vioOf (s : Block) (p : Nat) (x : HostAccess) : Option Nat :=
  let o := x.off.toNat
  match x.aperture with
  | .hdm => s.hdmVio p o x.size x.write
  | .bar0 =>
    if !x.write && (regInfo o).isNone && (regInfo (o - 4)).all (fun i => !i.wide) then some 0x06
    else if s.portMay p o x.write then none else some 0x0A
  | .bar2 =>
    if x.write then some 0x05
    else if o < 0x2000000 then (if s.winReach p o x.size then none else some 0x07)
    else if o < 0x2000040 then none else some 0x06
  | .bar4 =>
    if !x.write then some 0x06 else if s.peerSource p x.source.toNat then none else some 0x09

/-- The accesses that a host access acts as: in BAR0 an aligned 64-bit access is two 32-bit accesses, but for a 64-bit
register, and an access of another size or alignment breaks no rule of R350 (R516). -/
def hostParts (x : HostAccess) : List HostAccess :=
  let o := x.off.toNat
  if x.aperture != .bar0 then [x]
  else if x.size = 4 ∧ o % 4 = 0 then [x]
  else if x.size = 8 ∧ o % 8 = 0 then
    (if wideAt o then [x] else [{ x with size := 4 }, { x with size := 4, off := x.off + 4 }])
  else []

/-- One access judged (R350): a violation is counted and recorded, and a violating read returns 0 in every byte; a read
that breaks no rule returns what it reads. -/
def Block.judgeHost (s : Block) (port : Port) (x : HostAccess) : Block :=
  let p := port.num
  if !(s.dlUp p) || s.life == .night || s.life == .dark || (x.aperture == .hdm && !(s.hasHdm p)) then s
  else match s.vioOf p x with
  | none => if x.write then s else s.grantRead port x
  | some c =>
    let o := x.off.toNat
    let s := if x.write then s else s.answerRead port (List.replicate x.size 0#8)
    let s := if c = 0x01 then s.orReg (rRg (o / 0x100000) 8) 1 else s
    let s := if x.aperture == .bar0 then s.dropHeld (.port port) else s
    s.violation p c (apCode x.aperture) o

/-- `HOST_VIOLATION` (R350, R516). -/
def execHostViolation (port : Port) (access : HostAccess) (st : State) : Host.Outcome State Fault Refusal := st.act fun s =>
  .next ((hostParts access).foldl (fun s x => s.judgeHost port x) s)

/-! ### Credit records (R342) -/

/-- The port number as a port. -/
def portOf (n : Nat) : Port := if n = 0 then .ha else .hb

/-- `CREDIT_RECORD_WRITE` (R342): due when CREDIT has changed since the last one. -/
def execCreditRecordWrite (ring : RingId) (st : State) : Host.Outcome State Fault Refusal := st.act fun s =>
  let r := ring.val
  let k := s.ringPart r
  let credit := s.rn (rRg r 0)
  .next (if s.life == .service && s.ringOpen r && s.fld (rRing r 0) 11 11 == 1 && s.attUp k &&
      credit != (s.ring r).credited then
    let s := s.onRing r (fun q => { q with credited := credit })
    { s with hostOut := s.hostOut ++ [HostMsg.write (portOf (s.attPort k)) (s.rn (rRing r 0x38))
      (leBytes credit 4 ++ leBytes (s.rn (rRg r 4)) 4 ++ leBytes s.now 8)] }
  else s)

end Sys2Proof.Machine
end

