-- ==== Sys2Proof/Machine/Dispatcher.lean ====
section
/-!
DEFINITION. The dispatcher: placement, FENCE items, loop calls, completion records, queue flush and loop memory
(06_bundles_and_queues.md, R160-R178; 12_host_interface.md, R330-R338).
-/
namespace Sys2Proof.Machine

/-! ### What stands next (R160, R164, R334) -/

/-- Whether an item is an incomplete FENCE item of ring r. -/
def Item.holds (i : Item) (r : Nat) : Bool := i.ring.val == r && i.kind == .fence && i.phase != .complete

/-- The first accepted item of ring r, for core c, with no incomplete FENCE item of the ring before it. -/
def nextItem (r c : Nat) : List Item → Option Item
  | [] => none
  | i :: t =>
    if i.ring.val = r ∧ i.phase = .accepted ∧ i.core.val = c then some i
    else if i.holds r then none
    else nextItem r c t

/-- Whether a completion place is left for another item of ring r (R334). -/
def Block.hasPlace (s : Block) (r : Nat) : Bool :=
  decide (((s.ringItems r).filter (fun i => i.phase != .accepted)).length +
    sub32 (s.rn (rRing r 0x14)) (s.rn (rRing r 0x18)) < s.csize r)

/-- No active call. -/
def noCall (_ : Nat) : Option LoopCall := none
/-- The active loop call of a core. -/
def Block.call? (s : Block) (c : Nat) : Option LoopCall := s.calls.get noCall c
/-- The active loop call of a core set. -/
def Block.setCall (s : Block) (c : Nat) (x : Option LoopCall) : Block := { s with calls := s.calls.set noCall c x }

/-- LMSTAT's offset. -/
def rLm (c : Nat) : Nat := rC c 0x84
/-- Active half. -/
def Block.lmActive (s : Block) (c : Nat) : Nat := s.fld (rLm c) 0 0
/-- Whether a half is open. -/
def Block.lmOpen (s : Block) (c h : Nat) : Bool := bit (s.rn (rLm c)) (3 + h)
/-- Whether a half is valid. -/
def Block.lmValid (s : Block) (c h : Nat) : Bool := bit (s.rn (rLm c)) (1 + h)

/-- Line 0 of an item. -/
def Item.line0 (i : Item) : Line := i.lines.headD 0#512
/-- SWAP. -/
def Item.swaps (i : Item) : Bool := hdr i.line0 45 45 == 1

/-- Whether an item's SWAP waits for the other half to close (R168 step 4). -/
def Block.swapHeld (s : Block) (c : Nat) (i : Item) : Bool := i.swaps && s.lmOpen c (1 - s.lmActive c)

/-- Whether a SWAP is waiting in a core (R168, LMSTAT.SWAP_WAIT). -/
def Block.swapWaits (s : Block) (c : Nat) : Bool :=
  (s.call? c).isNone && (match nextItem c c s.items with
    | some i => s.swapHeld c i
    | none => false)

/-! ### Placement (R14, R161, R162, R165) -/

/-- Engine queues the slots of a mask enter. -/
def slotQueues (ls : List Line) (m : Nat) : List (Nat × Nat) :=
  ((List.range 6).filter (fun j => bit m j)).map (fun j => (j, slotEngine j (itemSlot ls j % 256)))

/-- Whether every normal queue concerned has room below its LIMIT (R14, R165). -/
def Block.hasRoom (s : Block) (c : Nat) (qs : List (Nat × Nat)) : Bool :=
  qs.all (fun q => decide ((s.queue (qKey c q.2 0)).length < s.fld (rC c (0x20 + 4 * q.2)) 19 10))

/-- The entry of slot j. -/
def mkEntry (i : Item) (ls : List Line) (j : Nat) (body : Bool) (iter line : Nat) : Entry :=
  let x := itemSlot ls j
  let w := fun k : Nat => BitVec.ofNat 64 (bits x (64 * k + 63) (64 * k))
  { item := i.id, ring := i.ring, seq := i.seq, slot := j, body := body, iter := BitVec.ofNat 32 iter, bodyLine := line,
    w0 := w 0, w1 := w 1, w2 := w 2, w3 := w 3 }

/-- A bundle's entries placed in their queues, all at once (R14). -/
def Block.placeSlots (s : Block) (c l : Nat) (i : Item) (ls : List Line) (m : Nat) (body : Bool) (iter line : Nat) :
    Block :=
  let qs := slotQueues ls m
  let s := qs.foldl (fun s q =>
    let k := qKey c q.2 l
    s.setQueue k (s.queue k ++ [mkEntry i ls q.1 body iter line])) s
  s.mapItem i.id (fun it => { it with outstanding := it.outstanding + qs.length })

/-- Where a fault at dispatch arises (R172, R173). -/
def Item.site (i : Item) (l queue slot : Nat) (body : Bool) (iter line : Nat) : FaultSite :=
  { core := i.core.val, queue := queue, urgent := l == 1, ring := i.ring.val, slot := slot, body := body,
    seq := i.seq.toNat, iter := iter, bodyLine := line }

/-- A fault at dispatch, which stays with its item. -/
def Block.dispatchFault (s : Block) (i : Item) (x : FaultSite) (f : SlotFault) : Block :=
  let (s, ev) := s.raiseFault x f.1 f.2
  s.mapItem i.id (fun it => it.fault f.1 ev)

/-- An item's lines freed (R154). -/
def Block.freeItem (s : Block) (i : Item) : Block :=
  if i.freed then s
  else (s.freeLines i.ring.val i.first.toNat i.lines.length).mapItem i.id (fun it => { it with freed := true })

/-- SWAP's effect (R168 step 4). -/
def Block.swapIf (s : Block) (c : Nat) (i : Item) : Block :=
  if i.swaps then s.setFld (rLm c) 0 0 (1 - s.lmActive c) else s

/-- An item settles, or completes at its dispatch. -/
def Block.settleItem (s : Block) (id : Nat) : Block := s.mapItem id Item.settle

/-! ### The kinds of item (R149, R167, R171) -/

/-- Descriptor of a loop call. -/
def Item.loopDesc (i : Item) : Nat := lineSlot i.line0 0

/-- The checks of a loop call at its dispatch: its descriptor, its range, and its half (R171, R168 step 5). -/
def Block.callCheck (s : Block) (c : Nat) (i : Item) : Option SlotFault :=
  let d := i.loopDesc
  let x := bits i.line0.toNat 447 64
  match lowBitOf (d >>> 50 <<< 50 + x >>> 64 <<< 64) 0 384 with
  | some b => some (0x02, b)
  | none =>
    if 512 < bits d 8 0 + bits d 17 9 + 1 then some (0x04, 3)
    else if s.lmOpen c (s.lmActive c) then some (0x04, 1)
    else if !(s.lmValid c (s.lmActive c)) then some (0x04, 2)
    else none

/-- A loop call begins (R167). -/
def loopCallOf (i : Item) : LoopCall :=
  let d := i.loopDesc
  { item := i.id, start := bits d 8 0, len := bits d 17 9 + 1, reps := bits d 49 18 + 1, iter := 0, idx := 0,
    fetched := false }

/-- An item placed (R160, R161, R171, R172); none while rule R14 or R168 holds it. -/
def Block.placeItem (s : Block) (l : Nat) (i : Item) : Option Block :=
  let c := i.core.val
  let m := hdr i.line0 41 36
  let start := fun s : Block => s.mapItem i.id (fun it => { it with phase := .dispatched })
  if s.swapHeld c i then none
  else match i.kind with
  | .bundle =>
    (match itemCheck i.lines m 6 with
     | some (j, q, f) =>
       some (((((start s).freeItem i).swapIf c i).dispatchFault i (i.site l q j false 0 0) f).settleItem i.id)
     | none =>
       if l = 0 ∧ s.hasRoom c (slotQueues i.lines m) = false then none
       else some ((((start s).freeItem i).swapIf c i).placeSlots c l i i.lines m false 0 0))
  | .loopCall =>
    let s := (start s).swapIf c i
    (match s.callCheck c i with
     | some f => some (((s.freeItem i).dispatchFault i (i.site l 7 6 false 0 0) f).settleItem i.id)
     | none => some ((s.mapItem i.id (fun it => { it with placing := true })).setCall c (some (loopCallOf i))))
  | k =>
    let s := ((start s).freeItem i).swapIf c i
    let s := match itemLevelBit i.line0 0 with
      | some b => s.dispatchFault i (i.site l 7 6 false 0 0) (0x02, b)
      | none => s
    some (if k = .fence then s.onRing i.ring.val (fun q => { q with fence := some i.id }) else s.settleItem i.id)

/-- Whether a core's dispatcher works: in service, its domain on, in a partition. -/
def Block.dispatching (s : Block) (c : Nat) : Bool := s.life == .service && s.domOn c && s.fld (rC c 4) 1 0 != 3

/-- The urgent item a core's dispatcher takes next (R160 step 1). -/
def Block.urgentNext (s : Block) (c : Nat) : Option Item := if s.hasPlace 8 then nextItem 8 c s.items else none

/-- `DISPATCH` (R160): the oldest urgent item for the core, else its own stream's next item while it is RUNNING. -/
def execDispatch (core : CoreId) (st : State) : Host.Outcome State Fault Refusal := st.act fun s =>
  let c := core.val
  .next <| if !(s.dispatching c) then s
  else match s.urgentNext c with
  | some i => (s.placeItem 1 i).getD s
  | none =>
    if s.fld (rC c 4) 1 0 ≠ 0 ∨ (s.call? c).isSome ∨ s.hasPlace c = false then s
    else match nextItem c c s.items with
    | some i => (s.placeItem 0 i).getD s
    | none => s

/-! ### Loop calls (R167, R168) -/

/-- Key of a loop-memory byte. -/
def lmKey (c h a : Nat) : Nat := (2 * c + h) * 32768 + a

/-- Line n of half h of a core's loop memory. -/
def Block.lmLine (s : Block) (c h n : Nat) : Line := lineOf (readBytes s.loopMem (lmKey c h (64 * n)) 64)

/-- An active loop call places no further line; one that has fetched none frees its line now (R154, R178; DEDUCED, log
entry 132). -/
def Block.endCall (s : Block) (c : Nat) : Block :=
  match s.call? c with
  | none => s
  | some x =>
    let s := match s.item? x.item with
      | some i => s.freeItem i
      | none => s
    (s.setCall c none).mapItem x.item (fun it => Item.settle { it with placing := false })

/-- The next line of the call, or its end (R167). -/
def Block.stepCall (s : Block) (c : Nat) (x : LoopCall) : Block :=
  if x.idx + 1 < x.len then s.setCall c (some { x with idx := x.idx + 1, fetched := false })
  else if x.iter + 1 < x.reps then s.setCall c (some { x with idx := 0, iter := x.iter + 1, fetched := false })
  else s.endCall c

/-- Why a fetch faults: the half is open or invalid, or the line is empty (R168 steps 5 and 6) (DEDUCED, log entry 32). -/
def Block.fetchFault (s : Block) (c n : Nat) : Option Nat :=
  let h := s.lmActive c
  if s.lmOpen c h then some 1 else if !(s.lmValid c h) then some 2 else if s.lmLine c h n = 0#512 then some 4 else none

/-- A body line fetched and placed as a bundle; its number is the one within the body (R152, R173). -/
def Block.fetchBody (s : Block) (c : Nat) (x : LoopCall) (i : Item) : Block :=
  let n := x.start + x.idx
  let s := s.freeItem i
  let s := s.setCall c (some { x with fetched := true })
  let (s, bad) := s.sramRead 2 c (32768 * s.lmActive c + 64 * n) 64
  match s.fetchFault c n with
  | some d => (s.dispatchFault i (i.site 0 7 6 true x.iter x.idx) (0x04, d)).endCall c
  | none =>
    match bad with
    | some w => (s.dispatchFault i (i.site 0 7 6 true x.iter x.idx) (0xA0, w)).endCall c
    | none =>
      let l := s.lmLine c (s.lmActive c) n
      let m := hdr l 41 36
      match itemCheck [l] m 6 with
      | some (j, q, f) => (s.dispatchFault i (i.site 0 q j true x.iter x.idx) f).stepCall c x
      | none =>
        if s.hasRoom c (slotQueues [l] m) then (s.placeSlots c 0 i [l] m true x.iter x.idx).stepCall c x else s

/-- `LOOP_LINE_FETCH` (R167): a body line of the core's active loop call, behind any urgent item. -/
def execLoopLineFetch (core : CoreId) (st : State) : Host.Outcome State Fault Refusal := st.act fun s =>
  let c := core.val
  .next <| if !(s.dispatching c) || s.fld (rC c 4) 1 0 != 0 || (s.urgentNext c).isSome then s
  else match s.call? c with
  | none => s
  | some x => match s.item? x.item with
    | some i => s.fetchBody c x i
    | none => s.setCall c none

/-! ### FENCE items (R164, R330) -/

/-- Whether a FENCE item orders item j, which was accepted before it. -/
def Block.ordered (s : Block) (f j : Item) : Bool :=
  j.ring == f.ring || (hdr f.line0 43 43 == 1 && f.ring.val != 8 && s.ringPart j.ring.val == s.ringPart f.ring.val)

/-- Whether every item that a FENCE item orders has completed. -/
def Block.fenceDone (s : Block) (f : Item) : Bool :=
  (s.items.takeWhile (fun j => j.id != f.id)).all (fun j => !(s.ordered f j) || j.phase == .complete)

/-- `FENCE_ITEM_COMPLETE` (R164, R330): the result-window writes that came before its line are visible with it. -/
def execFenceItemComplete (ring : RingId) (st : State) : Host.Outcome State Fault Refusal := st.act fun s =>
  let r := ring.val
  .next <| match (s.ring r).fence with
  | none => s
  | some id => match s.item? id with
    | none => s
    | some f =>
      if !s.serving || !(s.fenceDone f) then s
      else
        let s := s.showWindow f.stamp
        let s := s.mapItem id (fun it => { it with phase := .complete })
        s.onRing r (fun q => { q with fence := none })

/-! ### Completion records (R332-R338) -/

/-- STATUS of a record. -/
def Item.status (i : Item) : Nat := if i.voided then 2 else if i.faulted then 1 else 0

/-- GEN of slot use k (R337). -/
def genOf (k rcount : Nat) : Nat := k / max 1 rcount % 65535 + 1

/-- The record of an item at index n (R332). -/
def Block.recordOf (s : Block) (r : Nat) (i : Item) (n : Nat) : List Byte :=
  let phase := (n / s.csize r + 1) % 2
  let fcode := if i.status = 1 then i.fcode.toNat else 0
  let ev := if i.status = 1 then i.evidx.toNat else 0
  let rc := max 1 (s.rcount r)
  let (rs, gen, slot) := match i.slotK with
    | some k => (1, genOf k.toNat (s.rcount r), k.toNat % rc)
    | none => (0, 0, 0)
  let body := leBytes i.seq.toNat 4 ++ leBytes (i.status + phase <<< 2 + rs <<< 3 + r <<< 4 + fcode <<< 8) 2 ++
    leBytes gen 2 ++ leBytes slot 2 ++ leBytes 0 2 ++ leBytes ev 4 ++ leBytes s.now 8 ++ leBytes n 4
  body ++ leBytes (crc32c body).toNat 4

/-- The slot header of an item (R337). -/
def Block.slotHeader (s : Block) (r : Nat) (i : Item) (k : Nat) : List Byte :=
  leBytes (genOf k (s.rcount r)) 2 ++ leBytes (i.status + r <<< 2) 1 ++ leBytes 0 1 ++ leBytes i.seq.toNat 4 ++
    leBytes s.now 8 ++ leBytes 0 16

/-- The slot header written on the ring's path (R337). -/
def Block.writeHeader (s : Block) (r : Nat) (i : Item) : Block :=
  match i.slotK with
  | none => s
  | some k =>
    let a := s.rn (rRing r 0x20) + k.toNat % max 1 (s.rcount r) * s.rsize r
    let h := s.slotHeader r i k.toNat
    if s.ringPath r = 2 then
      { s with hostOut := s.hostOut ++ [HostMsg.write (portOf (s.attPort (s.ringPart r))) a h] }
    else s.ledWrite a h

/-- Ledger offset of place n of ring r's completion ring (R321, R324, R333). -/
def Block.placeAt (s : Block) (r n : Nat) : Nat := 0x480000 + 32 * (256 * s.rn (rRing r 0x10) + n % s.csize r)

/-- The next record of ring r posted (R170, R333, R335, R337): its item and every earlier item of the ring have
completed, a place is free, and on Path D the partition is ATTACHED on a port whose link is up (DESIGN CHOICE, log
entry 33). What it announces is then visible on its path M or I (R339; DESIGN CHOICE, log entry 134). -/
def Block.postRecord (s : Block) (r : Nat) : Block :=
  match s.ringItems r with
  | [] => s
  | i :: _ =>
    let n := s.rn (rRing r 0x14)
    if i.phase ≠ .complete ∨ s.csize r ≤ sub32 n (s.rn (rRing r 0x18)) ∨
        (s.ringPath r = 2 ∧ s.attUp (s.ringPart r) = false) then s
    else
      let s := s.writeHeader r i
      let s := if s.ringPath r < 2 then s.catchUp (s.ringPath r) else s
      let rec_ := s.recordOf r i n
      let s := (s.sramRead 5 0 (0x500000 + (s.placeAt r n - 0x480000)) 32).1
      let s := s.ledWrite (s.placeAt r n) rec_
      let s := if s.ringPath r = 2 then
          { s with hostOut := s.hostOut ++ [HostMsg.write (portOf (s.attPort (s.ringPart r)))
            (s.rn (rRing r 0x30) + 32 * (n % s.csize r)) rec_] }
        else s
      let s := s.bumpMod32 (rRing r 0x14) 1
      { s with items := s.items.filter (fun j => j.id != i.id) }

/-- `COMPLETION_POST` (R170). -/
def execCompletionPost (ring : RingId) (st : State) : Host.Outcome State Fault Refusal := st.act fun s =>
  .next (if s.life == .service && s.ringOpen ring.val then s.postRecord ring.val else s)

/-! ### Core control (R174, R176, R178) -/

/-- STOP: a RUNNING core becomes HELD (R176). -/
def Block.stopCore (s : Block) (c : Nat) : Block := if s.fld (rC c 4) 1 0 = 0 then s.setFld (rC c 4) 1 0 2 else s

/-- RESUME (R174). -/
def Block.resumeCore (s : Block) (c : Nat) : Block :=
  let st := s.fld (rC c 4) 1 0
  if st = 1 ∨ st = 2 then (s.setFld (rC c 4) 1 0 0).setFld (rC c 4) 2 2 0 else s

/-- An item carries FLT_FLUSHED unless it faulted before (R178). -/
def Item.flushed (i : Item) : Item := i.fault 0x05 0#32

/-- Items of the core's ring that have not been dispatched complete FAULTED, their lines freed (R178 step 2). -/
def Block.flushAccepted (s : Block) (c : Nat) : Block :=
  let is := (s.ringItems c).filter (fun i => i.phase == .accepted)
  is.foldl (fun s i => (s.freeItem i).mapItem i.id (fun it => { it.flushed with phase := .complete })) s

/-- The entries of a normal queue that have not issued are removed (R178 step 3). -/
def Block.flushQueue (s : Block) (k : Nat) : Block :=
  let gone := (s.queue k).filter (fun en => en.stage == .queued)
  let s := s.setQueue k ((s.queue k).filter (fun en => en.stage != .queued))
  let s := gone.foldl (fun s en => s.mapItem en.item (fun it =>
    Item.settle { it.flushed with outstanding := it.outstanding - 1 })) s
  s.retire k

/-- A queue flush (R178). -/
def Block.flushCore (s : Block) (c : Nat) : Block :=
  let s := (s.discardAsm c).flushAccepted c
  let s := (List.range 7).foldl (fun s e => s.flushQueue (qKey c e 0)) s
  s.endCall c

/-- The write of CORECTL (R176): one bit at most, and QFLUSH only when STOPPED or HELD. -/
def Block.writeCorectl (s : Block) (c v : Nat) : Option Block :=
  let st := s.fld (rC c 4) 1 0
  match v % 8 with
  | 0 => some s
  | 1 => some (s.stopCore c)
  | 2 => some (s.resumeCore c)
  | 4 => if st = 1 ∨ st = 2 then some (s.flushCore c) else none
  | _ => none

/-- `CORE_STOP` (R176). -/
def execCoreStop (req : Requester) (core : CoreId) (st : State) : Host.Outcome State Fault Refusal := st.act fun s =>
  .next (s.guarded req (rC core.val 0) 1 (fun s => s.writeCorectl core.val 1))

/-- `CORE_RESUME` (R174, R176). -/
def execCoreResume (req : Requester) (core : CoreId) (st : State) : Host.Outcome State Fault Refusal := st.act fun s =>
  .next (s.guarded req (rC core.val 0) 2 (fun s => s.writeCorectl core.val 2))

/-- `QFLUSH` (R176, R178). -/
def execQflush (req : Requester) (core : CoreId) (st : State) : Host.Outcome State Fault Refusal := st.act fun s =>
  .next (s.guarded req (rC core.val 0) 4 (fun s => s.writeCorectl core.val 4))

/-! ### Loading loop memory (R168) -/

/-- A half filled with empty lines. -/
def Block.emptyHalf (s : Block) (c h : Nat) : Block :=
  { s with loopMem := s.loopMem.dropRange (lmKey c h 0) (lmKey c (h + 1) 0) }

/-- An OPEN of a half: refused with LOOPMEM_BUSY, or the half becomes invalid, empty and open (R168 step 1). -/
def Block.openHalf (s : Block) (c h : Nat) (force : Bool) : Block :=
  if (h = s.lmActive c ∧ ¬ force) ∨ s.lmOpen c (1 - h) ∨ s.swapWaits c then s.orReg (rLm c) 0x20
  else ((s.setFld (rLm c) (1 + h) (1 + h) 0).setFld (rLm c) (3 + h) (3 + h) 1).emptyHalf c h

/-- Whether a loop-memory line is empty or a one-line bundle with a right LCHK (R167). -/
def bodyLineOk (l : Line) : Bool :=
  l == 0#512 || (hdr l 35 0 == 0 && hdr l 63 42 == 0 && hdr l 41 36 != 0 && bits l.toNat 479 448 == 0 && lchkOk l)

/-- The open half of a core, if one is. -/
def Block.openHalf? (s : Block) (c : Nat) : Option Nat :=
  if s.lmOpen c 0 then some 0 else if s.lmOpen c 1 then some 1 else none

/-- A CLOSE (R168 step 3). -/
def Block.closeHalf (s : Block) (c h : Nat) : Block :=
  let t := s.setFld (rLm c) (3 + h) (3 + h) 0
  match (List.range 512).find? (fun n => !(bodyLineOk (s.lmLine c h n))) with
  | none => t.setFld (rLm c) (1 + h) (1 + h) 1
  | some n => (t.orReg (rLm c) 0x40).setFld (rLm c) 15 7 n

/-- The write of LMCTL (R168, R179): OPEN with CLOSE is refused, and CLOSE with no half open has no effect. -/
def Block.writeLmctl (s : Block) (c v : Nat) : Option Block :=
  let s' := s.setRn (rC c 0x80) (v % 4)
  if bit v 2 && bit v 3 then none
  else if bit v 2 then some (s'.openHalf c (v % 2) (bit v 1))
  else if bit v 3 then some (match s.openHalf? c with
    | some h => s'.closeHalf c h
    | none => s')
  else some s'

/-- `LOOPMEM_OPEN` (R168). -/
def execLoopmemOpen (req : Requester) (core : CoreId) (halfB : Bool) (force : Bool) (st : State) :
    Host.Outcome State Fault Refusal := st.act fun s =>
  let v := b2n halfB + 2 * b2n force + 4
  .next (s.guarded req (rC core.val 0x80) v (fun s => s.writeLmctl core.val v))

/-- `LOOPMEM_CLOSE` (R168). -/
def execLoopmemClose (req : Requester) (core : CoreId) (st : State) : Host.Outcome State Fault Refusal := st.act fun s =>
  let v := s.rn (rC core.val 0x80) % 4 + 8
  .next (s.guarded req (rC core.val 0x80) v (fun s => s.writeLmctl core.val v))

/-- A word stored at LMADDR in the open half (R168 step 2). -/
def Block.lmStore (s : Block) (c v : Nat) : Option Block :=
  match s.openHalf? c with
  | none => none
  | some h =>
    let a := s.fld (rC c 0x88) 14 2 * 4
    some ({ s with loopMem := writeBytes s.loopMem (lmKey c h a) (leBytes v 4) }.setRn (rC c 0x88) ((a + 4) % 2 ^ 15))

/-- `LMDATA_WRITE` (R168). -/
def execLmdataWrite (req : Requester) (core : CoreId) (value : BitVec 32) (st : State) :
    Host.Outcome State Fault Refusal := st.act fun s =>
  .next (s.guarded req (rC core.val 0x8C) value.toNat (fun s => s.lmStore core.val value.toNat))

end Sys2Proof.Machine
end

