-- ==== Sys2Proof/Machine/Bus.lean ====
section
/-!
DEFINITION. Arbitration of a pillar's command bus: the urgency of a word and what a word waits for (11_pillar_controller.md,
R292, R293, R297, R298, R301, R309; R21, R107).
-/
namespace Sys2Proof.Machine

/-! ### Urgency (R292) -/

/-- Urgency of an ordinary request of age a, in ns, under TARGET t and PENUMBRA w (R292). -/
def ordinaryUrgency (t w a : Nat) : Nat :=
  if t ≤ a then 12 else if a + w < t then 0 else min 12 (max 1 (ceilDiv (12 * (a + w - t)) w))

/-- PIMURG.LEVEL. -/
def Block.pimLevel (s : Block) (p : Nat) : Nat := s.fld (rP p 0xA8) 3 0

/-- Age of a waiting word in ns. -/
def Block.ageOf (s : Block) (x : Waiting) : Nat := (s.cycle - x.since) * 2 / 3

/-- The banks a word addresses in the dies that the controller sends to. -/
def Block.wordTargets (s : Block) (p : Nat) (x : Waiting) : List (Nat × Nat) :=
  if actsOnBanks (wCmd x.word) then
    ((wordDies x.word x.sel).filter (fun d => s.sendsTo p d)).flatMap (fun d =>
      (wordBanks x.word x.sel).map (fun b => (d, b)))
  else []

/-- Whether a REFB is at its deadline: in a bank whose debt is 8, or in one that owes it to an urgent operation (R297,
R298). -/
def Block.atDeadline (s : Block) (p : Nat) (x : Waiting) : Bool :=
  (s.wordTargets p x).any (fun t => let u := s.blu (bankKey p t.1 t.2); u.debt == 8 || u.refOwed)

/-- One more than the urgency of a word; 0 for a REFB that is sent only in a slot that carries nothing else (R292). A word
of the controller's own that the table does not name, SELECT among them, is sent as soon as it comes (DESIGN CHOICE, log
entry 119). -/
def Block.rank (s : Block) (p : Nat) (x : Waiting) : Nat :=
  let level := 1 + s.pimLevel p
  let c := wCmd x.word
  if c = 0x05 then (if s.atDeadline p x then 15 else 0)
  else if 0x10 ≤ c then (if wLane x.word = 1 then 14 else level)
  else if 1 ≤ c ∧ c ≤ 4 then
    (match x.src with
     | .port q => 1 + ordinaryUrgency (s.fld (rP p (0x80 + 4 * q.val)) 15 0) (s.fld (rP p (0x80 + 4 * q.val)) 31 16) (s.ageOf x)
     | .normal => level
     | .urgent => 14)
  else 16

/-! ### What a word waits for -/

/-- Whether two words come from one stream: the words of one stream reach a bank in the order in which they came. -/
def sameStream (x y : Waiting) : Bool :=
  let key := fun (z : Waiting) => if wCmd z.word ≤ 4 then z.src else if wLane z.word = 1 then .urgent else .normal
  key x == key y

/-- Whether two words address a bank in common. -/
def meetsWord (x y : Waiting) : Bool :=
  (wordDies x.word x.sel).any (fun d => (wordDies y.word y.sel).contains d) &&
    (wordBanks x.word x.sel).any (fun b => (wordBanks y.word y.sel).contains b)

/-- Whether a word is one of those that entries 56 to 63 are kept for (R301). -/
def Block.privileged (s : Block) (p : Nat) (x : Waiting) : Bool :=
  (decide (0x10 ≤ wCmd x.word) && wLane x.word == 1) || (decide (wCmd x.word ≤ 2) && x.src == .urgent) ||
    (wCmd x.word == 0x05 && s.atDeadline p x)

/-- Whether the shadow-ring entry that a word's TAG names is free and of its kind (R301). -/
def Block.entryFree (s : Block) (p : Nat) (x : Waiting) : Bool :=
  !((s.pillar p).ring.any (fun e => e.tag == wTag x.word)) && (decide (wTag x.word < 56) || s.privileged p x)

/-- REFB in progress in a die (R291, R297). -/
def Block.refreshing (s : Block) (p d : Nat) : Nat :=
  (s.blus.filter (fun x => decide (x.1 / 256 = 17 * p + d) && decide (s.cycle < x.2.refUntil))).length

/-- Whether a REFB before its deadline may be placed in a bank: the bank owes a refresh and holds no RUN, or it is dark,
with no request pending, no operation bound, room above −PULLMAX and its group awake; and the die has fewer than REFMAX in
progress (R297, R300). -/
def Block.refreshPlace (s : Block) (p d b : Nat) : Bool :=
  let u := s.blu (bankKey p d b)
  let owed := decide (1 ≤ u.debt) && u.run.isNone && u.urun.isNone
  let asked := (s.pillar p).waiting.any (fun x => (match x.src with
    | .port _ => decide (wCmd x.word ≤ 4) && (s.wordTargets p x).contains (d, b)
    | _ => false))
  let pulled := !u.lit && !asked && u.op.isNone && u.uop.isNone &&
    decide (-(s.fld (rP p 0x100) 3 0 : Int) < u.debt) && !(s.groupDown p (d / 4))
  (owed || pulled) && decide (s.refreshing p d < s.fld (rP p 0x100) 8 4)

/-- Whether a word may act in one bank now: a refresh at its deadline goes first (R21, R297), an owed one before the urgent
ACT and RUN (R298), no normal-lane word while an urgent operation is bound (R107), no ordinary command in an urgent RUN, and
one in a normal RUN only above PIMURG.LEVEL (R293). -/
def Block.bankReady (s : Block) (p : Nat) (x : Waiting) (d b : Nat) : Bool :=
  let u := s.blu (bankKey p d b)
  let c := wCmd x.word
  if c = 0x05 then u.urun.isNone && (u.debt == 8 || u.refOwed || s.refreshPlace p d b)
  else if u.debt = 8 then false
  else if c ≤ 4 then
    (match x.src with
     | .port _ => u.urun.isNone && (u.run.isNone || decide (1 + s.pimLevel p < s.rank p x))
     | .normal => u.uop.isNone
     | .urgent => !u.refOwed)
  else if wLane x.word = 1 then !(c == 0x12 && u.refOwed) else u.uop.isNone

/-- Whether a switch of the spare holds a word back: an ARM to the die from SWITCHING on, and in FINAL what writes the die
(R309); a write by WR waits in SWITCHING too (DESIGN CHOICE, log entry 116). -/
def Block.switchHolds (s : Block) (p : Nat) (x : Waiting) : Bool :=
  let st := s.fld (rP p 0x194) 2 0
  let c := wCmd x.word
  let here := (wordDies x.word x.sel).contains (s.fld (rP p 0x190) 3 0)
  here && ((st == 3 && (c == 0x10 || (c == 0x18 && (s.pillar p).arm.isNone) || c == 4)) ||
    (st == 2 && (c == 4 || (c == 0x12 && wf x.word 27 26 != 0))))

/-- Whether a word can be sent but for its entry in the shadow ring; `before` came earlier. -/
def Block.wordReady (s : Block) (p : Nat) (before : List Waiting) (x : Waiting) : Bool :=
  !(s.switchHolds p x) && !(before.any (fun y => sameStream y x && meetsWord y x)) &&
    (s.wordTargets p x).all (fun t => s.bankReady p x t.1 t.2)

/-- Whether an ARMX completes the ARM that was sent last: nothing comes between the two (R287). -/
def Block.completes (s : Block) (p : Nat) (x : Waiting) : Bool :=
  match (s.pillar p).arm with
  | some a => wCmd x.word == 0x18 && sameTarget a x.word
  | none => false

/-- Whether word x goes before word y: the higher urgency first, then the older request, then the lower port; refreshes
that no slot is reserved for go in ascending bank order (R292, R297). -/
def Block.goesBefore (s : Block) (p : Nat) (x y : Waiting) : Bool :=
  let port := fun (z : Waiting) => match z.src with
    | .port q => q.val
    | _ => 9
  let bank := fun (z : Waiting) => 256 * wDie z.word + wBank z.word
  let rx := if s.completes p x then 17 else s.rank p x
  let ry := if s.completes p y then 17 else s.rank p y
  if rx != ry then decide (ry < rx)
  else if rx = 0 then decide (bank x < bank y)
  else if x.since != y.since then decide (x.since < y.since)
  else decide (port x < port y)

/-- The words that could be sent now, with their positions, among those that wait: `full` says whether a word that only
lacks its shadow-ring entry is meant instead. -/
def Block.sendable (s : Block) (p : Nat) (full : Bool) (before : List Waiting) : List Waiting → List (Nat × Waiting)
  | [] => []
  | x :: t =>
    let rest := s.sendable p full (before ++ [x]) t
    if s.wordReady p before x && (s.entryFree p x != full) then (before.length, x) :: rest else rest

/-- The next word the controller sends: of the words that are ready, the one that goes first (R292). -/
def Block.nextWord (s : Block) (p : Nat) : Option (Nat × Waiting) :=
  (s.sendable p false [] (s.pillar p).waiting).foldl (fun best x => match best with
    | none => some x
    | some y => if s.goesBefore p x.2 y.2 then some x else some y) none

/-- Words of pillar p that wait although they have, or need, no shadow-ring entry: what CMDWAIT counts (R292, R309). -/
def Block.heldWords (s : Block) (p : Nat) : Nat :=
  ((s.pillar p).waiting.filter (fun x => !((s.pillar p).ring.any (fun e => e.tag == wTag x.word)))).length

/-- Whether a word of pillar p waits for its shadow-ring entry (R301). -/
def Block.ringHolds (s : Block) (p : Nat) : Bool := !(s.sendable p true [] (s.pillar p).waiting).isEmpty

end Sys2Proof.Machine
end

