-- ==== Sys2Proof/Machine/Pillar.lean ====
section
/-!
DEFINITION. Pillar controllers: command words sent, the shadow ring and parity replay, dies, refresh and power-down
(11_pillar_controller.md, R286-R303).
-/
namespace Sys2Proof.Machine

/-! ### Words that a die refuses (R286-R288, R290) -/

/-- Parity of n bits of x from bit a on. -/
def parityOf (x a : Nat) : Nat → Nat
  | 0 => 0
  | n + 1 => (parityOf x a n + (x >>> (a + n)) % 2) % 2

/-- The word with right parity (R286). -/
def fixParity (w : DWord) : DWord :=
  let x := w.toNat % 2 ^ 62
  BitVec.ofNat 64 (x + parityOf x 0 31 <<< 62 + parityOf x 31 31 <<< 63)

/-- Whether the parity bits are right. -/
def parityOk (w : DWord) : Bool := w == fixParity w

/-- Payload bits a command names (R288), as a mask of the word. -/
def payloadMask (w : DWord) : Nat :=
  let f := fun hi lo => (2 ^ (hi + 1 - lo) - 1) <<< lo
  match wCmd w with
  | 0x01 => f 39 26
  | 0x02 => f 27 26
  | 0x03 => f 32 26
  | 0x04 => f 32 26
  | 0x06 => f 58 26
  | 0x07 => f 30 26
  | 0x08 => f 30 26
  | 0x0B => f 31 26
  | 0x10 => f 58 26
  | 0x18 => f 37 26
  | 0x11 => f 41 26
  | 0x12 => (match wf w 27 26 with
    | 0 => f 34 26 + f 55 35
    | 1 => f 31 26
    | _ => f 39 26)
  | 0x17 => f 29 26
  | _ => 0

/-- Whether MCAST is allowed (R287). -/
def mcastOk (c : Nat) : Bool := c == 1 || c == 2 || c == 5 || decide (0x10 ≤ c)

/-- Whether a command code is defined (R287). -/
def cmdDefined (c : Nat) : Bool := decide (c ≤ 0x0B) || (decide (0x10 ≤ c) && decide (c ≤ 0x18))

/-- A reserved value in a payload field (R288; DEDUCED, log entry 24). -/
def badPayload (w : DWord) : Bool :=
  match wCmd w with
  | 0x01 => decide (6144 ≤ wf w 38 26)
  | 0x02 => wf w 27 26 == 0
  | 0x10 => decide (5 ≤ wf w 44 42) || decide (8 ≤ wf w 31 28) || decide (8 ≤ wf w 35 32)
  | 0x11 => wf w 27 26 == 3 || (wf w 27 26 == 2 && wf w 41 28 != 0)
  | 0x12 => wf w 27 26 == 3 || (wf w 27 26 == 1 && decide (6 ≤ wf w 30 28))
  | 0x17 => decide (5 ≤ wf w 29 26)
  | _ => false

/-- Whether a die that receives the word executes nothing of it (R290), its place after an ARM aside. -/
def badWord (w : DWord) : Bool :=
  !(parityOk w) || !(cmdDefined (wCmd w)) || (wMcast w && (!(mcastOk (wCmd w)) || wDie w != 0 || wBank w != 0)) ||
    decide (17 ≤ wDie w) || (wLane w != 0 && decide (wCmd w < 0x10)) ||
    (w.toNat % 2 ^ 62) >>> 26 <<< 26 &&& payloadMask w != (w.toNat % 2 ^ 62) >>> 26 <<< 26 || badPayload w

/-- Whether the controller of a pillar sends words at all. -/
def Block.pillarOn (s : Block) (p : Nat) : Bool := s.domOn (51 + p) && s.domOn (67 + p) &&
  (s.fld (rP p 0) 2 0 == 3 || s.fld (rP p 0) 2 0 == 2)

/-! ### Execution in one die -/

/-- A word's action in one bank; for an ordinary command a normal RUN there gives way first (R293). -/
def Block.bankWord (s : Block) (x : BankAt) (w : DWord) (e : Shadow) : Block :=
  let lane := wLane w
  let s := if 1 ≤ wCmd w ∧ wCmd w ≤ 4 then s.giveWay x e.src else s
  match wCmd w with
  | 0x01 => s.bankAct x w
  | 0x02 => s.bankPre x w
  | 0x03 => s.bankRead x w
  | 0x04 => s.bankWrite x w (e.data.headD 0#256) e.check
  | 0x05 => s.bankRefresh x
  | 0x11 => s.bluFeed x lane w e.data
  | 0x12 => s.bluRun x lane w e.data e.upto
  | 0x13 => s.bluPark x lane
  | 0x14 => s.bluResume x lane e.upto
  | 0x15 => s.bluDrain x lane
  | 0x16 => s.bluAbort x lane
  | 0x17 => s.bluStest x lane w (e.upto != 0)
  | _ => s

/-- HOT of a die after a reading (R299). -/
def hotAfter (hot : Bool) (t : Nat) : Bool := if 85 < t then true else if t < 83 then false else hot

/-- The highest die reading of the module, and whether a trip limit is reached (R378, R379). -/
def Block.heatCheck (s : Block) : Block :=
  let dies := (List.range 16).flatMap (fun p => (List.range 17).map (fun d => s.fld (rDie p d) 17 10))
  let s := s.setFld (rEv 0xB0) 15 8 (dies.foldl max 0)
  if 105 ≤ s.fld (rEv 0xB0) 7 0 ∨ 95 ≤ s.fld (rEv 0xB0) 15 8 then { s with beat := { s.beat with tripDue := true } }
  else s

/-- A temperature reading of a die (R299). -/
def Block.dieTemp (s : Block) (p d t : Nat) : Block :=
  let hot := hotAfter (s.fld (rDie p d) 4 4 == 1) t
  ((s.setFld (rDie p d) 17 10 t).setFld (rDie p d) 4 4 (b2n hot)).heatCheck

/-- The identity word that a die in working order answers: 0x5A17, its position, and bits that the spec does not state
(R287, R305; DESIGN CHOICE, log entry 126). -/
def Block.answerId (s : Block) (p d : Nat) : Block :=
  let (x, s) := s.draw
  s.onPillar p (fun q => { q with identity := some (BitVec.ofNat 32 (0x5A17 + d <<< 16 + (x % 2 ^ 11) <<< 21)) })

/-- The dies of a word's own that wake their groups for it: those a SELECT names, and every die of any other word but PDE
(R300). -/
def wakes (w : DWord) (d : Nat) : Bool :=
  if wCmd w = 0x06 then bit (wf w 42 26) d else wCmd w != 0x07

/-- A word's action in a die that takes it: a powered-down group wakes first (R300). -/
def Block.dieWord (s : Block) (p d : Nat) (w : DWord) (sel : Sel) (arm : Option DWord) (e : Shadow) : Block :=
  let banks := wordBanks w sel
  let s := if wakes w d then s.wakeDie p d else s
  match wCmd w with
  | 0x06 => s
  | 0x07 => s.setGroup p (d / 4) 1
  | 0x08 => s
  | 0x09 => s.answerId p d
  | 0x0A => s.dieTemp p d e.upto
  | 0x0B => s
  | 0x10 => s
  | 0x18 =>
    (match arm with
     | some a => banks.foldl (fun s b => s.bluArm ⟨p, d, b⟩ (wLane w) a w) s
     | none => s)
  | _ => banks.foldl (fun s b => s.bankWord ⟨p, d, b⟩ w e) s

/-- A die fails a word: it discards every word until an RSYNC, and the entry remembers it (R290, R302). -/
def Block.dieFails (s : Block) (p d tag : Nat) : Block :=
  s.onPillar p (fun q => { q with
    discarding := if q.discarding.contains d then q.discarding else q.discarding ++ [d]
    ring := q.ring.map (fun e => if e.tag = tag then { e with failed := e.failed ++ [d] } else e) })

/-- A word received by one die (R287, R290): RSYNC ends its discarding; a bad word, or one that breaks the pair of ARM
and ARMX, starts it. -/
def Block.dieReceive (s : Block) (p d : Nat) (w : DWord) (bad : Bool) (arm : Option DWord) (e : Shadow) : Block :=
  if wCmd w = 0x0B ∧ ¬ bad then s.onPillar p (fun q => { q with discarding := q.discarding.filter (· != d) })
  else if (s.pillar p).discarding.contains d then s
  else if bad then s.dieFails p d e.tag
  else s.dieWord p d w e.sel arm e

/-! ### Sending (R301, R303, R313) -/

/-- The selection after a word. -/
def selAfter (sel : Sel) (w : DWord) : Sel :=
  if wCmd w = 0x06 then ⟨wf w 42 26, wf w 50 43, wf w 58 51⟩ else sel

/-- An ARM without its ARMX: the dies it addressed fail it (R290). -/
def Block.armBroken (s : Block) (p : Nat) (a : DWord) (sel : Sel) : Block :=
  (wordDies a sel).foldl (fun s d =>
    if s.sendsTo p d && !((s.pillar p).discarding.contains d) then s.dieFails p d (wTag a) else s) s

/-- A word delivered to the dies it addresses. -/
def Block.deliver (s : Block) (p : Nat) (w : DWord) (bad : Bool) (arm : Option DWord) (e : Shadow) : Block :=
  ((wordDies w e.sel).filter (fun d => s.sendsTo p d)).foldl (fun s d => s.dieReceive p d w bad arm e) s

/-- A word sent by the controller: it takes its shadow-ring entry and reaches its dies (R301). A word that arrives with
wrong parity is one whose parity bits were spoiled on the way: the entry holds it with right parity (DESIGN CHOICE, log
entry 25). The ticket an ARMX carries is that of its ARM too. -/
def Block.transmit (s : Block) (p : Nat) (x : Waiting) : Block :=
  let w := x.word
  let q := s.pillar p
  let tk := s.ticketOf p w x.sel
  let e : Shadow := ⟨wTag w, fixParity w, x.data, x.check, x.upto, x.sel, x.src, tk, [], []⟩
  let s := s.bump48 (rP p 0x140) 1
  let pair := match q.arm with
    | some a => wCmd w == 0x18 && sameTarget a w && !(badWord w)
    | none => wCmd w != 0x18
  let s := match q.arm with
    | some a => if pair then s else s.armBroken p a x.sel
    | none => s
  let bad := badWord w || (wCmd w == 0x18 && !(pair && q.arm.isSome))
  let own := fun (y : Shadow) => match q.arm with
    | some a => if wCmd w = 0x18 ∧ y.tag = wTag a ∧ wCmd y.word = 0x10 then { y with ticket := tk } else y
    | none => y
  let s := s.onPillar p (fun q =>
    { q with ring := q.ring.map own ++ [e], sel := selAfter q.sel (fixParity w),
             arm := if wCmd w = 0x10 ∧ ¬ badWord w then some w else none })
  s.deliver p w bad q.arm e

/-- Whether every bank that a word addresses finds it due in its operation's sequence (R125-R130, R138). -/
def Block.wordDue (s : Block) (p : Nat) (x : Waiting) : Bool :=
  let ts := s.wordTargets p x
  ts.all (fun t => s.bankDue p t.1 t.2 (s.pillar p).arm x.word x.data (ts.map (fun t => s.gbidOf p t.1 t.2)))

/-- Whether a group meets the conditions of R300 for power-down: its bit in EN, every bank closed, no unit RUNNING or
DRAINING, and no word to it in the shadow ring or waiting. -/
def Block.groupIdle (s : Block) (p g : Nat) : Bool :=
  let ds := groupDies (2 ^ g)
  let busy := s.blus.any (fun x => decide (x.1 / 256 / 17 = p) && ds.contains (x.1 / 256 % 17) &&
    (x.2.rb0.isSome || x.2.rb1.isSome || x.2.run.isSome || x.2.urun.isSome || x.2.st == 3 || x.2.st == 5 ||
      x.2.udrain))
  let names := fun (w : DWord) (sel : Sel) => (wordDies w sel).any (fun d => ds.contains d)
  let words := (s.pillar p).ring.any (fun e => names e.word e.sel) || (s.pillar p).waiting.any (fun e => names e.word e.sel)
  bit (s.rn (rP p 0xB0)) g && !busy && !words

/-- Whether the spare's group is kept awake by a switch in progress (R300). -/
def Block.spareAwake (s : Block) (p : Nat) : Bool :=
  let st := s.fld (rP p 0x194) 2 0
  decide (1 ≤ st) && decide (st ≤ 3)

/-- Whether the controller sends PDE: every group it names meets the conditions (R300). -/
def Block.pdeDue (s : Block) (p : Nat) (w : DWord) : Bool :=
  (List.range 5).all (fun g => !(bit (wf w 30 26) g) || (s.groupIdle p g && !(g == 4 && s.spareAwake p)))

/-- Whether the controller sends a word that it is given at all: a PIM word is one of its operation's sequence, and a PDE
finds its groups idle; any other is not sent (DESIGN CHOICE, log entry 118). -/
def Block.sent (s : Block) (p : Nat) (x : Waiting) : Bool :=
  s.wordDue p x && (wCmd x.word != 0x07 || s.pdeDue p x.word)

/-- The next word that waits in pillar p leaves: it is sent, or dropped where the controller makes no such word; an ARM
that is not due takes its ARMX with it. -/
def Block.leave (s : Block) (p : Nat) (i : Nat) (x : Waiting) : Block :=
  let s := s.onPillar p (fun q => { q with waiting := q.waiting.eraseIdx i })
  if s.sent p x then s.transmit p x
  else if wCmd x.word = 0x18 then s.onPillar p (fun q => { q with arm := none }) else s

/-- The controller sends the words that are ready, in the order of their urgency; after an ARM only its ARMX (R287, R292).
-/
def Block.sendReady (s : Block) (p : Nat) : Nat → Block
  | 0 => s
  | n + 1 =>
    match s.nextWord p with
    | none => s
    | some (i, x) =>
      let s := s.leave p i x
      if (s.pillar p).arm.isSome then s else s.sendReady p n

/-- The words that wait in pillar p are sent as far as they are ready. -/
def Block.serve (s : Block) (p : Nat) : Block :=
  if s.pillarOn p then s.sendReady p (s.pillar p).waiting.length else s

/-- A word reaches the controller and is sent with the words that are ready; one that is not ready waits (R292, R301).
The selection a waiting word acts on is the one in force when it came (DESIGN CHOICE, log entry 119). -/
def Block.sendWord (s : Block) (p : Nat) (src : BusSource) (w : DWord) (data : List Column) (check : BitVec 32)
    (upto : Nat) : Block :=
  if s.pillarOn p then
    let last := ((s.pillar p).waiting.filter (fun x => wCmd x.word == 0x06)).getLast?
    let sel := match last with
      | some y => selAfter y.sel (fixParity y.word)
      | none => (s.pillar p).sel
    let x : Waiting := ⟨w, data, check, upto, src, s.cycle, sel⟩
    (s.onPillar p (fun q => { q with waiting := q.waiting ++ [x] })).serve p
  else s

/-! ### UNRESP (R303, R315) -/

/-- BODY of a DIE event (R522). -/
def Block.dieBody (s : Block) (p d cause : Nat) (w : DWord) : Nat :=
  s.rn (rDie p d) + p <<< 32 + d <<< 40 + cause <<< 48 + w.toNat <<< 64

/-- Every bank operation with banks on a die faults with FLT_PC_DIE (R303, R315). -/
def Block.opsOnDie (s : Block) (p d : Nat) : Block :=
  (s.ops.map Prod.fst).foldl (fun s t =>
    match s.op? t with
    | none => s
    | some o =>
      match o.banks.find? (fun g => (s.physBank g).1 == p && (s.physBank g).2.1 == d) with
      | some g => s.opFault t 0x81 (g + d <<< 16)
      | none => s) s

/-- A die becomes UNRESP: nothing is re-sent to it any more (R303). -/
def Block.markUnresp (s : Block) (p d cause : Nat) (w : DWord) : Block :=
  if s.unresp p d then s
  else
    let s := s.setFld (rDie p d) 3 3 1
    let s := s.onPillar p (fun q => { q with
      discarding := q.discarding.filter (· != d)
      ring := q.ring.map (fun e => { e with failed := e.failed.filter (· != d) }) })
    let s := (s.logEvent 0x20 (unitDie p d) (s.dieBody p d cause w)).failPart (.die (17 * p + d))
    s.opsOnDie p d

/-! ### Parity replay (R302) -/

/-- Words re-sent to one die, in their original order, each in a command slot of its own (DEDUCED, log entry 53); `spoilt` says which of them arrive with
wrong parity again, and a word the die fails again keeps the ones after it from it. -/
def Block.resend (s : Block) (p d : Nat) (arm : Option DWord) (spoilt : List Bool) : List Shadow → Block
  | [] => s
  | e :: t =>
    let s := (s.bump32 (rP p 0x124) 1).bump48 (rP p 0x140) 1
    let pair := match arm with
      | some a => wCmd e.word == 0x18 && sameTarget a e.word
      | none => false
    let bad := spoilt.headD false || badWord e.word || (wCmd e.word == 0x18 && !pair) ||
      (wCmd e.word == 0x10 && !(match t with
        | n :: _ => wCmd n.word == 0x18 && sameTarget e.word n.word && !(badWord n.word) && !(spoilt.tail.headD false)
        | [] => (s.pillar p).arm.isSome))
    let s := s.dieReceive p d e.word bad arm e
    s.resend p d (if wCmd e.word = 0x10 ∧ ¬ bad then some e.word else none) spoilt.tail t

/-- Whether an issued entry of a transfer engine holds a descriptor whose memory includes a bank. -/
def Entry.reaches (en : Entry) (g : Nat) : Bool :=
  en.stage == .issued && en.descs.any (fun d => dSpace d.toNat == 1 && (memberOf? d.toNat g).isSome)

/-- The transfer that an RD or WR of port q for bank g belongs to fails: the oldest issued entry of LDE, else of STE, that
reaches the bank (R315). The words do not carry their transfer (DESIGN CHOICE, log entry 125). -/
def Block.transferFault (s : Block) (q g code detail : Nat) : Block :=
  let at_ := [(4, 0), (4, 1), (5, 0), (5, 1)].filterMap (fun (e, l) =>
    let k := s.queue (qKey q e l)
    match k.findIdx? (fun en => en.reaches g) with
    | none => none
    | some i => (k[i]?).map (fun en => (e, l, i, en)))
  match at_.head? with
  | some (e, l, i, en) => s.faultEntry q e l i en code detail
  | none => s

/-- FLT_PC_PARITY: the word's bank operation or transfer faults (R315). -/
def Block.parityFault (s : Block) (p d : Nat) (e : Shadow) (t : List Shadow) : Block :=
  match s.wordTicket p d (pairWord e t) e.sel with
  | some (tk, g) => s.opFault tk 0x80 (g + (wCmd e.word) <<< 16)
  | none => match e.src with
    | .port q => if q.val = 8 then s else
        let g := s.gbidOf p d (wBank e.word)
        s.transferFault q.val g 0x80 (g + (wCmd e.word) <<< 16)
    | _ => s

/-- No failure. -/
def noFails (_ : Nat) : Nat := 0

/-- The alert of a die: the first word it failed is counted; at the limit the die is UNRESP and the word's operation or
transfer faults with FLT_PC_PARITY, else RSYNC, the word's selection as a SELECT, and the words from that one on are sent
to it (R302, R303, R315). -/
def Block.parityAlert (s : Block) (p d : Nat) (spoilt : List Bool) : Block :=
  let q := s.pillar p
  if !(s.pillarOn p) || !(s.sendsTo p d) || !(q.discarding.contains d) then s
  else
    let s := s.bump32 (rP p 0x120) 1
    match q.ring.dropWhile (fun e => !(e.failed.contains d)) with
    | [] => s.onPillar p (fun q => { q with discarding := q.discarding.filter (· != d) })
    | e :: t =>
      let n := e.fails.get noFails d + 1
      let s := s.onPillar p (fun q => { q with
        discarding := q.discarding.filter (· != d)
        ring := q.ring.map (fun x => if x.tag = e.tag then
          { x with failed := x.failed.filter (· != d), fails := x.fails.set noFails d n } else x) })
      if s.fld (rP p 0x128) 2 0 ≤ n then ((s.parityFault p d e t).markUnresp p d 1 e.word).settleAll
      else
        let sent := (e :: t).filter (fun x => (wordDies x.word x.sel).contains d)
        ((s.bump48 (rP p 0x140) 2).resend p d none spoilt sent).settleAll

/-! ### Commands -/

/-- A word of the row's own command, its data of the length it needs; any other word is no command of that row. -/
def Block.wordRow (s : Block) (c : Nat) (pillar : PillarId) (src : BusSource) (word : DWord) (ok : Bool) (data : List Column)
    (check : BitVec 32) (upto : Nat) : Host.Outcome Block Fault Refusal :=
  if wCmd word = c ∧ ok then .next (s.sendWord pillar.val src word data check upto)
  else .fault (.illFormed "pillar word")

/-- `ARM` (R89, R288): takes effect with its ARMX (R290). -/
def execArm (pillar : PillarId) (word : BitVec 64) (st : State) : Host.Outcome State Fault Refusal := st.act fun s =>
  s.wordRow 0x10 pillar .normal word true [] 0#32 0

/-- `ARMX` (R288). -/
def execArmx (pillar : PillarId) (word : BitVec 64) (st : State) : Host.Outcome State Fault Refusal := st.act fun s =>
  s.wordRow 0x18 pillar .normal word true [] 0#32 0

/-- `FEED` (R89, R96). -/
def execFeed (pillar : PillarId) (word : BitVec 64) (data : List (BitVec 256)) (st : State) :
    Host.Outcome State Fault Refusal := st.act fun s =>
  s.wordRow 0x11 pillar .normal word (decide (data.length = wf word 41 35 + 1)) data 0#32 0

/-- Columns of data a RUN carries (R288, R301). -/
def runData (w : DWord) : Nat :=
  match wf w 27 26 with
  | 1 => if wf w 30 28 = 0 then 1 else 0
  | 2 => wf w 39 34 + 1
  | _ => 0

/-- `RUN` (R89, R94): its columns are read as far as `upto`. -/
def execRun (pillar : PillarId) (word : BitVec 64) (data : List (BitVec 256)) (upto : Nat) (st : State) :
    Host.Outcome State Fault Refusal := st.act fun s =>
  s.wordRow 0x12 pillar .normal word (decide (data.length = runData word)) data 0#32 upto

/-- `ROW_END` (R103). -/
def execRowEnd (pillar : PillarId) (die : DieId) (bank : BankId) (lane : Lane) (st : State) :
    Host.Outcome State Fault Refusal := st.act fun s =>
  .next (if s.pillarOn pillar.val then s.bluRowEnd ⟨pillar.val, die.val, bank.val⟩ lane.num else s)

/-- `PARK` (R105). -/
def execPark (pillar : PillarId) (word : BitVec 64) (st : State) : Host.Outcome State Fault Refusal := st.act fun s =>
  s.wordRow 0x13 pillar .normal word true [] 0#32 0

/-- `RESUME` (R106). -/
def execResume (pillar : PillarId) (word : BitVec 64) (upto : Nat) (st : State) : Host.Outcome State Fault Refusal := st.act fun s =>
  s.wordRow 0x14 pillar .normal word true [] 0#32 upto

/-- `DRAIN` (R89). -/
def execDrain (pillar : PillarId) (word : BitVec 64) (st : State) : Host.Outcome State Fault Refusal := st.act fun s =>
  s.wordRow 0x15 pillar .normal word true [] 0#32 0

/-- `ABORT` (R89). -/
def execAbort (pillar : PillarId) (word : BitVec 64) (st : State) : Host.Outcome State Fault Refusal := st.act fun s =>
  s.wordRow 0x16 pillar .normal word true [] 0#32 0

/-- `STEST` (R483). -/
def execStest (pillar : PillarId) (word : BitVec 64) (pass : Bool) (st : State) : Host.Outcome State Fault Refusal := st.act fun s =>
  s.wordRow 0x17 pillar .normal word true [] 0#32 (b2n pass)

/-- `COLUMN_BOUNDARY_STOP`: a normal RUN stops and parks (R105). -/
def execColumnBoundaryStop (pillar : PillarId) (die : DieId) (bank : BankId) (st : State) :
    Host.Outcome State Fault Refusal := st.act fun s =>
  .next (s.parkBank ⟨pillar.val, die.val, bank.val⟩)

/-- `URGENT_RUN_STOP` (R108). -/
def execUrgentRunStop (pillar : PillarId) (die : DieId) (bank : BankId) (st : State) :
    Host.Outcome State Fault Refusal := st.act fun s =>
  .next (s.onBlu ⟨pillar.val, die.val, bank.val⟩ Blu.stopUrgent)

/-- `ACT` (R287). -/
def execAct (pillar : PillarId) (word : BusWord) (st : State) : Host.Outcome State Fault Refusal := st.act fun s =>
  s.wordRow 0x01 pillar word.src word.word true [] 0#32 0

/-- `PRE` (R287). -/
def execPre (pillar : PillarId) (word : BusWord) (st : State) : Host.Outcome State Fault Refusal := st.act fun s =>
  s.wordRow 0x02 pillar word.src word.word true [] 0#32 0

/-- `RD` (R287, R93). -/
def execRd (pillar : PillarId) (word : BusWord) (st : State) : Host.Outcome State Fault Refusal := st.act fun s =>
  s.wordRow 0x03 pillar word.src word.word word.src.ordinary [] 0#32 0

/-- `WR` (R287). -/
def execWr (pillar : PillarId) (word : BusWord) (data : BitVec 256) (check : BitVec 32) (st : State) :
    Host.Outcome State Fault Refusal := st.act fun s =>
  s.wordRow 0x04 pillar word.src word.word word.src.ordinary [data] check 0

/-- `REFB` (R296). -/
def execRefb (pillar : PillarId) (word : BitVec 64) (st : State) : Host.Outcome State Fault Refusal := st.act fun s =>
  s.wordRow 0x05 pillar .normal word true [] 0#32 0

/-- `SELECT` (R289). -/
def execSelect (pillar : PillarId) (word : BitVec 64) (st : State) : Host.Outcome State Fault Refusal := st.act fun s =>
  s.wordRow 0x06 pillar .normal word true [] 0#32 0

/-- `PDE` (R300). -/
def execPde (pillar : PillarId) (word : BitVec 64) (st : State) : Host.Outcome State Fault Refusal := st.act fun s =>
  s.wordRow 0x07 pillar .normal word true [] 0#32 0

/-- `PDX` (R300). -/
def execPdx (pillar : PillarId) (word : BitVec 64) (st : State) : Host.Outcome State Fault Refusal := st.act fun s =>
  s.wordRow 0x08 pillar .normal word true [] 0#32 0

/-- `IDRD` (R287, R305). -/
def execIdrd (pillar : PillarId) (word : BitVec 64) (st : State) : Host.Outcome State Fault Refusal := st.act fun s =>
  s.wordRow 0x09 pillar .normal word true [] 0#32 0

/-- `TMRD` (R299). -/
def execTmrd (pillar : PillarId) (word : BitVec 64) (celsius : BitVec 8) (st : State) :
    Host.Outcome State Fault Refusal := st.act fun s =>
  s.wordRow 0x0A pillar .normal word true [] 0#32 celsius.toNat

/-- `RSYNC` (R302). -/
def execRsync (pillar : PillarId) (word : BitVec 64) (st : State) : Host.Outcome State Fault Refusal := st.act fun s =>
  s.wordRow 0x0B pillar .normal word true [] 0#32 0

/-- `PARITY_ALERT` (R302, R303): `spoilt` says which of the re-sent words are damaged on the way again (DESIGN CHOICE, log
entry 25). -/
def execParityAlert (pillar : PillarId) (die : DieId) (spoilt : List Bool) (st : State) :
    Host.Outcome State Fault Refusal := st.act fun s =>
  .next (s.parityAlert pillar.val die.val spoilt)

/-- `RD_TIMEOUT`: the RD last sent to the die has no answer (R303); a die that has been sent none is as it was. -/
def execRdTimeout (pillar : PillarId) (die : DieId) (st : State) : Host.Outcome State Fault Refusal := st.act fun s =>
  let w := ((s.pillar pillar.val).ring.filter (fun e =>
    wCmd e.word == 0x03 && (wordDies e.word e.sel).contains die.val)).getLast?
  .next (match w with
    | some e => if s.pillarOn pillar.val then s.markUnresp pillar.val die.val 2 e.word else s
    | none => s)

/-- `SHADOW_ENTRY_RETURN`: an entry that no die has failed returns (R301). -/
def execShadowEntryReturn (pillar : PillarId) (tag : BitVec 6) (st : State) : Host.Outcome State Fault Refusal := st.act fun s =>
  .next (s.onPillar pillar.val (fun q =>
    { q with ring := q.ring.filter (fun e => e.tag != tag.toNat || !(e.failed.isEmpty)) }))

/-- Every bank of a group with debt 1 or more is refreshed (R300): one REFB each, in ascending order. -/
def Block.refreshGroup (s : Block) (p g : Nat) : Block :=
  let banks := ((groupDies (2 ^ g)).filter (fun d => s.sendsTo p d)).flatMap (fun d =>
    (List.range 256).map (fun b => (⟨p, d, b⟩ : BankAt)))
  (banks.filter (fun x => decide (1 ≤ (s.bluAt x).debt))).foldl
    (fun s x => (s.bump48 (rP p 0x140) 1).bankRefresh x) s

/-- The debt of a bank rises (R296, R297, R300): an UNRESP die's refresh is counted as missed, MAXDEBT follows, and a
powered-down group in service wakes at debt 4 and makes up its refreshes. -/
def Block.debtTick (s : Block) (x : BankAt) : Block :=
  let n := min ((s.bluAt x).debt + 1) 8
  let s := s.onBlu x (fun u => { u with debt := n, refiAt := s.cycle })
  let s := if s.unresp x.p x.d then s.bump32 (rP x.p 0x110) 1 else s
  let s := s.setFld (rP x.p 0x104) 3 0 (max (s.fld (rP x.p 0x104) 3 0) n.toNat)
  if 4 ≤ n ∧ s.groupDown x.p (x.d / 4) = true ∧ s.spareRests x.p (x.d / 4) = false then
    (s.setGroup x.p (x.d / 4) 0).refreshGroup x.p (x.d / 4)
  else s

/-- `REFRESH_DEBT_TICK` (R296). -/
def execRefreshDebtTick (pillar : PillarId) (die : DieId) (bank : BankId) (st : State) :
    Host.Outcome State Fault Refusal := st.act fun s =>
  .next (if s.pillarOn pillar.val && s.dieState pillar.val die.val != 5 then
      s.debtTick ⟨pillar.val, die.val, bank.val⟩
    else s)

/-- Whether a RUN uses a buffer of its bank. -/
def Blu.usesBuf (u : Blu) (second : Bool) : Bool :=
  let on := fun (r : BluRun) => if second then u.rb1 == some r.row1 || (u.rb0.isNone && u.rb1 == some r.row)
    else u.rb0 == some r.row
  u.run.any on || u.urun.any on

/-- Whether the timer policy was in force when the row in a buffer was opened (R295). -/
def Blu.timed (u : Blu) (second : Bool) : Bool := if second then u.rb1Timer else u.rb0Timer

/-- `PAGE_IDLE_TIMEOUT`: a buffer whose row was opened under the timer policy, and that no RUN uses, is closed (R295). -/
def execPageIdleTimeout (pillar : PillarId) (die : DieId) (bank : BankId) (rb1 : Bool) (st : State) :
    Host.Outcome State Fault Refusal := st.act fun s =>
  let x : BankAt := ⟨pillar.val, die.val, bank.val⟩
  let u := s.bluAt x
  .next (if u.timed rb1 = true ∧ u.usesBuf rb1 = false then
      s.onBlu x (fun u => if rb1 then { u with rb1 := none } else { u with rb0 := none })
    else s)

/-- `DIE_GROUP_IDLE`: an idle group enters power-down (R300). -/
def execDieGroupIdle (pillar : PillarId) (group : Fin 5) (st : State) : Host.Outcome State Fault Refusal := st.act fun s =>
  let p := pillar.val
  .next (if s.pillarOn p && s.groupIdle p group.val && !(group.val == 4 && s.spareAwake p) then
      s.setGroup p group.val 1
    else s)

/-- The write of DIECTL (R303, R312): RSYNC and IDRD are sent, and `answers` says
whether the die answers. -/
def Block.writeDiectl (s : Block) (p v : Nat) (answers : Bool) : Option Block :=
  let d := v % 32
  if 17 ≤ d then none
  else if !(bit v 5) || !(s.unresp p d) then some s
  else
    let s := (s.wakeDie p d).bump48 (rP p 0x140) 2
    if answers then
    let s := s.setFld (rDie p d) 3 3 0
    let s := s.onPillar p (fun q => { q with discarding := q.discarding.filter (· != d) })
    some (s.logEvent 0x20 (unitDie p d) (s.dieBody p d 5 0#64))
    else some (s.logEvent 0x20 (unitDie p d) (s.dieBody p d 6 0#64))

/-- `DIE_RETRY` (R303, R312). -/
def execDieRetry (req : Requester) (pillar : PillarId) (die : BitVec 5) (answers : Bool) (st : State) :
    Host.Outcome State Fault Refusal := st.act fun s =>
  let v := die.toNat + 32
  .next (s.guarded req (rP pillar.val 0x60) v (fun s => s.writeDiectl pillar.val v answers))

/-- Key of the unit that BLUSEL selects (R113). -/
def Block.bluSel (s : Block) (p : Nat) : Nat :=
  let v := s.rn (rP p 0xC00)
  bankKey p (if bit v 12 then 16 else bits v 11 8) (bits v 7 0)

/-- The write of BLUCNTCLR (R114). -/
def Block.writeBluCntClr (s : Block) (p v : Nat) : Option Block :=
  some (if bit v 0 then s.mapBlu (s.bluSel p) (fun u => { u with ce := 0, ue := 0, rescnt := 0 }) else s)

/-- `BLUCNTCLR` (R114). -/
def execBluCntClr (req : Requester) (pillar : PillarId) (st : State) : Host.Outcome State Fault Refusal := st.act fun s =>
  .next (s.guarded req (rP pillar.val 0xC18) 1 (fun s => s.writeBluCntClr pillar.val 1))

/-- The write of REFSTAT (R313). -/
def Block.writeRefstat (s : Block) (p v : Nat) : Option Block :=
  some (if bit v 4 then s.setFld (rP p 0x104) 3 0 0 else s)

/-- `REFSTAT_CLEAR` (R313). -/
def execRefstatClear (req : Requester) (pillar : PillarId) (st : State) : Host.Outcome State Fault Refusal := st.act fun s =>
  .next (s.guarded req (rP pillar.val 0x104) 16 (fun s => s.writeRefstat pillar.val 16))

end Sys2Proof.Machine
end

