-- ==== Sys2Proof/Machine/PeerPath.lean ====
section
/-!
DEFINITION. The sending side of peer traffic: job keys, the peer set and the paths (R272, R273, R352-R354, R438-R440).
-/
namespace Sys2Proof.Machine

/-- No key. -/
def noKey (_ : Nat) : List Byte := []
/-- No message counted. -/
def noCount (_ : Nat) : Nat := 0

/-- JOBCTL.ACTIVE of partition k. -/
def Block.jobActive (s : Block) (k : Nat) : Nat := s.fld (rJob k 0) 1 0

/-- STATE of job-key index i of partition k: 0 EMPTY, 1 VALID, 2 ACTIVE, 3 EXHAUSTED (R445). -/
def Block.jobState (s : Block) (k i : Nat) : Nat := s.fld (rJob k 4) (2 * i + 1) (2 * i)

/-- STATE of a job-key index replaced. -/
def Block.setJobState (s : Block) (k i v : Nat) : Block := s.setFld (rJob k 4) (2 * i + 1) (2 * i) v

/-- DETAIL of FLT_JOBKEY for an entry of partition k, none where peer traffic may go (R440). -/
def Block.jobKeyFault (s : Block) (k : Nat) : Option Nat :=
  let a := s.jobActive k
  if s.fld (rJob k 0) 2 2 = 1 ∧ s.jobState k a = 2 then none
  else some (a + (if s.jobState k a = 3 then 4 else 0))

/-- Whether member m belongs to the job's peer set (R438). -/
def Block.jobMember (s : Block) (k m : Nat) : Bool :=
  bit (s.rn (rHi (0x710 + 4 * m))) 12 && bit (s.rn (rJob k (0x20 + 4 * s.jobActive k))) m

/-- The module's own member index. -/
def Block.peerSelf (s : Block) : Nat := s.fld (rHi 0x700) 4 2

/-- Whether the peer port is enabled and its link up under CXL 3.1, through whose switch a peer set is reached (R352). -/
def Block.peerUp (s : Block) : Bool :=
  let p := s.fld (rHi 0x700) 1 1
  bit (s.rn (rHi 0x700)) 0 && s.dlUp p && s.fld (rHi (0x10 * p)) 2 1 == 3

/-- Key of a sending counter: index, sending core, destination. -/
def txKey (k i c dest : Nat) : Nat := ((4 * k + i) * 8 + c) * 8 + dest

/-- BODY of a SECURITY event (R446). -/
def secBody (kind port part reason x : Nat) : Nat := kind + port <<< 8 + part <<< 16 + reason <<< 24 + x <<< 32

/-- An index that has used its last counter (R439). -/
def Block.exhaust (s : Block) (k i : Nat) : Block :=
  (s.setJobState k i 3).logEvent 0xC0 (unitPart k) (secBody 8 0 k 0 i)

/-- A message issued on the path of core c under the active index of partition k (R353, R354, R439). -/
def Block.peerSend (s : Block) (k c : Nat) (x : PeerSend) : Block :=
  let i := s.jobActive k
  let key := txKey k i c x.dest
  let n := s.txCtr.get noCount key + 1
  let m : PeerMsg :=
    { source := Fin.ofNat 8 s.peerSelf, pbrid := BitVec.ofNat 12 (s.fld (rHi (0x710 + 4 * s.peerSelf)) 11 0),
      core := Fin.ofNat 8 x.core, handle := BitVec.ofNat 9 x.handle, path := Fin.ofNat 8 c, key := Fin.ofNat 4 i,
      counter := BitVec.ofNat 32 n, coords := x.coords, sizes := x.sizes, request := x.request, payload := x.payload,
      format := BitVec.ofNat 4 x.format, tag := 0#128 }
  let tag := Config.peerTag (s.jobKeys.get noKey (4 * k + i)) x.kind m
  let s := { s with txCtr := s.txCtr.set noCount key n, peerOut := s.peerOut ++ [PeerSent.mk x.kind x.dest { m with tag := tag }] }
  let s := s.setRn (rJob k (0x30 + 4 * i)) (max (s.rn (rJob k (0x30 + 4 * i))) n)
  if n = 2 ^ 32 - 1 then s.exhaust k i else s

/-- Whether a message can leave now: the path is up, the index active, the destination a member. -/
def Block.canSend (s : Block) (k dest : Nat) : Bool :=
  s.peerUp && (s.jobKeyFault k).isNone && s.jobMember k dest

end Sys2Proof.Machine
end

