-- ==== Sys2Proof/Machine/Moves.lean ====
section
/-!
DEFINITION. What a transfer moves: the pairs of scratchpad elements and far places in the transfer's own order, and the
carrying out of those pairs (07_scalar_load_store.md, R186-R200; R80, R85).
-/
namespace Sys2Proof.Machine

/-! ### Places -/

/-- The scratchpad side of one element: its byte, none for a value that is 0, its nibble, and whether its byte's high
nibble is padding (R38). -/
structure Near where
  key : Option Nat
  hi : Bool := false
  tail : Bool := false
deriving DecidableEq, Repr

/-- The far side of one element (R186, R85). `column` names the descriptor whose padding bounds a DRAM column. -/
inductive Place where
  | zero
  | drop
  | sp (key : Nat) (hi tail : Bool)
  | dram (gbid row byte : Nat) (hi : Bool) (column : Option Nat)
  | led (a : Nat) (hi tail : Bool)
  | host (a : Nat) (hi tail : Bool)
  | peer (block member core handle : Nat) (cs : List Nat)
deriving DecidableEq, Repr

/-- One element to move. -/
structure PMove where
  near : Near
  far : Place
deriving DecidableEq, Repr

/-- The moves of one block of a distributed tensor, of one entry of a list or index tensor, or else of the whole
transfer, run by run; or the fault that it meets before any element of it moves (R80, R81, R85, R191). -/
abbrev Group := Except Bad (List (List PMove))

/-- FLT_OWNER; its record names the block (R85, DEDUCED, log entry 16). -/
def fltOwner (j : Nat) : Bad := ⟨0x34, some j⟩

/-- The place of in-range coordinates of a descriptor that is not distributed. -/
def placeOf (d : Nat) (cs : List Nat) : Place :=
  let tail := oddTail d cs
  match dSpace d with
  | 0 => let (k, hi) := spElemKey (dCore d) d cs; .sp k hi tail
  | 1 => let p := dPlace d cs; .dram (dMember d p.member) p.row p.byte p.hi (some d)
  | 2 => let (a, hi) := linAddr d cs; .led a hi tail
  | _ => let (a, hi) := linAddr d cs; .host a hi tail

/-- The owner table of a distributed descriptor as it stands now (R84, R85). -/
def Block.ownerTable (s : Block) (d : Nat) : List Word :=
  if dSpace d = 4 then (List.range (dOwnerCount d)).map (fun j =>
    BitVec.ofNat 32 (ofBytes (s.ledRead (dOwnerBase d + 4 * j) 4)))
  else []

/-- Entry j of an owner table. -/
def ownerEntry (ow : List Word) (j : Nat) : Nat := ((ow[j]?).getD 0#32).toNat

/-- The descriptor of a block that the module itself owns, for core c and distributed descriptor d; none where R85 refuses
it for every coordinate. -/
def Block.ownBlock (s : Block) (c d w : Nat) : Option Nat :=
  match s.desc? (bits w 5 3) (bits w 16 8) with
  | none => none
  | some o =>
    let o := o.toNat
    if s.coreOwner (bits w 5 3) ≠ s.coreOwner c ∨ dFormat o ≠ dFormat d ∨ dSpace o = 4 then none else some o

/-- Whether an owner entry keeps its reserved bits 0 (R84). -/
def ownerOk (w : Nat) : Bool := bits w 7 6 == 0 && bits w 31 17 == 0

/-- The place of in-range coordinates of a distributed descriptor for core c (R84, R85). A block whose descriptor is a
window is read at its source coordinates (DESIGN CHOICE, log entry 130) and refuses a write (R74). -/
def Block.placeShared (s : Block) (c d : Nat) (ow : List Word) (store : Bool) (cs : List Nat) : Except Bad Place :=
  let i := dSplit d
  let g := (cs[i]?).getD 0
  let j := g / dBlock d
  let w := ownerEntry ow j
  let loc := cs.set i (g - j * dBlock d)
  if !(ownerOk w) then .error (fltOwner j)
  else if bits w 2 0 ≠ s.peerSelf then .ok (.peer j (bits w 2 0) (bits w 5 3) (bits w 16 8) loc)
  else match s.ownBlock c d w with
    | none => .error (fltOwner j)
    | some o =>
      if ¬ inside (dSizes o) (loc.map Int.ofNat) then .error (fltOwner j)
      else if store && dWindow o then .error ⟨fltSpace, none⟩
      else .ok (placeOf o loc)

/-- Coordinates of the far side resolved under EDGE, for a read or a write (R80). -/
def farCoord (d : Nat) (store : Bool) (cs : List Int) : Coord :=
  if store then (if inside (dSizes d) cs then .at (cs.map Int.toNat) else if dEdge d = 0 then .out else .zero)
  else resolve d cs

/-- The far place of coordinates (R80). -/
def Block.farPlace (s : Block) (c d : Nat) (ow : List Word) (store : Bool) (cs : List Int) : Except Bad Place :=
  match farCoord d store cs with
  | .out => .error ⟨fltBounds, none⟩
  | .zero => .ok (if store then .drop else .zero)
  | .at x => if dSpace d = 4 then s.placeShared c d ow store x else .ok (placeOf d x)

/-- The scratchpad side of coordinates of its descriptor. -/
def nearAt (d : Nat) (cs : List Nat) : Near :=
  match resolve d (cs.map Int.ofNat) with
  | .at x => let (k, hi) := spElemKey (dCore d) d x; ⟨some k, hi, oddTail d x⟩
  | _ => ⟨none, false, false⟩

/-- Runs of coordinate pairs turned into moves, or the first failure among them. -/
def Block.moves (s : Block) (c fd : Nat) (ow : List Word) (store : Bool) (runs : List (List (Near × List Int))) : Group :=
  runs.mapM (fun r => r.mapM (fun x => (s.farPlace c fd ow store x.2).map (PMove.mk x.1)))

/-- Whether every coordinate of runs is in bounds, as EDGE asks of it before anything moves (R80). -/
def boundsOk (fd : Nat) (store : Bool) (runs : List (List (Near × List Int))) : Bool :=
  runs.all (fun r => r.all (fun x => decide (farCoord fd store x.2 ≠ .out)))

/-- The block of a distributed tensor that coordinates lie in, none outside the tensor (R85). -/
def blockOf (fd : Nat) (store : Bool) (cs : List Int) : Option Nat :=
  match farCoord fd store cs with
  | .at x => some ((x[dSplit fd]?).getD 0 / dBlock fd)
  | _ => none

/-- The blocks of a distributed tensor that runs touch, ascending. -/
def touched (fd : Nat) (store : Bool) (runs : List (List (Near × List Int))) : List Nat :=
  (List.range (dOwnerCount fd)).filter (fun j => runs.any (fun r => r.any (fun x => blockOf fd store x.2 == some j)))

/-- An access cut into one group per block of a distributed tensor, in ascending block number; what lies outside the
tensor moves first (R85). Any other access is one group. -/
def Block.groups (s : Block) (c fd : Nat) (ow : List Word) (store : Bool) (runs : List (List (Near × List Int))) :
    List Group :=
  if dSpace fd = 4 then
    (none :: (touched fd store runs).map some).map (fun j =>
      s.moves c fd ow store (runs.map (fun r => r.filter (fun x => blockOf fd store x.2 == j))))
  else [s.moves c fd ow store runs]

/-- Whether a move's far side lies outside the module. -/
def PMove.away (m : PMove) : Bool :=
  match m.far with
  | .host _ _ _ => true
  | .peer _ _ _ _ _ => true
  | _ => false

/-- A move put into a list in ascending scratchpad address, before the moves of its own address. -/
def insertMove (m : PMove) : List PMove → List PMove
  | [] => [m]
  | x :: t => if m.near.key.getD 0 ≤ x.near.key.getD 0 then m :: x :: t else x :: insertMove m t

/-- The moves of a load in the order it writes them: ascending scratchpad address (R190); what comes from outside lands
as it is requested (R200). -/
def loadOrder (runs : List (List PMove)) : List (List PMove) :=
  if runs.any (fun r => r.any PMove.away) then runs else [runs.flatten.foldr insertMove []]

/-! ### Carrying out (R190, R196, R200) -/

/-- A DRAM column that a store is about to write: where, the descriptor that bounds its padding, its new nibbles. -/
structure ColWrite where
  gbid : Nat
  row : Nat
  col : Nat
  desc : Option Nat
  nibs : List (Nat × Nat)
  elems : Nat
deriving DecidableEq, Repr

/-- A transfer under way: the state, the windows it issued under, the lane's generator, the last column read, the columns
to write, the traffic it has begun, and whose blocks of a SPACE 4 tensor it has written. -/
structure Mover where
  s : Block
  wins : List HostWin := []
  gen : BitVec 32 := 0#32
  cache : Option (Nat × Column) := none
  cols : List ColWrite := []
  hreads : List HostRead := []
  hwrites : List HostWrite := []
  psends : List PeerSend := []
  preads : List PeerRead := []
  pwrites : List PeerRead := []
  members : List Nat := []
  own : Bool := false

/-- The low or high nibble of a byte. -/
def nibOf (b : Nat) (hi : Bool) : Nat := if hi then bits b 7 4 else bits b 3 0

/-- One element read from its scratchpad side; `none` for a word that cannot be corrected. -/
def Mover.nearRead (x : Mover) (f : Fmt) (n : Near) : Mover × Except Bad Nat :=
  match n.key with
  | none => (x, .ok 0)
  | some k =>
    match x.s.sramRead 0 (k / 2 ^ 26) (k % 2 ^ 26) (max 1 (f.size / 8)) with
    | (s, some w) => ({ x with s := s }, .error ⟨0xA0, some w⟩)
    | (s, none) => ({ x with s := s }, .ok (elemRead s.scratch f k n.hi))

/-- An element written to a byte memory, the high nibble of an odd run's last byte as 0 (R38). -/
def elemWriteT (t : Tab Byte) (f : Fmt) (a : Nat) (hi tail : Bool) (v : Nat) : Tab Byte :=
  if f.size = 4 ∧ tail then t.set byteZero a (BitVec.ofNat 8 (v % 16)) else elemWrite t f a hi v

/-- One element written to its scratchpad side. -/
def Mover.nearWrite (x : Mover) (f : Fmt) (n : Near) (v : Nat) : Mover :=
  match n.key with
  | none => x
  | some k => { x with s := { x.s with scratch := elemWriteT x.s.scratch f k n.hi n.tail v } }

/-- An element cut from a column. -/
def colElem (x : Column) (f : Fmt) (byte : Nat) (hi : Bool) : Nat :=
  let o := 8 * (byte % 32) + (if hi then 4 else 0)
  bits x.toNat (o + f.size - 1) o

/-- A column read from its bank. -/
def Mover.freshCol (x : Mover) (g row col key : Nat) : Mover × Except Bad Column :=
  match x.s.fetchCol g row col with
  | (s, .ok v) => ({ x with s := s, cache := some (key, v) }, .ok v)
  | (s, .error e) => ({ x with s := s }, .error ⟨e.code, some e.detail⟩)

/-- A column read through the mover: a column read twice in a row is read once (DEDUCED, log entry 17). -/
def Mover.column (x : Mover) (g row col : Nat) : Mover × Except Bad Column :=
  let key := (g * 8192 + row) * 64 + col
  match x.cache with
  | some (k, v) => if k = key then (x, .ok v) else x.freshCol g row col key
  | none => x.freshCol g row col key

/-- Whether n bytes fit one request to a PORT code (R198, R200): at most 128 B where the port's function says so. -/
def Block.requestFits (s : Block) (k code : Nat) (write : Bool) (n : Nat) : Bool :=
  decide (n ≤ 128) || (decide (n ≤ 256) && !(Config.requests128 (if code = 2 then s.attPort k else code) write))

/-- A host read begun or extended by one element (R200): a request holds contiguous bytes of one run inside one
256-byte block. `open_` says whether the last request may still grow (DEDUCED, log entry 34). -/
def Mover.hostRead (x : Mover) (k port : Nat) (f : Fmt) (open_ : Bool) (a : Nat) (hi : Bool) (n : Near) : Mover :=
  let len := max 1 (f.size / 8)
  let land := fun base : Nat => match n.key with
    | some at_ => [Landing.mk at_ n.hi n.tail (a - base) hi]
    | none => []
  match x.hreads.getLast? with
  | some r =>
    if open_ ∧ r.addr ≤ a ∧ a ≤ r.addr + r.len ∧ a / 256 = r.addr / 256 ∧ r.port = port ∧
        x.s.requestFits k port false (a + len - r.addr) then
      { x with hreads := x.hreads.dropLast ++
        [{ r with len := max r.len (a + len - r.addr), elems := r.elems ++ land r.addr }] }
    else { x with hreads := x.hreads ++ [{ port := port, addr := a, len := len, elems := land a }] }
  | none => { x with hreads := x.hreads ++ [{ port := port, addr := a, len := len, elems := land a }] }

/-- A peer read begun or extended by one element (R352, R353). -/
def Mover.peerRead (x : Mover) (f : Fmt) (open_ : Bool) (j m oc h : Nat) (cs : List Nat) (n : Near) : Mover :=
  let c0 := (cs[0]?).getD 0
  let land := fun e : Nat => match n.key with
    | some k => [Landing.mk k n.hi n.tail (e * f.size / 8) (e * f.size % 8 == 4)]
    | none => []
  let start : Mover :=
    { x with
      psends := x.psends ++ [PeerSend.mk 1 m oc h cs [1, 1, 1, 1] x.s.reqId [] f.code]
      preads := x.preads ++ [PeerRead.mk x.s.reqId j (land 0)]
      s := { x.s with reqId := x.s.reqId + 1 } }
  match x.psends.getLast?, x.preads.getLast? with
  | some p, some r =>
    let k := (p.sizes[0]?).getD 1
    if open_ ∧ p.dest = m ∧ p.core = oc ∧ p.handle = h ∧ p.coords.drop 1 = cs.drop 1 ∧
        (p.coords[0]?).getD 0 + k = c0 ∧ r.block = j ∧ (k + 1) * f.size ≤ 8 * 4096 then
      { x with
        psends := x.psends.dropLast ++ [{ p with sizes := [k + 1, 1, 1, 1] }]
        preads := x.preads.dropLast ++ [{ r with elems := r.elems ++ land k }] }
    else start
  | _, _ => start

/-- The windows of partition k that grant `perm`, as they stand now (R198, R199). -/
def Block.hostWins (s : Block) (k perm : Nat) : List HostWin :=
  ((List.range 8).filter (fun i => s.bbPerm k i != 0 && (s.bbPerm k i &&& perm == perm))).map (fun i =>
    ⟨(s.bbRange k i).1, (s.bbRange k i).2, s.bbPort k i⟩)

/-- The PORT code of the window that host address a is reached through. -/
def winPort (wins : List HostWin) (a : Nat) : Nat :=
  ((wins.find? (fun w => decide (w.lo ≤ a) && decide (a ≤ w.hi))).map (·.port)).getD 2

/-- One element of a load. -/
def Mover.loadOne (x : Mover) (k : Nat) (f : Fmt) (open_ : Bool) (m : PMove) : Mover × Option Bad :=
  match m.far with
  | .zero => (x.nearWrite f m.near 0, none)
  | .drop => (x, none)
  | .sp key hi _ =>
    match x.nearRead f ⟨some key, hi, false⟩ with
    | (x, .ok v) => (x.nearWrite f m.near v, none)
    | (x, .error b) => (x, some b)
  | .led a hi _ =>
    match x.s.ledScan a (max 1 (f.size / 8)) with
    | (s, some w) => ({ x with s := s }, some ⟨0xA0, some w⟩)
    | (s, none) => ({ x with s := s }.nearWrite f m.near (elemRead s.ledger f a hi), none)
  | .dram g row byte hi _ =>
    match x.column g row (byte / 32) with
    | (x, .ok col) => (x.nearWrite f m.near (colElem col f byte hi), none)
    | (x, .error b) => (x, some b)
  | .host a hi _ => (x.hostRead k (winPort x.wins a) f open_ a hi m.near, none)
  | .peer j mm oc h cs => (x.peerRead f open_ j mm oc h cs m.near, none)

/-- One run of a load. -/
def Mover.loadRun (x : Mover) (k : Nat) (f : Fmt) : Bool → List PMove → Mover × Option Bad
  | _, [] => (x, none)
  | op, m :: t =>
    match x.loadOne k f op m with
    | (x, none) => x.loadRun k f true t
    | r => r

/-- Every run of a load, up to the first failure. -/
def Mover.loadRuns (x : Mover) (k : Nat) (f : Fmt) : List (List PMove) → Mover × Option Bad
  | [] => (x, none)
  | r :: t =>
    match x.loadRun k f false r with
    | (x, none) => x.loadRuns k f t
    | r => r

/-- Nibbles of an element at a byte of a column. -/
def elemNibs (f : Fmt) (byte : Nat) (hi : Bool) (v : Nat) : List (Nat × Nat) :=
  let n := 2 * (byte % 32) + b2n hi
  (List.range (f.size / 4)).map (fun i => (n + i, bits v (4 * i + 3) (4 * i)))

/-- An element put into the columns to write (DEDUCED, log entry 51). -/
def addCol (f : Fmt) (g row byte : Nat) (hi : Bool) (d : Option Nat) (v : Nat) : List ColWrite → List ColWrite
  | [] => [⟨g, row, byte / 32, d, elemNibs f byte hi v, 1⟩]
  | w :: t =>
    if w.gbid = g ∧ w.row = row ∧ w.col = byte / 32 then
      { w with nibs := w.nibs ++ elemNibs f byte hi v, elems := w.elems + 1 } :: t
    else w :: addCol f g row byte hi d v t

/-- A host write begun or extended by one element (R200). -/
def Mover.hostWrite (x : Mover) (k port : Nat) (f : Fmt) (open_ : Bool) (a : Nat) (hi tail : Bool) (v : Nat) : Mover :=
  let fresh := fun (w : HostWrite) => { x with hwrites := x.hwrites ++ [w] }
  if f.size = 4 ∧ ¬ tail then
    match x.hwrites.getLast? with
    | some w =>
      if hi ∧ open_ ∧ w.half = some false ∧ w.addr = a then
        { x with hwrites := x.hwrites.dropLast ++
          [{ w with half := none, data := w.data.map (fun b => putNibble b true v) }] }
      else fresh { port := port, addr := a, data := [putNibble 0#8 hi v], half := some hi }
    | none => fresh { port := port, addr := a, data := [putNibble 0#8 hi v], half := some hi }
  else
    let bs := if f.size = 4 then [BitVec.ofNat 8 (v % 16)] else leBytes v (f.size / 8)
    match x.hwrites.getLast? with
    | some w =>
      if open_ ∧ w.half = none ∧ a = w.addr + w.data.length ∧ a / 256 = w.addr / 256 ∧ w.port = port ∧
          x.s.requestFits k port true (w.data.length + bs.length) then
        { x with hwrites := x.hwrites.dropLast ++ [{ w with data := w.data ++ bs }] }
      else fresh { port := port, addr := a, data := bs }
    | none => fresh { port := port, addr := a, data := bs }

/-- A 4-bit element appended to a peer payload of k elements. -/
def packElem (f : Fmt) (k : Nat) (bs : List Byte) (v : Nat) : List Byte :=
  if f.size = 4 then
    (if k % 2 = 0 then bs ++ [BitVec.ofNat 8 (v % 16)]
     else bs.dropLast ++ [putNibble (bs.getLast?.getD 0#8) true v])
  else bs ++ leBytes v (f.size / 8)

/-- A peer write begun or extended by one element (R352, R353); its request number is the one a refusal names (R85;
DEDUCED, log entry 16). -/
def Mover.peerWrite (x : Mover) (f : Fmt) (open_ : Bool) (j m oc h : Nat) (cs : List Nat) (v : Nat) : Mover :=
  let c0 := (cs[0]?).getD 0
  let start : Mover :=
    { x with
      psends := x.psends ++ [PeerSend.mk 0 m oc h cs [1, 1, 1, 1] x.s.reqId (packElem f 0 [] v) f.code]
      pwrites := x.pwrites ++ [PeerRead.mk x.s.reqId j []]
      members := if x.members.contains m then x.members else x.members ++ [m]
      s := { x.s with reqId := x.s.reqId + 1 } }
  match x.psends.getLast? with
  | some p =>
    let k := (p.sizes[0]?).getD 1
    if open_ ∧ p.dest = m ∧ p.core = oc ∧ p.handle = h ∧ p.coords.drop 1 = cs.drop 1 ∧
        (p.coords[0]?).getD 0 + k = c0 ∧ (k + 1) * f.size ≤ 8 * 4096 then
      { x with psends := x.psends.dropLast ++
        [{ p with sizes := [k + 1, 1, 1, 1], payload := packElem f k p.payload v }] }
    else start
  | none => start

/-- One element of a store put at its place. -/
def Mover.storeOne (x : Mover) (k : Nat) (f : Fmt) (open_ : Bool) (p : Place) (v : Nat) : Mover :=
  match p with
  | .zero => x
  | .drop => x
  | .sp key hi tail =>
    { x with s := { x.s with scratch := elemWriteT x.s.scratch f key hi tail v }, own := true }
  | .led a hi tail => { x with s := { x.s with ledger := elemWriteT x.s.ledger f a hi tail v }, own := true }
  | .dram g row byte hi d => { x with cols := addCol f g row byte hi d v x.cols, own := true }
  | .host a hi tail => { x.hostWrite k (winPort x.wins a) f open_ a hi tail v with own := true }
  | .peer j m oc h cs => x.peerWrite f open_ j m oc h cs v

/-- The conversion a store makes: formats, whether it rounds stochastically, OVF_SAT (R44, R189). -/
structure Conv where
  src : Fmt
  dst : Fmt
  stoch : Bool
  sat : Bool
deriving DecidableEq, Repr

/-- Whether the conversion draws (R45). -/
def Conv.draws (v : Conv) : Bool := v.stoch && v.src != v.dst

/-- One element of a store: read, converted with the next draw, put (R45, R189). -/
def Mover.moveOne (x : Mover) (k c : Nat) (v : Conv) (open_ : Bool) (m : PMove) : Mover × Option Bad :=
  match m.far with
  | .drop => (x, none)
  | _ =>
    match x.nearRead v.src m.near with
    | (x, .error b) => (x, some b)
    | (x, .ok e) =>
      let g := if v.draws then xorshift x.gen else x.gen
      let (y, fl) := convert v.src v.dst (if v.draws then .stoch (drawR16 g) else .rne) v.sat e
      (({ x with s := x.s.numFlags c fl, gen := g }).storeOne k v.dst open_ m.far y, none)

/-- One run of a store. -/
def Mover.moveRun (x : Mover) (k c : Nat) (v : Conv) : Bool → List PMove → Mover × Option Bad
  | _, [] => (x, none)
  | op, m :: t =>
    match x.moveOne k c v op m with
    | (x, none) => x.moveRun k c v true t
    | r => r

/-- Every run of a store, up to the first failure. -/
def Mover.moveRuns (x : Mover) (k c : Nat) (v : Conv) : List (List PMove) → Mover × Option Bad
  | [] => (x, none)
  | r :: t =>
    match x.moveRun k c v false r with
    | (x, none) => x.moveRuns k c v t
    | r => r

/-- Whether nibble `n` of a column is padding of a striped tensor (R77). -/
def isPadding (d row col n : Nat) (member : Nat) : Bool :=
  let k := (row - dRowBase d) * dMembers d + member
  let byte := 32 * col + n / 2
  let rb := 2048 / dTileH d
  let e := (byte % rb * 8 + 4 * (n % 2)) / (dFormat d).size
  !(dHome d) && (decide (dSize d 0 ≤ k % dT0 d * dTileW d + e) ||
    decide (dSize d 1 ≤ k / dT0 d % dT1 d * dTileH d + byte / rb))

/-- The member number of a global bank ID in a bank set. -/
def memberOf (d g : Nat) : Nat := ((List.range (dMembers d)).find? (fun m => dMember d m == g)).getD 0

/-- Whether the nibbles written are all of a column's bytes but its padding. -/
def ColWrite.whole (w : ColWrite) : Bool :=
  (List.range 64).all (fun n => w.nibs.any (fun x => x.1 == n) ||
    (match w.desc with
     | some d => isPadding d w.row w.col n (memberOf d w.gbid)
     | none => false))

/-- A column written: wholly, its padding 0, or merged into what it held (R77, R196). -/
def ColWrite.apply (w : ColWrite) (s : Block) : Block × Option MemFault :=
  if w.whole then
    match s.storeCol w.gbid w.row w.col (BitVec.ofNat 256 (putNibbles 0 w.nibs)) with
    | (s, .ok _) => (s, none)
    | (s, .error e) => (s, some e)
  else
    match s.fetchCol w.gbid w.row w.col with
    | (s, .error e) => (s, some e)
    | (s, .ok x) =>
      match s.storeCol w.gbid w.row w.col (BitVec.ofNat 256 (putNibbles x.toNat w.nibs)) with
      | (s, .ok _) => (s, none)
      | (s, .error e) => (s, some e)

/-- The columns of a store written in order; a failing one ends it with the number of elements written so far. -/
def applyCols (s : Block) (n : Nat) : List ColWrite → Block × Nat × Option MemFault
  | [] => (s, n, none)
  | w :: t =>
    match w.apply s with
    | (s, none) => applyCols s (n + w.elems) t
    | (s, some e) => (s, n, some e)

/-- A generator advanced n times. -/
def advance (g : BitVec 32) : Nat → BitVec 32
  | 0 => g
  | n + 1 => advance (xorshift g) n

/-- Register of the stochastic-rounding generator of a lane (R46). -/
def rSrseed (c l : Nat) : Nat := rC c (0xA08 + 4 * l)

/-- The columns that a group has put together, written; a failing one ends the transfer there, its generator after the
draws of the elements written (R45, R196). `gen` is the generator before the group. -/
def Mover.flush (x : Mover) (v : Conv) (gen : BitVec 32) : Mover × Option Bad :=
  match applyCols x.s 0 x.cols with
  | (s, _, none) => ({ x with s := s, cols := [] }, none)
  | (s, n, some e) =>
    ({ x with s := s, cols := [], gen := if v.draws then advance gen n else x.gen }, some ⟨e.code, some e.detail⟩)

/-- One group of a load. -/
def Mover.loadGroup (x : Mover) (k : Nat) (f : Fmt) (g : Group) : Mover × Option Bad :=
  match g with
  | .error b => (x, some b)
  | .ok runs => x.loadRuns k f (loadOrder runs)

/-- One group of a store: what it has put together before a failure is written (R201). -/
def Mover.storeGroup (x : Mover) (k c : Nat) (v : Conv) (g : Group) : Mover × Option Bad :=
  match g with
  | .error b => (x, some b)
  | .ok runs =>
    let (y, b) := x.moveRuns k c v runs
    match y.flush v x.gen with
    | (y, some e) => (y, some e)
    | (y, none) => (y, b)

/-- Groups in order, up to the first failure. -/
def Mover.carry (x : Mover) (k c : Nat) (store : Bool) (v : Conv) : List Group → Mover × Option Bad
  | [] => (x, none)
  | g :: t =>
    match (if store then x.storeGroup k c v g else x.loadGroup k v.dst g) with
    | (x, none) => x.carry k c store v t
    | r => r

end Sys2Proof.Machine
end

