-- ==== Sys2Proof/Machine/Transfer.lean ====
section
/-!
DEFINITION. The load and store engines: checks at issue, plans, host requests and completion
(07_scalar_load_store.md, R186-R205).
-/
namespace Sys2Proof.Machine

/-- FLT_XFER_SHAPE. -/
def fltXfer : Nat := 0x55
/-- FLT_BOUNCE. -/
def fltBounce : Nat := 0x51
/-- FLT_LIST. -/
def fltList : Nat := 0x36

/-- The engine index of LDE or STE. -/
def eXfer (store : Bool) : Nat := if store then 5 else 4

/-- A transfer that has passed its checks: its conversion, the descriptor copies and the owner table it uses (R59, R85),
what it moves by itself, the entries of its list or index tensor, and whether it needs peer traffic (R440). -/
structure Xfer where
  conv : Conv
  descs : List Desc := []
  owners : List Word := []
  groups : List Group := []
  entries : Nat := 0
  peer : Bool := false

/-! ### Shared checks (R199, R202) -/

/-- The windows a host descriptor or range needs: read for a load, write for a store, both for a 4-bit store. -/
def bbNeed (store : Bool) (f : Fmt) : Nat := if store then (if f.size = 4 then 3 else 2) else 1

/-- The window check of a host range (R199). -/
def Block.bounceCheck (s : Block) (c a e perm : Nat) : Check Unit :=
  match s.coreOwner c with
  | none => .error ⟨fltBounce, some a⟩
  | some k => match s.bbMiss k a e perm with
    | some x => .error ⟨fltBounce, some x⟩
    | none => .ok ()

/-- The window check of a far descriptor. -/
def Block.bounceDesc (s : Block) (c d : Nat) (store : Bool) : Check Unit :=
  if dSpace d = 3 then s.bounceCheck c (dBase d) (linEnd d) (bbNeed store (dFormat d)) else .ok ()

/-- The owner entries of an access to blocks `js` of a distributed tensor. -/
def ownersOf (ow : List Word) (js : List Nat) : List Nat := js.map (ownerEntry ow)

/-- The window checks of the blocks of a distributed tensor that the module itself owns (R199). -/
def Block.bounceBlocks (s : Block) (c d : Nat) (store : Bool) : List Nat → Check Unit
  | [] => .ok ()
  | w :: t => do
    if ownerOk w && bits w 2 0 == s.peerSelf then
      match s.ownBlock c d w with
      | some o => s.bounceDesc c o store
      | none => pure ()
    s.bounceBlocks c d store t

/-- The blocks of a distributed tensor. -/
def allBlocks (d : Nat) : List Nat := if dSpace d = 4 then List.range (dOwnerCount d) else []

/-- Whether any of these owner entries names another module (R440). -/
def Block.needsPeer (s : Block) (ws : List Nat) : Bool := ws.any (fun w => ownerOk w && bits w 2 0 != s.peerSelf)

/-- Whether the far role accepts a descriptor (R64, R74, R186, R197). -/
def Block.farOk (s : Block) (c d : Nat) (store : Bool) : Bool :=
  if store then !(dWindow d) && (dSpace d != 0 || s.coreOwner (dCore d) == s.coreOwner c) else dSpace d != 0

/-- Whether the scratchpad role accepts a descriptor (R187). -/
def nearOk (c d : Nat) (store : Bool) : Bool := ownSp c d && (store || !(dWindow d))

/-- The two descriptors of a box or index transfer: source, destination, scratchpad side, far side. -/
structure Pair where
  src : Nat
  dst : Nat
  near : Nat
  far : Nat
deriving DecidableEq, Repr

/-- Handles, spaces and formats of a box or index transfer (R189, R202 checks 2 to 4). -/
def Block.xferPair (s : Block) (c : Nat) (store trans : Bool) (en : Entry) : Check Pair := do
  let src ← s.need c (en.f0 44 36)
  let dst ← s.need c (en.f0 53 45)
  let near := if store then src else dst
  let far := if store then dst else src
  failIf (!(nearOk c near store) || !(s.farOk c far store)) fltSpace none
  failIf ((dFormat src != dFormat dst && (!store || dFormat src == .nb4 || dFormat dst == .nb4)) ||
    (trans && (dFormat src).size == 4)) fltFormat none
  failIf (vRank near != vRank far) fltXfer (some 1)
  pure ⟨src, dst, near, far⟩

/-- The conversion of a transfer from its descriptor copies, source first, and the setting it issued under; a load never
converts, and a transfer of bytes has the conversion of its bytes (R189). -/
def Entry.conv (en : Entry) (store : Bool) (ds : List Desc) (sat : Bool) : Conv :=
  let f := fun i => ((ds[i]?).map (fun d => dFormat d.toNat)).getD .int8
  if en.opcode = 0 then ⟨f 0, f 1, store && en.f0 56 55 == 1, sat⟩
  else if en.opcode = 1 then ⟨f 0, f 0, false, true⟩
  else if en.opcode = 2 then ⟨f 0, f 1, store && en.f0 57 56 == 1, sat⟩
  else ⟨.int8, .int8, false, true⟩

/-- The descriptor copies of a pair. -/
def Pair.descs (p : Pair) : List Desc := [BitVec.ofNat 256 p.src, BitVec.ofNat 256 p.dst]

/-- Dimensions 0 and 1 exchanged. -/
def swap01 {α : Type} : List α → List α
  | a :: b :: t => b :: a :: t
  | l => l

/-- A start added to coordinates. -/
def addStart (start : List Nat) (cs : List Nat) : List Int := List.zipWith (fun a b => ((a + b : Nat) : Int)) start cs

/-- The coordinates of a dimension-0 run of a box. -/
def runOf (n : Nat) (cs : List Nat) : List (List Nat) := (List.range n).map (fun i => i :: cs.drop 1)

/-- The pairs of a box, in far-side order (R188, R200): `sizes` are the scratchpad side's. -/
def boxRuns (near : Nat) (start sizes : List Nat) (trans : Bool) : List (List (Near × List Int)) :=
  let far := if trans then swap01 sizes else sizes
  (runCoords far).map (fun r => (runOf ((far[0]?).getD 1) r).map (fun cs =>
    (nearAt near (if trans then swap01 cs else cs), addStart start cs)))

/-- The start coordinates C0-C3 (R187). -/
def Entry.start (en : Entry) : List Nat := [en.f1 21 0, en.f1 43 22, en.f2 21 0, en.f2 43 22]

/-- The byte a dimension-0 run of a transposed far side starts at, where the module can tell: its address in a linear
space, its byte of the row in DRAM, none for what lies on another module or outside the tensor. -/
def Place.start : Place → Option (Nat × Bool)
  | .sp a _ _ => some (a, true)
  | .led a _ _ => some (a, true)
  | .host a _ _ => some (a, true)
  | .dram _ _ b _ _ => some (b, false)
  | _ => none

/-- The first far run of a transposed transfer whose first element is not 32-byte aligned, on the start coordinate and the
strides (R71, R73); a row in DRAM has no address to name. -/
def Block.farMisaligned (s : Block) (c fd : Nat) (ow : List Word) (store : Bool) (runs : List (List (Near × List Int))) :
    Option Bad :=
  runs.findSome? (fun r => match r.head? with
    | none => none
    | some x => match s.farPlace c fd ow store x.2 with
      | .error _ => none
      | .ok p => match p.start with
        | none => none
        | some (a, named) => if a % 32 = 0 then none else some ⟨fltAlign, if named then some a else none⟩)

/-- LD.BOX and ST.BOX (R188, R202). -/
def Block.boxPlan (s : Block) (c : Nat) (store : Bool) (en : Entry) : Check Xfer := do
  let trans := en.f0 54 54 == 1
  let p ← s.xferPair c store trans en
  failIf (trans && decide (vRank p.near < 2)) fltXfer (some 2)
  let ow := s.ownerTable p.far
  let runs := boxRuns p.near en.start (vSizes p.near) trans
  if trans then
    aligned32 p.near
    match s.farMisaligned c p.far ow store runs with
    | some b => throw b
    | none => pure ()
  failIf (!(boundsOk p.far store runs)) fltBounds none
  s.bounceDesc c p.far store
  let ws := ownersOf ow (if dSpace p.far = 4 then touched p.far store runs else [])
  s.bounceBlocks c p.far store ws
  pure { conv := en.conv store p.descs (s.ovfSat c), descs := p.descs, owners := ow,
         groups := s.groups c p.far ow store runs, peer := s.needsPeer ws }

/-! ### Index tensors (R191) -/

/-- The lowest set bit of a number below 2^n. -/
def lowBit (x : Nat) (n : Nat) : Option Nat := (List.range n).find? (fun i => bit x i)

/-- The pairs of one slice, value `ix` of dimension i standing for scratchpad coordinate j. -/
def sliceRuns (near i j ix : Nat) (rest : List Nat) : List (List (Near × List Int)) :=
  (runCoords rest).map (fun r => (runOf ((rest[0]?).getD 1) r).map (fun cs =>
    (nearAt near (cs.set i j), (cs.set i ix).map Int.ofNat)))

/-- The pair of an index transfer from its descriptor copies: scratchpad side, far side. -/
def Entry.sides (en : Entry) (store : Bool) : Nat × Nat :=
  let d := fun i : Nat => ((en.descs[i]?).getD 0#256).toNat
  if store then (d 0, d 1) else (d 1, d 0)

/-- What entry j of the index tensor of an issued transfer moves, read now (R191, R83). -/
def Block.indexEntry (s : Block) (c : Nat) (store : Bool) (en : Entry) (j : Nat) : Block × List Group :=
  let (near, fd) := en.sides store
  let i := en.f0 55 54
  let a := en.f1 25 0 + 4 * j
  match s.sramRead 0 c a 4 with
  | (s, some w) => (s, [.error ⟨0xA0, some w⟩])
  | (s, none) =>
    let w := ofBytes (s.spRead c a 4)
    match lowBit (w &&& 0x7FC00000) 32 with
    | some b => (s, [.error ⟨0x02, some (b + j <<< 32)⟩])
    | none =>
      if bit w 31 then (s, [])
      else
        let runs := sliceRuns near i j (bits w 21 0) ((vSizes near).set i 1)
        (s, if !(boundsOk fd store runs) then [.error ⟨fltBounds, none⟩] else s.groups c fd en.owners store runs)

/-- Whether the coordinates of an index transfer other than those its entries name are in bounds: along every other
dimension they run from 0 to the box's size (R80, R191). -/
def restInside (near fd i : Nat) : Bool :=
  (List.range (vRank near)).all (fun k => k == i || decide (vSize near k ≤ vSize fd k))

/-- LD.INDEX and ST.INDEX (R191, R202). -/
def Block.indexPlan (s : Block) (c : Nat) (store : Bool) (en : Entry) : Check Xfer := do
  let p ← s.xferPair c store false en
  let i := en.f0 55 54
  let ia := en.f1 25 0
  let n := vSize p.near i
  failIf (decide (vRank p.near ≤ i)) fltXfer (some 6)
  failIf (ia % 4 != 0) fltAlign (some ia)
  failIf (decide (spTop + 1 < ia + 4 * n)) fltList none
  failIf (dEdge p.far == 0 && !(restInside p.near p.far i)) fltBounds none
  s.bounceDesc c p.far store
  let ow := s.ownerTable p.far
  let ws := ownersOf ow (allBlocks p.far)
  s.bounceBlocks c p.far store ws
  pure { conv := en.conv store p.descs (s.ovfSat c), descs := p.descs, owners := ow, entries := n,
         peer := s.needsPeer ws }

/-! ### Block lists (R81-R83, R192) -/

/-- Bits of a list entry that must be 0 for a tensor of the given rank (R81). -/
def listMask (rank : Nat) : Nat :=
  (List.range 4).foldl (fun m i =>
    m + (if i < rank then (if i = 0 then 0x7FC00000 else 0xFFC00000)
         else if i = 0 then 0x7FFFFFFF else 0xFFFFFFFF) <<< (32 * i)) 0

/-- The scratchpad side of element k of a dense block at an address (R83, R38). -/
def blockNear (c base n f k : Nat) : Near :=
  ⟨some (spKey c (base + k * f / 8)), k * f % 8 == 4, f == 4 && k % 2 == 0 && k + 1 == n⟩

/-- The pairs of one block. -/
def blockRuns (c base f : Nat) (b blk : List Nat) : List (List (Near × List Int)) :=
  let n := volume4 b
  let idx := fun cs : List Nat =>
    let x := fun (l : List Nat) i => (l[i]?).getD 0
    ((x cs 3 * x b 2 + x cs 2) * x b 1 + x cs 1) * x b 0 + x cs 0
  (runCoords b).map (fun r => (runOf ((b[0]?).getD 1) r).map (fun cs =>
    (blockNear c base n f (idx cs), (List.zipWith (· + ·) (List.zipWith (· * ·) blk b) cs).map Int.ofNat)))
where
  /-- Elements of a block. -/
  volume4 (b : List Nat) : Nat := b.foldl (· * ·) 1

/-- The block shape of a gather or scatter (R192). -/
def Entry.shape (en : Entry) : List Nat := [en.f2 15 0 + 1, en.f2 31 16 + 1, en.f2 47 32 + 1, en.f2 63 48 + 1]

/-- The byte size of a block: a multiple of 32 (R192). -/
def blockBytes (b : List Nat) (f : Fmt) : Nat := ceilDiv (b.foldl (· * ·) 1 * f.size) 256 * 32

/-- What entry i of the list of an issued gather or scatter moves, read now (R81, R83). -/
def Block.listEntry (s : Block) (c : Nat) (store : Bool) (en : Entry) (i : Nat) : Block × List Group :=
  let fd := ((en.descs[0]?).getD 0#256).toNat
  let b := en.shape
  let a := en.f1 51 26 + 16 * i
  match s.sramRead 0 c a 16 with
  | (s, some w) => (s, [.error ⟨0xA0, some w⟩])
  | (s, none) =>
    let w := ofBytes (s.spRead c a 16)
    match lowBit (w &&& listMask (vRank fd)) 128 with
    | some x => (s, [.error ⟨0x02, some (x + i <<< 32)⟩])
    | none =>
      if bit w 31 then (s, [])
      else
        let blk := [bits w 21 0, bits w 53 32, bits w 85 64, bits w 117 96]
        let runs := blockRuns c (en.f1 25 0 + i * blockBytes b (dFormat fd)) (dFormat fd).size b blk
        (s, if !(boundsOk fd store runs) then [.error ⟨fltBounds, none⟩] else s.groups c fd en.owners store runs)

/-- LD.GATHER and ST.SCATTER (R192, R202). -/
def Block.listPlan (s : Block) (c : Nat) (store : Bool) (en : Entry) : Check Xfer := do
  let fd ← s.need c (en.f0 44 36)
  failIf (!(s.farOk c fd store)) fltSpace none
  let b := en.shape
  let cnt := en.f0 60 45 + 1
  let sp := en.f1 25 0
  let la := en.f1 51 26
  let bb := blockBytes b (dFormat fd)
  failIf (decide (spTop + 1 < sp + cnt * bb)) fltXfer (some 3)
  failIf ((List.range 4).any (fun i => decide (vRank fd ≤ i) && (b[i]?).getD 1 != 1)) fltXfer (some 7)
  failIf (sp % 32 != 0) fltAlign (some sp)
  failIf (la % 16 != 0) fltAlign (some la)
  failIf (decide (spTop + 1 < la + 16 * cnt)) fltList none
  s.bounceDesc c fd store
  let ow := s.ownerTable fd
  let ws := ownersOf ow (allBlocks fd)
  s.bounceBlocks c fd store ws
  pure { conv := en.conv store [BitVec.ofNat 256 fd] (s.ovfSat c), descs := [BitVec.ofNat 256 fd], owners := ow,
         entries := cnt, peer := s.needsPeer ws }

/-! ### Linear transfers, scale records and KV import (R193-R195) -/

/-- A transfer of bytes through at most one descriptor. -/
def bytePlan (ds : List Desc) (runs : List (List PMove)) : Xfer :=
  { conv := ⟨.int8, .int8, false, true⟩, descs := ds, groups := [.ok runs] }

/-- The rows of a linear transfer from row r on, checked against the windows. -/
def Block.linWindows (s : Block) (c fa fs rb perm : Nat) : Nat → Nat → Check Unit
  | _, 0 => .ok ()
  | r, n + 1 => do
    s.bounceCheck c (fa + r * fs) (fa + r * fs + rb) perm
    s.linWindows c fa fs rb perm (r + 1) n

/-- LD.LIN and ST.LIN (R193, R202). -/
def Block.linPlan (s : Block) (c : Nat) (store : Bool) (en : Entry) : Check Xfer := do
  let host := en.f0 37 36 == 3
  let rows := en.f0 53 38 + 1
  let fa := en.f1 51 0
  let sp := en.f2 25 0
  let rb := en.f2 43 26 + 1
  let fs := en.f3 24 0
  let ss := en.f3 49 25
  failIf (decide (spTop + 1 < sp + (rows - 1) * ss + rb)) fltXfer (some 3)
  failIf (!host && !((s.coreOwner c).any (fun k => s.inLedAlloc k fa ((rows - 1) * fs + rb)))) fltXfer (some 3)
  if host then s.linWindows c fa fs rb (bbNeed store .int8) 0 rows
  pure (bytePlan [] ((List.range rows).map (fun r => (List.range rb).map (fun i =>
    let a := fa + r * fs + i
    ⟨⟨some (spKey c (sp + r * ss + i)), false, false⟩, if host then .host a false false else .led a false false⟩))))

/-- LD.SCALE and ST.SCALE (R194, R202). -/
def Block.scalePlan (s : Block) (c : Nat) (store : Bool) (en : Entry) : Check Xfer := do
  let t ← s.need c (en.f0 44 36)
  let sp := en.f1 25 0
  let k0 := en.f1 47 26
  let cnt := en.f1 63 48 + 1
  failIf (dSpace t != 1) fltSpace none
  failIf (dHome t || dFormat t != .nb4 || decide (dRegions t < k0 + cnt)) fltXfer (some 5)
  failIf (decide (spTop + 1 < sp + 96 * cnt)) fltXfer (some 3)
  failIf (sp % 32 != 0) fltAlign (some sp)
  pure (bytePlan [BitVec.ofNat 256 t] ((List.range cnt).map (fun i =>
    let at_ := dScalePlace t (k0 + i)
    (List.range 96).map (fun b =>
      ⟨⟨if store ∧ 68 ≤ b then none else some (spKey c (sp + 96 * i + b)), false, false⟩,
        .dram (dMember t at_.member) at_.row (at_.byte + b) false none⟩))))

/-- ST.KVIMPORT (R195, R202). -/
def Block.kvPlan (s : Block) (c : Nat) (en : Entry) : Check Xfer := do
  let d ← s.need c (en.f0 44 36)
  let cnt := en.f0 60 45 + 1
  let sp := en.f1 25 0
  let p0 := en.f1 47 26
  failIf (dSpace d != 1) fltSpace none
  let e := dRecord d
  failIf (!(dHome d) || e % 32 != 0 || decide (dSize d 1 < p0 + cnt)) fltXfer (some 4)
  failIf (decide (spTop + 1 < sp + cnt * e)) fltXfer (some 3)
  failIf (sp % 32 != 0) fltAlign (some sp)
  pure (bytePlan [BitVec.ofNat 256 d] ((List.range cnt).map (fun i =>
    let at_ := dPlace d [0, p0 + i, 0, 0]
    (List.range e).map (fun b =>
      ⟨⟨some (spKey c (sp + i * e + b)), false, false⟩,
        .dram (dMember d at_.member) at_.row (at_.byte + b) false none⟩))))

/-! ### Host requests (R200) -/

/-- Whether the port a request goes through is up now, and which it is: PORT codes 0 HA, 1 HB, 2 the attached port. -/
def Block.portNow (s : Block) (k code : Nat) : Option Port :=
  let p := if code = 2 then (if s.attState k = 1 then some (s.attPort k) else none) else some code
  match p with
  | some 0 => if s.dlUp 0 then some .ha else none
  | some _ => if s.dlUp 1 then some .hb else none
  | none => none

/-- Host read requests issued in order while a port is up and fewer than `room` are outstanding. -/
def Block.issueReads (s : Block) (k c e l : Nat) : Nat → List HostRead → Block × List HostRead
  | 0, rs => (s, rs)
  | _, [] => (s, [])
  | room + 1, r :: t =>
    if r.req.isSome then
      let (s, t) := s.issueReads k c e l (if r.got.isSome || r.fail != 0 then room + 1 else room) t
      (s, r :: t)
    else
      match s.portNow k r.port with
      | none => (s, r :: t)
      | some p =>
        let id := s.reqId
        let s := { s with reqId := id + 1, hostOut := s.hostOut ++ [HostMsg.read p r.addr r.len c (e == 5) l id] }
        let (s, t) := s.issueReads k c e l room t
        (s, { r with req := some id } :: t)

/-- Host writes issued in order while a port is up; a nibble's byte is read before it is written. -/
def Block.issueWrites (s : Block) (k c e l : Nat) : List HostWrite → Block × List HostWrite
  | [] => (s, [])
  | w :: t =>
    match s.portNow k w.port with
    | none => (s, w :: t)
    | some p =>
      let send := fun (s : Block) (bs : List Byte) =>
        let s := { s with hostOut := s.hostOut ++ [HostMsg.write p w.addr bs] }
        s.setRn (rC c 0xC28) (s.rn (rC c 0xC28) + bs.length)
      match w.half, w.merged, w.asked with
      | none, _, _ => (send s w.data).issueWrites k c e l t
      | some hi, some b, _ =>
        let v := nibOf ((w.data.headD 0#8).toNat) hi
        (send s [putNibble b hi v]).issueWrites k c e l t
      | some _, none, some _ => (s, w :: t)
      | some _, none, none =>
        let id := s.reqId
        ({ s with reqId := id + 1, hostOut := s.hostOut ++ [HostMsg.read p w.addr 1 c (e == 5) l id] },
          { w with asked := some id } :: t)

/-- Peer messages issued in order while the path is up (R273, R354). -/
def Block.issuePeers (s : Block) (k c : Nat) : List PeerSend → Block × List PeerSend
  | [] => (s, [])
  | x :: t => if s.canSend k x.dest then (s.peerSend k c x).issuePeers k c t else (s, x :: t)

/-- An issued transfer sends what it can now. -/
def Block.pump (s : Block) (c e l i : Nat) (en : Entry) : Block × Entry :=
  match s.coreOwner c with
  | none => (s, en)
  | some k =>
    let (s, rs) := s.issueReads k c e l 16 en.hreads
    let (s, ws) := s.issueWrites k c e l en.hwrites
    let (s, ps) := s.issuePeers k c en.psends
    let en := { en with hreads := rs, hwrites := ws, psends := ps }
    (s.mapEntry (qKey c e l) i (fun _ => en), en)

/-- Whether nothing of an issued transfer is outstanding. -/
def Entry.landed (en : Entry) : Bool :=
  en.hreads.isEmpty && en.hwrites.isEmpty && en.psends.isEmpty && en.preads.isEmpty

/-- Whether requests or messages of an issued transfer have still to leave. -/
def Entry.unsent (en : Entry) : Bool :=
  en.hreads.any (fun r => r.req.isNone && r.got.isNone && r.fail == 0) || !en.hwrites.isEmpty || !en.psends.isEmpty

/-! ### Issue and progress (R83, R202, R203) -/

/-- Groups carried out by an issued transfer: what the device holds is moved now, what lies outside is begun. A failure
ends the transfer once what it has begun has landed (DESIGN CHOICE, log entry 18). -/
def Block.carry (s : Block) (k c l : Nat) (store : Bool) (en : Entry) (gs : List Group) : Block × Entry :=
  let v := en.conv store en.descs en.ovfSat
  let (m, bad) := ({ s := s, wins := en.wins, gen := BitVec.ofNat 32 (s.rn (rSrseed c l)) } : Mover).carry k c store v gs
  let s := if store && v.draws then m.s.setRn (rSrseed c l) m.gen.toNat else m.s
  (s, { en with
    hreads := en.hreads ++ m.hreads, hwrites := en.hwrites ++ m.hwrites, psends := en.psends ++ m.psends,
    preads := en.preads ++ m.preads, pwrites := en.pwrites ++ m.pwrites,
    members := en.members ++ m.members.filter (fun x => !(en.members.contains x)), ownBlock := en.ownBlock || m.own,
    left := if bad.isSome then 0 else en.left, late := bad.map (fun b => (b.code, b.detail)) })

/-- What the next entry of an issued transfer's list or index tensor moves. -/
def Block.entryGroups (s : Block) (c : Nat) (store : Bool) (en : Entry) : Block × List Group :=
  if en.opcode = 1 then s.listEntry c store en en.next else s.indexEntry c store en en.next

/-- The value written to a generator while the store drew takes effect after its last element (R46). -/
def Block.seedDue (s : Block) (c l : Nat) (en : Entry) : Block × Entry :=
  match en.seed with
  | some v => if en.left = 0 then (s.setRn (rSrseed c l) v.toNat, { en with seed := none }) else (s, en)
  | none => (s, en)

/-- An issued transfer faults before its last element. -/
def Block.failXfer (s : Block) (c l i : Nat) (store : Bool) (en : Entry) (b : Bad) : Block :=
  (s.seedDue c l { en with left := 0 }).1.failEntry c (eXfer store) l i en b

/-- An issued transfer goes on: it sends what it can, and reads the next entry of its list or index tensor once nothing of
the entries before it waits to leave (R83, R191; DESIGN CHOICE, log entry 18). -/
def Block.proceed (s : Block) (k c l i : Nat) (store : Bool) : Nat → Entry → Block × Entry
  | 0, en => s.pump c (eXfer store) l i en
  | n + 1, en =>
    let (s, en) := s.pump c (eXfer store) l i en
    if en.left = 0 ∨ en.unsent then (s, en)
    else
      let (s, gs) := s.entryGroups c store en
      let (s, en) := s.carry k c l store { en with next := en.next + 1, left := en.left - 1 } gs
      let (s, en) := s.seedDue c l en
      s.proceed k c l i store n en

/-- A transfer whose execution has met a fault ends once nothing of it is outstanding. -/
def Block.endLate (s : Block) (c l i : Nat) (store : Bool) (en : Entry) : Block :=
  match en.late with
  | some (code, d) => if en.landed then s.failXfer c l i store en ⟨code, d⟩ else s
  | none => s

/-- An issued transfer goes on as far as it can. -/
def Block.goOn (s : Block) (k c l i : Nat) (store : Bool) (en : Entry) : Block :=
  let (s, en) := s.proceed k c l i store en.left en
  s.endLate c l i store en

/-- A checked transfer issues for partition k: it keeps its descriptor copies, its owner table and its windows, moves what
it can, and goes on. -/
def Block.startXfer (s : Block) (k c l i : Nat) (store : Bool) (en : Entry) (x : Xfer) : Block :=
  let en := { en with
    stage := .issued, esize := x.conv.dst.size, descs := x.descs, ovfSat := s.ovfSat c, owners := x.owners,
    wins := s.hostWins k (bbNeed store x.conv.dst), left := x.entries }
  let (s, en) := s.carry k c l store en x.groups
  s.goOn k c l i store en

/-- Position of the oldest store of a lane that is still drawing. -/
def drawingPos (q : List Entry) : Option Nat :=
  q.findIdx? (fun en => en.stage == .issued && en.left != 0 && (en.conv true en.descs en.ovfSat).draws)

/-- Whether an earlier store of the lane that rounds stochastically has still to draw for entries it has not read: its
draws come first (R45, R46). -/
def Block.drawing (s : Block) (c l : Nat) : Bool :=
  (drawingPos (s.queue (qKey c 5 l))).isSome

/-- A transfer entry comes to its issue point (R202, R203, R440). -/
def Block.xferIssue (s : Block) (c l : Nat) (store : Bool) (op : Nat) (plan : Block → Entry → Check Xfer) : Block :=
  let e := eXfer store
  match s.gate c e l op 16 noUses with
  | .error s => s
  | .ok (s, i, en) =>
    match plan s en, s.coreOwner c with
    | .error b, _ => s.failEntry c e l i en b
    | .ok _, none => s
    | .ok x, some k =>
      match (if x.peer then s.jobKeyFault k else none) with
      | some d => s.faultEntry c e l i en 0xB0 d
      | none => if store && x.conv.draws && s.drawing c l then s else s.startXfer k c l i store en x

/-- `LD_BOX` (R188). -/
def execLdBox (core : CoreId) (lane : Lane) (st : State) : Host.Outcome State Fault Refusal := st.act fun s =>
  .next (s.xferIssue core.val lane.num false 0x00 (fun s en => s.boxPlan core.val false en))

/-- `ST_BOX` (R188, R189). -/
def execStBox (core : CoreId) (lane : Lane) (st : State) : Host.Outcome State Fault Refusal := st.act fun s =>
  .next (s.xferIssue core.val lane.num true 0x00 (fun s en => s.boxPlan core.val true en))

/-- `LD_GATHER` (R192). -/
def execLdGather (core : CoreId) (lane : Lane) (st : State) : Host.Outcome State Fault Refusal := st.act fun s =>
  .next (s.xferIssue core.val lane.num false 0x01 (fun s en => s.listPlan core.val false en))

/-- `ST_SCATTER` (R192). -/
def execStScatter (core : CoreId) (lane : Lane) (st : State) : Host.Outcome State Fault Refusal := st.act fun s =>
  .next (s.xferIssue core.val lane.num true 0x01 (fun s en => s.listPlan core.val true en))

/-- `LD_INDEX` (R191). -/
def execLdIndex (core : CoreId) (lane : Lane) (st : State) : Host.Outcome State Fault Refusal := st.act fun s =>
  .next (s.xferIssue core.val lane.num false 0x02 (fun s en => s.indexPlan core.val false en))

/-- `ST_INDEX` (R191). -/
def execStIndex (core : CoreId) (lane : Lane) (st : State) : Host.Outcome State Fault Refusal := st.act fun s =>
  .next (s.xferIssue core.val lane.num true 0x02 (fun s en => s.indexPlan core.val true en))

/-- `LD_LIN` (R193). -/
def execLdLin (core : CoreId) (lane : Lane) (st : State) : Host.Outcome State Fault Refusal := st.act fun s =>
  .next (s.xferIssue core.val lane.num false 0x03 (fun s en => s.linPlan core.val false en))

/-- `ST_LIN` (R193). -/
def execStLin (core : CoreId) (lane : Lane) (st : State) : Host.Outcome State Fault Refusal := st.act fun s =>
  .next (s.xferIssue core.val lane.num true 0x03 (fun s en => s.linPlan core.val true en))

/-- `LD_SCALE` (R194). -/
def execLdScale (core : CoreId) (lane : Lane) (st : State) : Host.Outcome State Fault Refusal := st.act fun s =>
  .next (s.xferIssue core.val lane.num false 0x04 (fun s en => s.scalePlan core.val false en))

/-- `ST_SCALE` (R194). -/
def execStScale (core : CoreId) (lane : Lane) (st : State) : Host.Outcome State Fault Refusal := st.act fun s =>
  .next (s.xferIssue core.val lane.num true 0x04 (fun s en => s.scalePlan core.val true en))

/-- `ST_KVIMPORT` (R195). -/
def execStKvimport (core : CoreId) (lane : Lane) (st : State) : Host.Outcome State Fault Refusal := st.act fun s =>
  .next (s.xferIssue core.val lane.num true 0x05 (fun s en => s.kvPlan core.val en))

/-! ### Answers and completion (R200, R201) -/

/-- Data of a host or peer read written where its elements land. -/
def Block.land (s : Block) (esize : Nat) (data : List Byte) : List Landing → Block
  | [] => s
  | x :: t =>
    let v := if esize = 4 then nibOf ((data[x.off]?).getD 0#8).toNat x.srcHi
      else ofBytes ((data.drop x.off).take (esize / 8))
    let sc := if esize = 4 then (if x.tail then s.scratch.set byteZero x.key (BitVec.ofNat 8 (v % 16))
        else s.scratch.set byteZero x.key (putNibble (s.scratch.get byteZero x.key) x.hi v))
      else writeBytes s.scratch x.key (leBytes v (esize / 8))
    ({ s with scratch := sc }).land esize data t

/-- Answered requests applied in the order they were issued, up to the first that is unanswered or failed (R200)
(DEDUCED, log entry 115). -/
def Block.applyReads (s : Block) (esize : Nat) : List HostRead → Block × List HostRead × Option Bad
  | [] => (s, [], none)
  | r :: t =>
    if r.fail ≠ 0 then (s, r :: t, some ⟨0x53, some (r.addr + r.fail <<< 52)⟩)
    else match r.got with
      | some d => (s.land esize d r.elems).applyReads esize t
      | none => (s, r :: t, none)

/-- The answer as the entry records it: the data, or the failure code of R205. -/
def answerOf (r : HostReadResult) (len : Nat) : Option (List Byte) × Nat :=
  match r with
  | .data bs => (some (bs.take len), 0)
  | .unsupported => (none, 1)
  | .abort => (none, 2)
  | .poisoned => (none, 3)

/-- An answer put into the request it answers. -/
def Entry.answer (en : Entry) (id : Nat) (r : HostReadResult) : Entry :=
  { en with
    hreads := en.hreads.map (fun x => if x.req = some id then
      { x with got := (answerOf r x.len).1, fail := (answerOf r x.len).2 } else x)
    hwrites := en.hwrites.map (fun w => if w.asked = some id then
      { w with merged := (answerOf r 1).1.map (fun b => b.headD 0#8) } else w) }

/-- Whether an entry waits for a request. -/
def Entry.asks (id : Nat) (en : Entry) : Bool :=
  en.stage == .issued && (en.hreads.any (fun x => x.req == some id && x.got.isNone && x.fail == 0) ||
    en.hwrites.any (fun w => w.asked == some id && w.merged.isNone))

/-- Bytes of host memory that an answer brings to the request it answers (R204). -/
def Entry.bytesFor (en : Entry) (id : Nat) (r : HostReadResult) : Nat :=
  if (answerOf r 1).2 ≠ 0 then 0
  else ((en.hreads.find? (fun x => x.req == some id)).map (·.len)).getD
    (if en.hwrites.any (fun w => w.asked == some id) then 1 else 0)

/-- The failure of a nibble's read (R200). -/
def Entry.writeFail (en : Entry) (id : Nat) (r : HostReadResult) : Option Bad :=
  match en.hwrites.find? (fun w => w.asked == some id), (answerOf r 1).2 with
  | some _, 0 => none
  | some w, n => some ⟨0x53, some (w.addr + n <<< 52)⟩
  | none, _ => none

/-- `HOST_READ_COMPLETION`: data is written in request order; a failed request faults the transfer once every request
before it has landed (R200). -/
def execHostReadCompletion (core : CoreId) (store : Bool) (lane : Lane) (request : Nat) (result : HostReadResult)
    (st : State) : Host.Outcome State Fault Refusal := st.act fun s =>
  let c := core.val
  let e := eXfer store
  let l := lane.num
  .next <| match (s.queue (qKey c e l)).findIdx? (Entry.asks request) with
  | none => s
  | some i =>
    match (s.queue (qKey c e l))[i]? with
    | none => s
    | some en =>
      match en.writeFail request result with
      | some b => s.failXfer c l i store en b
      | none =>
        let s := s.setRn (rC c 0xC20) (s.rn (rC c 0xC20) + en.bytesFor request result)
        let en := en.answer request result
        let (s, rs, bad) := s.applyReads en.esize en.hreads
        let en := { en with hreads := rs }
        let s := s.mapEntry (qKey c e l) i (fun _ => en)
        match bad, s.coreOwner c with
        | some b, _ => s.failXfer c l i store en b
        | none, some k => s.goOn k c l i store en
        | none, none => s

/-- The next address a transfer would access (R205). -/
def Entry.nextAddr (en : Entry) : Option Nat :=
  match en.hreads.find? (fun r => r.req.isNone), en.hwrites.head? with
  | some r, _ => some r.addr
  | none, some w => some w.addr
  | none, none => none

/-- Whether an issued transfer of partition k waits for a port that is down: one of its windows', or the peer port
(R200, R273). -/
def Block.waitsDown (s : Block) (k : Nat) (en : Entry) : Bool :=
  en.hreads.any (fun r => r.req.isNone && (s.portNow k r.port).isNone) ||
    en.hwrites.any (fun w => (s.portNow k w.port).isNone) ||
    (!(en.psends.isEmpty && en.preads.isEmpty) && !s.peerUp)

/-- Whether a transfer waits for what a timeout limits: a port that is down, or the answers of peers, which may have been
lost (R200, R354). -/
def Block.overdue (s : Block) (c : Nat) (en : Entry) : Bool :=
  match s.coreOwner c with
  | none => false
  | some k => s.waitsDown k en || !en.preads.isEmpty || !en.psends.isEmpty

/-- Reads of partition k that were outstanding on port p when its link was lost: they are asked for again (R200). -/
def Entry.forget (en : Entry) (p : Nat) (attached : Bool) : Entry :=
  let here := fun code => code == p || (code == 2 && attached)
  { en with
    hreads := en.hreads.map (fun r => if here r.port && r.got.isNone && r.fail == 0 then { r with req := none } else r)
    hwrites := en.hwrites.map (fun w => if here w.port && w.merged.isNone then { w with asked := none } else w) }

/-- The link of port p lost to the transfers of every core; `ks` are the partitions attached through it. -/
def Block.forgetReads (s : Block) (p : Nat) (ks : List Nat) : Block :=
  [0, 1, 2, 3, 4, 5, 6, 7].foldl (fun s c =>
    let attached := (s.coreOwner c).any (fun k => ks.contains k)
    [qKey c 4 0, qKey c 4 1, qKey c 5 0, qKey c 5 1].foldl (fun s k =>
      s.setQueue k ((s.queue k).map (fun en => en.forget p attached))) s) s

/-- A Y.RSIG that waits at the head of the sync engine for its path faults (R273); the spec gives no address. -/
def Block.rsigTimeout (s : Block) (c e l : Nat) : Block :=
  match headPos (s.queue (qKey c e l)) with
  | none => s
  | some i =>
    match (s.queue (qKey c e l))[i]? with
    | none => s
    | some en => if e = 6 ∧ en.opcode = 4 ∧ en.sense then s.failEntry c e l i en ⟨0x54, none⟩ else s

/-- `TRANSFER_HOST_TIMEOUT`: the oldest issued transfer, where it waits for a port that is down or for a peer, faults; a
peer path has no address to name (R200, R273, R354). -/
def execTransferHostTimeout (core : CoreId) (engine : Engine) (lane : Lane) (st : State) :
    Host.Outcome State Fault Refusal := st.act fun s =>
  let c := core.val
  let e := engine.num
  let l := lane.num
  .next <| match s.issued? (qKey c e l) with
  | some (i, en) => if s.overdue c en then s.failXfer c l i (e == 5) en ⟨0x54, en.nextAddr⟩ else s
  | none => s.rsigTimeout c e l

/-- The destination core a remote signal's header names: the counter's core, else the sender's own number (log
entry 19). -/
def rsigCore (c n : Nat) : Nat := if n < 0x200 then n / 64 else c

/-- The signals of a completed SPACE 4 store to the other modules of which it has written blocks, behind its last block
on each path (R269, R273). -/
def Entry.signals (en : Entry) (c : Nat) : List PeerSend :=
  if en.sige && en.late.isNone then
    en.members.map (fun m => ⟨3, m, rsigCore c en.sig, 0, [en.sig, 1], [], 0, [], 0⟩)
  else []

/-- Whether the destination of an entry's store is distributed. -/
def Entry.shared (en : Entry) : Bool := en.descs.getLast?.any (fun d => dSpace d.toNat == 4)

/-- A transfer of which nothing is outstanding completes; the store of a SPACE 4 tensor signals its own module only where
it has written one of its blocks (R201, R269). -/
def Block.completeXfer (s : Block) (c l i : Nat) (store : Bool) (en : Entry) : Block :=
  if store && en.shared && !en.ownBlock then s.finishEntry (qKey c (eXfer store) l) i
  else s.endEntry c (eXfer store) l i en

/-- `TRANSFER_COMPLETE`: the oldest issued transfer goes on, and completes once nothing of it is outstanding and its
signals to other modules have been sent (R201, R269, R273). -/
def execTransferComplete (core : CoreId) (store : Bool) (lane : Lane) (st : State) : Host.Outcome State Fault Refusal := st.act fun s =>
  let c := core.val
  let e := eXfer store
  let l := lane.num
  .next <| match s.issued? (qKey c e l), s.coreOwner c with
  | none, _ => s
  | some _, none => s
  | some (i, en), some k =>
    let (s, en) := s.proceed k c l i store en.left en
    if !en.landed || en.left != 0 then s
    else match en.late with
      | some (code, d) => s.failXfer c l i store en ⟨code, d⟩
      | none =>
        let (s, en) := s.pump c e l i { en with psends := en.signals c, members := [] }
        if en.psends.isEmpty then s.completeXfer c l i store en else s

/-! ### Seeds (R46) -/

/-- The write of SRSEED (R46): 0 is reserved; while a store of the lane draws, the write waits for its last element. -/
def Block.writeSrseed (s : Block) (c l v : Nat) : Option Block :=
  if v = 0 then none
  else match drawingPos (s.queue (qKey c 5 l)) with
    | some i => some (s.mapEntry (qKey c 5 l) i (fun en => { en with seed := some (BitVec.ofNat 32 v) }))
    | none => some (s.setRn (rSrseed c l) v)

/-- `SRSEED_WRITE` (R46). -/
def execSrseedWrite (req : Requester) (core : CoreId) (lane : Lane) (value : BitVec 32) (st : State) :
    Host.Outcome State Fault Refusal := st.act fun s =>
  .next (s.guarded req (rSrseed core.val lane.num) value.toNat
    (fun s => s.writeSrseed core.val lane.num value.toNat))

end Sys2Proof.Machine
end

