-- ==== Sys2Proof/Machine/Ports.lean ====
section
/-!
DEFINITION. Opening and closing rings, cursors, path fences, attachment and loss of the host, and the ports
(12_host_interface.md, R316-R320, R325-R327, R334, R338, R340, R343-R349, R357).
-/
namespace Sys2Proof.Machine

/-! ### Opening and closing (R325-R327) -/

/-- First byte of ring r's completion ring in the Ledger, and its size (R324, R356). -/
def Block.cring (s : Block) (r : Nat) : Nat × Nat := (0x480000 + 8192 * s.rn (rRing r 0x10), 32 * s.csize r)

/-- First byte and size of ring r's result area (R336). -/
def Block.rarea (s : Block) (r : Nat) : Nat × Nat := (s.rn (rRing r 0x20), s.rcount r * s.rsize r)

/-- Whether two byte ranges share a byte. -/
def rangesMeet (a b : Nat × Nat) : Bool := decide (a.1 < b.1 + b.2) && decide (b.1 < a.1 + a.2) && a.2 != 0 && b.2 != 0

/-- REASON 0x4 of R325: the completion ring is misaligned, passes the region's end, or overlaps another open ring's. -/
def Block.cringBad (s : Block) (r : Nat) : Bool :=
  let place := 256 * s.rn (rRing r 0x10)
  place % s.csize r != 0 || decide (65536 < place + s.csize r) ||
    (List.range 9).any (fun q => q != r && s.ringOpen q && rangesMeet (s.cring r) (s.cring q))

/-- Whether a byte range lies in one write window of partition k (R198). -/
def Block.inWriteWindow (s : Block) (k a n : Nat) : Bool :=
  (List.range 8).any (fun i => s.bbGrants k i a 2 && decide (a + n ≤ (s.bbRange k i).2 + 1))

/-- REASON 0x5 of R325. -/
def Block.rareaBad (s : Block) (r k : Nat) : Bool :=
  let (a, n) := s.rarea r
  s.rcount r != 0 && (s.rsize r == 0 ||
    !(if s.ringPath r = 2 then s.inWriteWindow k a n else s.inLedAlloc k a n))

/-- REASON 0x6 of R325. -/
def Block.mirrorBad (s : Block) (r k : Nat) : Bool :=
  (s.ringPath r == 2 && !(s.inWriteWindow k (s.rn (rRing r 0x30)) (32 * s.csize r))) ||
    (s.fld (rRing r 0) 11 11 == 1 && !(s.inWriteWindow k (s.rn (rRing r 0x38)) 16))

/-- Why an OPEN is refused; 0 where it is not (R325). -/
def Block.openReason (s : Block) (r : Nat) : Nat :=
  let k := s.ringPart r
  let w := s.ringWriter r
  if s.ringOpen r then 1
  else if s.partState k ≠ 1 ∨ (r < 8 ∧ s.coreOwner r ≠ some k) then 2
  else if w ≠ 0 ∧ s.seqOwner (w - 16) ≠ some k then 3
  else if s.cringBad r then 4
  else if s.rareaBad r k then 5
  else if s.mirrorBad r k then 6
  else 0

/-- Ledger bytes that read as 0 again. -/
def Block.ledZero (s : Block) (a n : Nat) : Block := { s with ledger := s.ledger.dropRange a (a + n) }

/-- A sequencer with nothing in its windows. -/
def idleSeq (_ : Nat) : SeqSt := {}
/-- What sequencer q holds. -/
def Block.seq (s : Block) (q : Nat) : SeqSt := s.seqs.get idleSeq q
/-- What sequencer q holds changed. -/
def Block.onSeq (s : Block) (q : Nat) (f : SeqSt → SeqSt) : Block :=
  { s with seqs := s.seqs.set idleSeq q (f (s.seq q)) }
/-- No event seen. -/
def noneSeen (_ : Nat) : Nat := 0
/-- Sequencer q has seen CHEAD and CREDIT of a ring at 0 (R459). -/
def Block.forgetEvents (s : Block) (q r : Nat) : Block :=
  s.onSeq q (fun x => { x with seenHead := x.seenHead.set noneSeen r 0, seenCredit := x.seenCredit.set noneSeen r 0 })

/-- What an accepted OPEN sets (R326, R464). -/
def Block.openRing (s : Block) (r : Nat) : Block :=
  let s := [rRg r 0, rRing r 0xC, rRing r 0x14, rRing r 0x18, rRing r 0x2C, rRing r 0x28].foldl
    (fun s a => s.setRn a 0) s
  let s := s.setRn (rRg r 4) (s.rn (rRing r 8))
  let s := { s with lines := s.lines.dropRange (lineKey r 0) (lineKey (r + 1) 0) }
  let s := s.onRing r (fun _ => {})
  let s := s.ledZero (s.cring r).1 (s.cring r).2
  let s := if s.ringPath r = 2 then s else s.ledZero (s.rarea r).1 (s.rarea r).2
  let s := if s.ringWriter r = 0 then s else (s.forgetEvents (s.ringWriter r - 16) r).setRn (rPutn (s.ringWriter r - 16) r) 0
  s.setFld (rRing r 0) 0 0 1

/-- RCTL.OPEN (R325, R326). -/
def Block.tryOpen (s : Block) (r : Nat) : Block :=
  let c := s.openReason r
  let s := if c = 0 then s.openRing r else s
  s.setRn (rRing r 0x54) c

/-- Whether a ring may close: no line held, no record unposted, every place returned (R327). -/
def Block.mayClose (s : Block) (r : Nat) : Bool :=
  (List.range 8192).all (fun p => (s.lineAt r p).isNone) && (s.ringItems r).isEmpty && (s.ring r).asm.isNone &&
    s.rn (rRing r 0x14) == s.rn (rRing r 0x18)

/-- RCTL.CLOSE; a closed ring's completion ring reads as 0 (R327). -/
def Block.tryClose (s : Block) (r : Nat) : Option Block :=
  if s.ringOpen r && s.mayClose r then
    some ((s.ledZero (s.cring r).1 (s.cring r).2).setFld (rRing r 0) 0 0 0)
  else none

/-- The write of RCTL (R356). -/
def Block.writeRctl (s : Block) (r v : Nat) : Option Block :=
  if bit v 0 && bit v 1 then none
  else if bit v 0 then some (s.tryOpen r)
  else if bit v 1 then s.tryClose r
  else some s

/-- `RING_OPEN` (R325, R326). -/
def execRingOpen (req : Requester) (ring : RingId) (st : State) : Host.Outcome State Fault Refusal := st.act fun s =>
  .next (s.guarded req (rRing ring.val 4) 1 (fun s => s.writeRctl ring.val 1))

/-- `RING_CLOSE` (R327). -/
def execRingClose (req : Requester) (ring : RingId) (st : State) : Host.Outcome State Fault Refusal := st.act fun s =>
  .next (s.guarded req (rRing ring.val 4) 2 (fun s => s.writeRctl ring.val 2))

/-! ### Cursors (R334, R338) -/

/-- The write of CTAIL (R334). -/
def Block.writeCtail (s : Block) (r v : Nat) : Option Block :=
  let t := s.rn (rRing r 0x18)
  if sub32 v t ≤ sub32 (s.rn (rRing r 0x14)) t then some (s.setRn (rRing r 0x18) v) else none

/-- `CTAIL_WRITE` (R334). -/
def execCtailWrite (req : Requester) (ring : RingId) (value : BitVec 32) (st : State) : Host.Outcome State Fault Refusal := st.act fun s =>
  .next (s.guarded req (rRing ring.val 0x18) value.toNat (fun s => s.writeCtail ring.val value.toNat))

/-- Whether releasing up to v would release a slot whose item's record is not posted (R338). -/
def Block.relTooFar (s : Block) (r v : Nat) : Bool :=
  let t := s.rn (rRing r 0x28)
  decide (sub32 (s.rn (rRing r 0x2C)) t < sub32 v t) || (s.ringItems r).any (fun i => match i.slotK with
    | some k => decide (sub32 k.toNat t < sub32 v t)
    | none => false)

/-- The write of RREL (R338). -/
def Block.writeRrel (s : Block) (r v : Nat) : Option Block :=
  if s.relTooFar r v then none else some (s.setRn (rRing r 0x28) v)

/-- `RREL_WRITE` (R338). -/
def execRrelWrite (req : Requester) (ring : RingId) (value : BitVec 32) (st : State) : Host.Outcome State Fault Refusal := st.act fun s =>
  .next (s.guarded req (rRing ring.val 0x28) value.toNat (fun s => s.writeRrel ring.val value.toNat))

/-! ### Fence words (R340) -/

/-- A fence read of path 0 M, 1 I or 2 D is completed with a timestamp, after the writes it orders. -/
def Block.fence (s : Block) (port : Port) (path time : Nat) : Block :=
  { s with hostOut := s.hostOut ++ [HostMsg.fence port path time] }

/-- Whether a port is in use: its link is up and the module is out of Night. -/
def Block.portLive (s : Block) (p : Nat) : Bool := s.dlUp p && s.life != .night && s.life != .dark

/-- `PATHFENCE_M_READ` (R340): only a port in a CXL mode has the HDM range (R317). -/
def execPathfenceMRead (port : Port) (st : State) : Host.Outcome State Fault Refusal := st.act fun s =>
  .next (if s.portLive port.num && s.hasHdm port.num then ((s.showWindow s.stamp).catchUp 0).fence port 0 s.now else s)

/-- `PATHFENCE_I_READ` (R340). -/
def execPathfenceIRead (port : Port) (st : State) : Host.Outcome State Fault Refusal := st.act fun s =>
  .next (if s.portLive port.num then ((s.showWindow s.stamp).catchUp 1).fence port 1 s.now else s)

/-- `PATHFENCE_D_READ` (R340): a read of BAR0, 0 while Dawn lasts (R479). -/
def execPathfenceDRead (port : Port) (st : State) : Host.Outcome State Fault Refusal := st.act fun s =>
  .next (if s.portLive port.num then
    (s.dropHeld (.port port)).fence port 2 (if s.life = .dawn then 0 else s.now)
  else s)

/-! ### Attachment (R343-R348) -/

/-- A partition that was never attached. -/
def noAttach (_ : Nat) : Attach := {}
/-- What the security block keeps of partition k's attachment. -/
def Block.att (s : Block) (k : Nat) : Attach := s.attach.get noAttach k
/-- Attachment of partition k changed. -/
def Block.onAtt (s : Block) (k : Nat) (f : Attach → Attach) : Block :=
  { s with attach := s.attach.set noAttach k (f (s.att k)) }
/-- ATT.k.STATE set. -/
def Block.setAttState (s : Block) (k v : Nat) : Block := s.setFld (rHi (0x500 + 4 * k)) 1 0 v

/-- A partition becomes ATTACHED on port p under a new token (R344): the answer's first part. -/
def Block.attachTo (s : Block) (k p : Nat) : Nat × Block :=
  let (x, s) := s.draw
  let tok := x % 2 ^ 48
  let s := s.onAtt k (fun a => { a with token := tok })
  (tok, s.setRn (rHi (0x500 + 4 * k)) (1 + 4 * p))

/-- Each open host-written ring of partition k is settled (R346). -/
def Block.settlePart (s : Block) (k : Nat) : Block :=
  (List.finRange 9).foldl (fun s r =>
    if s.ringOpen r.val && s.ringPart r.val == k && s.ringWriter r.val == 0 then s.settleRing r else s) s

/-- A partition becomes ORPHANED; one that was ATTACHED has its host-written rings settled (R345, R346, R348), but
in Twilight no line is accepted (R393) and replay settles them (R395). -/
def Block.orphan (s : Block) (k : Nat) : Block :=
  let was := s.attState k
  let s := s.setAttState k 2
  if was = 1 ∧ s.life ≠ .twilight then s.settlePart k else s

/-- A PORT event (R522). -/
def Block.portEvent (s : Block) (p cause part : Nat) : Block :=
  s.logEvent 0x30 (unitPort p) (s.rn (rHi (0x10 * p)) + cause <<< 32 + part <<< 40)

/-- The partitions of a list become ORPHANED through port p, one PORT event each, or one event where there is none
(R345, R522) (DEDUCED, log entry 56). -/
def Block.loseParts (s : Block) (p cause : Nat) (ks : List Nat) : Block :=
  if ks.isEmpty then s.portEvent p cause 0xFF
  else ks.foldl (fun s k => (s.orphan k).portEvent p cause k) s

/-- Partitions in an attachment state on port p: 1 ATTACHED, 3 PENDING. -/
def Block.partsOn (s : Block) (p state : Nat) : List Nat :=
  (List.range 8).filter (fun k => s.attState k == state && s.attPort k == p)

/-- The end of a secured session returns the PENDING partitions of its port to ORPHANED (R348, R430) (DEDUCED, log
entry 60). -/
def Block.dropPending (s : Block) (p : Nat) : Block := (s.partsOn p 3).foldl (fun s k => s.setAttState k 2) s

/-- Every session of a port ends (R428), each logged (R446). -/
def Block.endSessions (s : Block) (p : Nat) : Block :=
  let gone := s.sessions.filter (fun x => x.port.num == p)
  let s := { s with sessions := s.sessions.filter (fun x => x.port.num != p) }
  gone.foldl (fun s _ => s.logEvent 0xC0 (unitPort p) (secBody 2 p 0 0 0)) s

/-- No IDE key. -/
def noIdeKey (_ : Nat) : Option IdeKey := none

/-- Whether a stream of port p is secure: its link stream, or its selective one. -/
def Block.ideSecure (s : Block) (p : Nat) : Bool :=
  (s.ideKeys.get noIdeKey (2 * p)).isSome || (s.ideKeys.get noIdeKey (2 * p + 1)).isSome

/-- A port's data link goes down (R345, R349): PORTSTAT reads as untrained, PORTDOWNS counts (DEDUCED, log entry 57), reads
outstanding on it will be asked for again (R200), and its streams are insecure until they are keyed again (R320). -/
def Block.linkLost (s : Block) (p cause : Nat) : Block :=
  let ks := s.partsOn p 1 ++ s.partsOn p 3
  let s := { s with ideKeys := (s.ideKeys.set noIdeKey (2 * p) none).set noIdeKey (2 * p + 1) none }
  let s := ((s.forgetReads p (s.partsOn p 1)).setRn (rHi (0x10 * p)) 0).bump32 (rHi (4 + 0x10 * p)) 1
  (s.loseParts p cause ks).endSessions p

/-- `DL_DOWN` (R345, R349). -/
def execDlDown (port : Port) (st : State) : Host.Outcome State Fault Refusal := st.act fun s =>
  .next (if s.portLive port.num then s.linkLost port.num 1 else s)

/-- `PERST` (R349): its assertion is handled as a DL_Down. -/
def execPerst (port : Port) (asserted : Bool) (st : State) : Host.Outcome State Fault Refusal := st.act fun s =>
  .next (if asserted && s.portLive port.num then s.linkLost port.num 4 else s)

/-- `IDE_INTEGRITY_FAILURE` (R320): the failing content is discarded, and the link of a port with a secure stream goes
down, in containment and in skid mode. -/
def execIdeIntegrityFailure (port : Port) (st : State) : Host.Outcome State Fault Refusal := st.act fun s =>
  .next (if s.portLive port.num && s.ideSecure port.num then s.linkLost port.num 5 else s)

/-- `HOT_RESET` (R345) (DEDUCED, log entry 58). -/
def execHotReset (port : Port) (st : State) : Host.Outcome State Fault Refusal := st.act fun s =>
  .next (if s.portLive port.num then s.loseParts port.num 2 (s.partsOn port.num 1) else s)

/-- `FUNCTION_LEVEL_RESET` (R345). -/
def execFunctionLevelReset (port : Port) (st : State) : Host.Outcome State Fault Refusal := st.act fun s =>
  .next (if s.portLive port.num then s.loseParts port.num 3 (s.partsOn port.num 1) else s)

/-- ATT.k.DETACH (R345, R355): no effect unless ATTACHED. -/
def Block.detach (s : Block) (k : Nat) : Block :=
  if s.attState k = 1 then s.loseParts (s.attPort k) 6 [k] else s

/-- The write of ATT.k (R355). -/
def Block.writeAtt (s : Block) (k v : Nat) : Option Block := some (if bit v 3 then s.detach k else s)

/-- `DETACH` (R345). -/
def execDetach (req : Requester) (part : PartId) (st : State) : Host.Outcome State Fault Refusal := st.act fun s =>
  .next (s.guarded req (rHi (0x500 + 4 * part.val)) 8 (fun s => s.writeAtt part.val 8))

/-- A re-attach refused: REATTSTAT and a violation (R348, R350). -/
def Block.reattRefuse (s : Block) (p result fails : Nat) : Block :=
  (s.setRn (rHi 0x548) (result + 4 * fails)).violation p 0x08 1 (rHi 0x540)

/-- HI.REATT.GO through port p (R347, R348). -/
def Block.reattach (s : Block) (p tok k : Nat) : Block :=
  let a := s.att k
  if a.locked then s.reattRefuse p 3 (s.fld (rHi 0x548) 5 2)
  else if s.attState k = 2 ∧ a.token = tok ∧ s.portGranted k p then
    let s := (s.onAtt k (fun a => { a with fails := 0 })).setRn (rHi (0x500 + 4 * k)) (3 + 4 * p)
    s.setRn (rHi 0x548) 1
  else
    let n := min 8 (a.fails + 1)
    (s.onAtt k (fun a => { a with fails := n, locked := decide (8 ≤ n) })).reattRefuse p 2 n

/-- The write of HI.REATT (R355): from a host port only (R426). -/
def Block.writeReatt (s : Block) (r : Requester) (v : Nat) : Option Block :=
  match r with
  | .port p => some (if bit v 63 then s.reattach p.num (v % 2 ^ 48) (bits v 50 48) else s)
  | _ => none

/-- `REATT` (R347). -/
def execReatt (req : Requester) (token : BitVec 48) (part : PartId) (st : State) : Host.Outcome State Fault Refusal := st.act fun s =>
  let v := token.toNat + part.val <<< 48 + 2 ^ 63
  .next (s.guarded req (rHi 0x540) v (fun s => s.writeReatt req v))

/-- `REATT_LOCKOUT_END` (R348): the count of refusals stays (DEDUCED, log entry 61). -/
def execReattLockoutEnd (part : PartId) (st : State) : Host.Outcome State Fault Refusal := st.act fun s =>
  .next (s.onAtt part.val (fun a => { a with locked := false }))

/-- The write of VIOCLR (R357). -/
def Block.writeVioclr (s : Block) (v : Nat) : Option Block :=
  some (if bit v 0 then (List.range 10).foldl (fun s c => s.setRn (rHi (0x104 + 4 * c)) 0) s else s)

/-- `VIOCLR` (R357). -/
def execVioclr (req : Requester) (st : State) : Host.Outcome State Fault Refusal := st.act fun s =>
  .next (s.guarded req (rHi 0x148) 1 (fun s => s.writeVioclr 1))

/-! ### Training (R316, R317, R349) -/

/-- Whether MC.DAWNSTAT.STEP reads FW_FAIL (R480). -/
def Block.fwFail (s : Block) : Bool := s.fld (rMc 0x10) 3 0 == 10

/-- Whether a port can train to a mode: its PHY is on, HB only when bifurcated, a width and a generation the mode
allows, and PCIe only after a firmware failure (R316, R317, R480). -/
def Block.mayTrain (s : Block) (p proto gen width : Nat) : Bool :=
  (s.life == .dawn || s.life == .service) && s.domOn (44 + p) && (p == 0 || s.bifurcated) &&
    [1, 2, 4, 8, 16].contains width && (!s.bifurcated || decide (width ≤ 8)) && decide (1 ≤ gen) &&
    decide (gen ≤ (if proto = 1 ∨ proto = 2 then 5 else 6)) && (proto == 0 || !s.fwFail)

/-- No width reached. -/
def noWidth (_ : Nat) : Nat := 0

/-- The width a port reaches: recorded in Dawn, and a failed part where it is below the least so far (R386) (DEDUCED, log entry 59). -/
def Block.noteWidth (s : Block) (p width : Nat) : Block :=
  let w := s.dawnWidth.get noWidth p
  if s.life = .dawn ∨ w = 0 then { s with dawnWidth := s.dawnWidth.set noWidth p width }
  else if width < w then { s with dawnWidth := s.dawnWidth.set noWidth p width }.failPart (.lanes p width)
  else s

/-- `LINK_UP` (R317, R349): nothing is attached by itself, and the stream is insecure until it is keyed (R320). -/
def execLinkUp (port : Port) (proto : BitVec 2) (gen : BitVec 3) (width : BitVec 5) (st : State) :
    Host.Outcome State Fault Refusal := st.act fun s =>
  let p := port.num
  .next (if s.mayTrain p proto.toNat gen.toNat width.toNat then
    (s.setRn (rHi (0x10 * p)) (1 + proto.toNat <<< 1 + gen.toNat <<< 3 + width.toNat <<< 6)).noteWidth p width.toNat
  else s)

/-- Whether a port's mode has IDE (R317). -/
def Block.hasIde (s : Block) (p : Nat) : Bool :=
  let proto := s.fld (rHi (0x10 * p)) 2 1
  decide (2 ≤ proto) || (proto == 0 && decide (5 ≤ s.fld (rHi (0x10 * p)) 5 3))

/-- `IDE_KEY_MANAGEMENT` (R320, R428): inside a secured session of the port; any other message is discarded. PORTSTAT.IDE
shows the link stream (R355). -/
def execIdeKeyManagement (port : Port) (sid : Nat) (key : IdeKey) (st : State) : Host.Outcome State Fault Refusal := st.act fun s =>
  let p := port.num
  .next (if s.portLive p && s.hasIde p && s.sessions.any (fun x => x.port == port && x.sid == sid) then
    let s := { s with ideKeys := s.ideKeys.set noIdeKey (2 * p + b2n key.selective) (some key) }
    if key.selective then s else s.setFld (rHi (0x10 * p)) 11 11 1
  else s)

end Sys2Proof.Machine
end

