-- ==== Sys2Proof/Machine/Clock.lean ====
section
/-!
DEFINITION. The passage of hub cycles and the counters that count them (R14, R18, R144, R166, R200, R204, R282, R334,
R336, R459; DESIGN CHOICE, log entry 2).
-/
namespace Sys2Proof.Machine

/-! ### Who waits now -/

/-- Whether a queue's head waits on a counter (R277, R279). -/
def Block.headWaits (s : Block) (k : Nat) : Bool :=
  match s.head? k with
  | some en => en.wait.isSome
  | none => false

/-- Heads of core c that wait (R282). -/
def Block.waitingHeads (s : Block) (c : Nat) : Nat := ((List.range 14).filter (fun i => s.headWaits (14 * c + i))).length

/-- The queues that hold the core's own stream at R14, by engine index. -/
def Block.fullQueues (s : Block) (c : Nat) : List Nat :=
  let full := fun (ls : List Line) (m : Nat) => ((slotQueues ls m).map Prod.snd).filter
    (fun e => !(s.hasRoom c [(0, e)]))
  match s.call? c with
  | some x =>
    if x.fetched then
      let l := s.lmLine c (s.lmActive c) (x.start + x.idx)
      full [l] (hdr l 41 36)
    else []
  | none => match nextItem c c s.items with
    | some i => if i.kind = .bundle ∧ (itemCheck i.lines (hdr i.line0 41 36) 6).isNone then
        full i.lines (hdr i.line0 41 36) else []
    | none => []

/-- Whether a FENCE item of the core's ring is held: placed and not yet complete (R164). -/
def Block.fenceHolds (s : Block) (c : Nat) : Bool := (s.ring c).fence.isSome

/-- Whether the own stream of a core would go on but for what holds it. -/
def Block.streaming (s : Block) (c : Nat) : Bool :=
  s.dispatching c && s.fld (rC c 4) 1 0 == 0 && (s.urgentNext c).isNone

/-- Whether the own stream is not held for want of a completion place, which a body bundle needs no more (R334). -/
def Block.placing (s : Block) (c : Nat) : Bool := s.streaming c && ((s.call? c).isSome || s.hasPlace c)

/-- Whether the dispatcher holds an own-stream item (DISPSTALL, R166). -/
def Block.dispHeld (s : Block) (c : Nat) : Bool :=
  (s.placing c && (!(s.fullQueues c).isEmpty || s.swapWaits c)) ||
    (s.dispatching c && s.fld (rC c 4) 1 0 == 0 && s.fenceHolds c)

/-- Whether ring r holds its stream for want of completion places (R334). -/
def Block.placesHeld (s : Block) (r : Nat) : Bool :=
  s.ringOpen r && !(s.hasPlace r) && (s.ringItems r).any (fun i => i.phase == .accepted)

/-- Whether ring r holds a bundle for want of a result slot (R336). -/
def Block.slotsHeld (s : Block) (r : Nat) : Bool :=
  s.ringOpen r && !(s.posTaken r (s.wpos r % 8192)) && (match s.lineAt r (s.wpos r % 8192) with
    | some h => hdr h.data 33 32 == hdr h.data 35 34 && s.slotHeld r (match (s.ring r).asm with
      | some a => a.lines.headD h.data
      | none => h.data)
    | none => false)

/-- Whether a BNK head of core c in lane l is held for want of a ticket (R18). -/
def Block.ticketHeld (s : Block) (c l : Nat) : Bool :=
  decide ((if l = 1 then 64 else 4032) ≤ s.ticketsOf l) && (match s.head? (qKey c eBnk l) with
    | some en => en.checked && en.wait.isNone && en.opcode != 0xBF
    | none => false)

/-- Whether a bank of an operation still needs a lit token it does not hold (R133, R144). -/
def Block.bankUnlit (s : Block) (t : Nat) (o : BankOp) (g : Nat) : Bool :=
  let (p, d, b) := s.physBank g
  let u := s.blu (bankKey p d b)
  let due := match memberOf? o.w g with
    | some m => decide (o.ran.get noRuns g < o.runsIn m)
    | none => false
  due && !(u.lit && (u.litBy == some t || o.lane == 1))

/-- C.BNKSTAT.LITWAIT (R144). -/
def Block.litWait (s : Block) (c : Nat) : Bool :=
  s.ops.any (fun p => match p.2 with
    | some o => o.core == c && o.stage == .running && o.banks.any (fun g => s.bankUnlit p.1 o g)
    | none => false)

/-- The oldest issued entry of a transfer queue. -/
def Block.xferHead (s : Block) (c e l : Nat) : Option Entry := (s.issued? (qKey c e l)).map Prod.snd

/-- Whether a transfer of core c waits for a port that is down, or a Y.RSIG at the head for its path (R200, R273). -/
def Block.linkWaits (s : Block) (c : Nat) : Bool :=
  match s.coreOwner c with
  | none => false
  | some k =>
    [qKey c 4 0, qKey c 4 1, qKey c 5 0, qKey c 5 1].any (fun q => (s.queue q).any (fun en =>
      en.stage == .issued && s.waitsDown k en)) ||
    [0, 1].any (fun l => match s.head? (qKey c 6 l) with
      | some en => en.opcode == 4 && en.sense && !(s.canSend k (en.f0 51 49))
      | none => false)

/-- The 48-bit counters of core c that a cycle adds to, with what it adds. -/
def Block.coreTicks (s : Block) (c : Nat) : List (Nat × Nat) :=
  let far := fun e => [0, 1].any (fun l => match s.xferHead c e l with
    | some en => if e = 4 then !en.hreads.isEmpty || !en.preads.isEmpty else !en.hwrites.isEmpty || !en.psends.isEmpty
    | none => false)
  [(rC c 0x2350, s.waitingHeads c), (rC c 0x10, b2n (s.dispHeld c)), (rC c 0xB10, b2n (s.litWait c)),
    (rC c 0xB08, b2n (s.ticketHeld c 0 || s.ticketHeld c 1)), (rC c 0xC08, b2n (far 4)), (rC c 0xC10, b2n (far 5)),
    (rC c 0xC18, b2n (s.linkWaits c))] ++
    (if s.placing c then (s.fullQueues c).map (fun e => (rC c (0x40 + 8 * e), 1)) else [])

/-- The 48-bit counters of pillar controller p that a cycle adds to: words that wait for a shadow-ring entry, and words that
wait for a slot (R292, R301). -/
def Block.pillarTicks (s : Block) (p : Nat) : List (Nat × Nat) :=
  if s.pillarOn p then [(rP p 0x130, b2n (s.ringHolds p)), (rP p 0x138, s.heldWords p)] else []

/-- Whether a unit waits at the first column of a row for its drain buffer to empty (R103). -/
def Blu.drainStalls (u : Blu) : Bool :=
  (match u.run with
   | some r => u.litFor 0 && u.rowOpen r && u.drainWaits r
   | none => false) ||
  (match u.urun with
   | some r => u.litFor 1 && u.rowOpen r && u.drainWaits r
   | none => false)

/-- The counters that a bank cycle adds to: bank cycles in which any unit of a pillar waited under R103 (R114). -/
def Block.bankTicks (s : Block) : List (Nat × Nat) :=
  (List.range 16).map (fun p => (rP p 0xC24, b2n (s.pillarOn p &&
    s.blus.any (fun x => decide (x.1 / 256 / 17 = p) && x.2.drainStalls))))

/-- Bank cycles that begin while n hub cycles pass: one bank cycle is 6 hub cycles, counted from reset (R291; DESIGN
CHOICE, log entry 52). -/
def Block.bankCycles (s : Block) (n : Nat) : Nat := (s.cycle + n) / 6 - s.cycle / 6

/-- Whether a sequencer stands in a WAITEV (R459). -/
def Block.seqWaits (s : Block) (q : Nat) : Bool := (s.seq q).wait.isSome

/-- Every counter a cycle adds to, with what it adds. -/
def Block.cycleTicks (s : Block) : List (Nat × Nat) :=
  (if s.serving then (List.range 8).flatMap s.coreTicks else []) ++ (List.range 16).flatMap s.pillarTicks ++
    (List.range 9).flatMap (fun r => [(rRing r 0x40, b2n (s.placesHeld r)), (rRing r 0x48, b2n (s.slotsHeld r))]) ++
    (List.range 16).map (fun q => (rQ q 0x78, b2n (s.seqWaits q)))

/-- Heads that wait in the whole module: what the spin window of R371 adds up. -/
def Block.spinHeads (s : Block) : Nat :=
  if s.serving then ((List.range 8).map s.waitingHeads).foldl (· + ·) 0 else 0

/-- `n` hub cycles pass with nothing happening in them. -/
def Block.pass (s : Block) (n : Nat) : Block :=
  let due := s.cycleTicks.filter (fun p => p.2 != 0)
  let banks := s.bankTicks.filter (fun p => p.2 != 0)
  let k := s.bankCycles n
  let s := { s with cycle := s.cycle + n, beat := { s.beat with winSpin := s.beat.winSpin + n * s.spinHeads } }
  if n = 0 then s
  else
    let s := due.foldl (fun s p => s.bump48 p.1 (n * p.2)) s
    if k = 0 then s else banks.foldl (fun s p => s.bump48 p.1 (k * p.2)) s

/-- The clock moves on to a cycle, if it has not passed it. -/
def Block.passTo (s : Block) (t : Nat) : Block := s.pass (t - s.cycle)

/-- The words that wait at the pillar controllers leave as they become ready, but for an ARM that awaits its ARMX
(R292, R301; DESIGN CHOICE, log entry 119). -/
def Block.serveAll (s : Block) : Block :=
  (List.range 16).foldl (fun s p =>
    if (s.pillar p).waiting.isEmpty || (s.pillar p).arm.isSome then s else s.serve p) s

/-- One cycle in which no command waits (DESIGN CHOICE, log entry 2): words that wait at a pillar controller leave, and
result-window writes that have reached a port become visible (R329, DESIGN CHOICE, log entry 29). -/
def Block.idle (s : Block) : Block := (s.serveAll.showWindow s.stamp).pass 1

end Sys2Proof.Machine
end

