-- ==== Sys2Proof/Machine/Sfu.lean ====
section
/-!
DEFINITION. Special-function tables: images, evaluation, loading and the SFU registers (09_special_functions.md).
-/
namespace Sys2Proof.Machine

/-! ### The table image (R235-R237) -/

/-- Size of a table image in bytes (R235). -/
def tabSize : Nat := 12352

/-- The 32-bit field at byte `o` of an image. -/
def imgWord (im : List Byte) (o : Nat) : Nat := ofBytes ((im.drop o).take 4)

/-- The FP32 field at byte `o` of an image. -/
def imgF (im : List Byte) (o : Nat) : FVal := Fmt.fp32.decode (imgWord im o)

/-- MODE: 0 LINEAR, 1 MULT1, 2 MULT2, 3 ADD1 (R236). -/
def tabMode (im : List Byte) : Nat := bits (imgWord im 0) 1 0
/-- SYM (R236). -/
def tabSym (im : List Byte) : Nat := bits (imgWord im 0) 3 2
/-- EMUL's encoding (R236). -/
def tabEmulCode (im : List Byte) : Nat := bits (imgWord im 0) 5 4
/-- EMUL (R236). -/
def tabEmul (im : List Byte) : Int := sext 2 (tabEmulCode im)
/-- COMPAT (R236). -/
def tabCompat (im : List Byte) : Bool := bit (imgWord im 0) 6

/-- Whether a value is finite. -/
def FVal.isFinite : FVal → Bool
  | .fin _ _ _ => true
  | _ => false

/-- Whether every word of the range [lo, hi) of an image is 0. -/
def imgZero (im : List Byte) (lo hi : Nat) : Bool := ((im.take hi).drop lo).all (fun b => b == 0#8)

/-- Whether every one of the next `n` FP32 words is finite. -/
def allFinite : List Byte → Nat → Bool
  | _, 0 => true
  | bs, n + 1 => (Fmt.fp32.decode (ofBytes (bs.take 4))).isFinite && allFinite (bs.drop 4) n

/-- Fields that the image's MODE does not use are nonzero (R245, reason 3). -/
def tabUnused (im : List Byte) : Bool :=
  match tabMode im with
  | 0 => !(imgZero im 32 48) || tabEmulCode im != 0
  | 3 => !(imgZero im 4 32) || tabEmulCode im != 0 || tabSym im != 0 || tabCompat im
  | _ => !(imgZero im 4 32) || !(imgZero im 44 48) || tabSym im != 0 || tabCompat im

/-- The first failing reason of R245, 0 where the image passes. -/
def tabReason (im : List Byte) : Nat :=
  let xlo := imgF im 4
  let xhi := imgF im 8
  let sc := imgF im 12
  if imgWord im 60 ≠ (crc32c (im.take 60 ++ im.drop 64)).toNat then 1
  else if bits (imgWord im 0) 31 7 ≠ 0 ∨ !(imgZero im 52 60) ∨ tabSym im = 3 ∨ tabEmulCode im = 2 then 2
  else if tabUnused im then 3
  else if (tabMode im = 0 ∧ (!xlo.isFinite || !xhi.isFinite || !(xlo.lt xhi) || !sc.isFinite ||
      !(FVal.zero.lt sc))) ∨ (tabMode im = 3 ∧ !(imgF im 44).isFinite) then 4
  else if tabSym im ≠ 0 ∧ xlo.lt .zero then 5
  else if tabCompat im ∧ tabSym im ≠ 0 then 6
  else if !(allFinite (im.drop 64) 3072) then 7
  else 0

/-! ### Evaluation (R238-R242) -/

/-- An FP32 operation under a rounding: nearest even with IEEE overflow, or toward zero. -/
def tabOp (r : Rnd) (x : FVal × Flags) : FVal × Flags :=
  match x.1 with
  | .fin _ _ _ =>
    let (y, fl) := Fmt.fp32.encode r (r == .trunc) x.1
    (Fmt.fp32.decode y, fl)
  | v => (v, 0#6)

/-- Horner's scheme on segment i (R238), with UNDERFLOW where a step rounds a nonzero value to zero. -/
def tabPoly (r : Rnd) (im : List Byte) (i : Nat) (t : FVal) : FVal × Flags :=
  let (a, f1) := tabOp r ((imgF im (72 + 12 * i)).mul t)
  let (b, f2) := tabOp r (a.add (imgF im (68 + 12 * i)))
  let (c, f3) := tabOp r (b.mul t)
  let (d, f4) := tabOp r (c.add (imgF im (64 + 12 * i)))
  (d, (f1 ||| f2 ||| f3 ||| f4) &&& flUnderflow)

/-- Floor of a value, limited to 1,023; an infinite one gives 1,023. -/
def FVal.floor1023 : FVal → Int
  | .fin s m e =>
    let z : Int := if 0 ≤ e then (m <<< e.toNat : Nat) else (m >>> (-e).toNat : Nat)
    let exact := decide (0 ≤ e) || m % 2 ^ (-e).toNat == 0
    let f := if s then (if exact then -z else -z - 1) else z
    if 1023 < f then 1023 else f
  | .inf true => -1
  | _ => 1023

/-- The value of a stage's table with the flags of R241; `fromHeader` says it was taken from a header constant. -/
structure TabOut where
  val : FVal
  flags : Flags
  fromHeader : Bool
deriving DecidableEq, Repr

/-- Step 2 of R239 at one end of the range: a + b × x, the product +0 where b is ±0. -/
def tabEnd (a b x : FVal) : TabOut :=
  if b.isZero then ⟨(fadd32 a .zero).1, 0#6, true⟩
  else ⟨(fadd32 a (fmul32 b x).1).1, 0#6, false⟩

/-- Step 3 of R239, or steps 1 to 3 of R242, for x in the range; none where no segment is named. -/
def tabInside (im : List Byte) (r : Rnd) (x : FVal) : Option TabOut :=
  let d := (tabOp r (x.sub (imgF im 4))).1
  let u := (tabOp r (d.mul (imgF im 12))).1
  let i := u.floor1023
  if i < 0 then none
  else
    let t0 := (tabOp r (u.sub (.ofInt i))).1
    let t := if r == .trunc then
        (match t0 with
         | .fin s m e => FVal.fin s (roundAt .trunc m e (-12)) (-12)
         | v => v)
      else t0
    let (y, fl) := tabPoly r im i.toNat t
    some ⟨y, fl, false⟩

/-- Step 4 of R242: every result except NaN rounded to BF16 toward zero. -/
def TabOut.toBf16 (o : TabOut) : TabOut :=
  match o.val with
  | .fin _ m _ =>
    let y := Fmt.bf16.decode (Fmt.bf16.encode .trunc true o.val).1
    { o with val := y, flags := if m ≠ 0 ∧ y.isZero then o.flags ||| flUnderflow else o.flags }
  | _ => o

/-- A LINEAR table at a value that is not NaN, without symmetry (R239, R242). Where the rounding of R242's step 1 takes
x below XLO no segment is named, and the value of step 3 is the free one of the configuration. -/
def tabLinear (im : List Byte) (x : FVal) : TabOut :=
  let compat := tabCompat im
  let o := if x.lt (imgF im 4) then some (tabEnd (imgF im 16) (imgF im 20) x)
    else if !(x.lt (imgF im 8)) then some (tabEnd (imgF im 24) (imgF im 28) x)
    else if compat then tabInside im .trunc (Fmt.bf16.decode (Fmt.bf16.encode .trunc true x).1)
    else tabInside im .rne x
  let o := o.getD ⟨Fmt.fp32.decode (Config.sfuBelow (imgWord im 60) x.bits32).toNat, 0#6, false⟩
  if compat then o.toBf16 else o

/-- A positive finite value as m × 2^e with m in [1, 2): e and the 23 fraction bits (R240). -/
def splitFp32 (m : Nat) (e : Int) : Int × Nat :=
  let k := Nat.log2 m
  (e + k, if k ≤ 23 then (m - 2 ^ k) <<< (23 - k) else (m - 2 ^ k) >>> (k - 23))

/-- A power-of-two scaling, rounded once (R240). -/
def scale2 (v : FVal) (n : Int) : FVal × Flags :=
  match v with
  | .fin s m e => tabOp .rne (.fin s m (e + n), 0#6)
  | v => (v, 0#6)

/-- MULT1, MULT2 and ADD1 at a value that is not NaN (R240). -/
def tabLog (im : List Byte) (x : FVal) : TabOut :=
  match x with
  | .nan => ⟨.nan, 0#6, true⟩
  | .inf true => ⟨imgF im 36, 0#6, true⟩
  | .inf false => ⟨imgF im 40, 0#6, true⟩
  | .fin s m e =>
    if m = 0 then ⟨imgF im 32, 0#6, true⟩
    else if s then ⟨imgF im 36, 0#6, true⟩
    else
      let (ex, f) := splitFp32 m e
      match tabMode im with
      | 1 =>
        let (p, f1) := tabPoly .rne im (bits f 22 13) (.fin false (bits f 12 0) (-13))
        let (y, f2) := scale2 p (tabEmul im * ex)
        ⟨y, f1 ||| (f2 &&& flUnderflow), false⟩
      | 2 =>
        let k := ex / 2
        let r := (ex % 2).toNat
        let (p, f1) := tabPoly .rne im (512 * r + bits f 22 14) (.fin false (bits f 13 0) (-14))
        let (y, f2) := scale2 p (tabEmul im * k)
        ⟨y, f1 ||| (f2 &&& flUnderflow), false⟩
      | _ =>
        let (p, f1) := tabPoly .rne im (bits f 22 13) (.fin false (bits f 12 0) (-13))
        ⟨(fadd32 p (fmul32 (.ofInt ex) (imgF im 44)).1).1, f1, false⟩

/-- The flags of R241 added to an evaluation of a value that is not NaN. -/
def tabFlags (x : FVal) (o : TabOut) : FVal × Flags :=
  (o.val, o.flags ||| (if o.val.isNan && !o.fromHeader then flInvalid else 0#6) |||
    (if o.val.isInf && x.isFinite && !o.fromHeader then flOverflow else 0#6))

/-- The SFU stage: the FP32 value a table gives for x, and its flags (R239-R242). -/
def sfuEval (im : List Byte) (x : FVal) : FVal × Flags :=
  if x.isNan then (.nan, flNanInput)
  else if tabMode im = 0 then
    let sym := tabSym im
    let o := tabLinear im (if sym = 0 then x else x.abs)
    let (y, fl) := tabFlags x o
    (if sym = 1 ∧ x.isNeg then y.neg else y, fl)
  else tabFlags x (tabLog im x)

/-! ### Slots and loads (R233, R234, R243-R247) -/

/-- An EMPTY slot. -/
def emptySlot (_ : Nat) : SfuSlot := {}

/-- Table slot n of core c. -/
def Block.sfuSlot (s : Block) (c n : Nat) : SfuSlot := s.sfuSlots.get emptySlot (64 * c + n)

/-- Table slot n of core c replaced. -/
def Block.setSfuSlot (s : Block) (c n : Nat) (x : SfuSlot) : Block :=
  { s with sfuSlots := s.sfuSlots.set emptySlot (64 * c + n) x }

/-- No load in progress. -/
def noLoad (_ : Nat) : Option SfuLoad := none

/-- The stage bytes before END of a stage list: index, OP and SEL (R211). -/
def stageList (w : Nat) : Nat → Nat → List (Nat × Nat × Nat)
  | _, 0 => []
  | i, n + 1 =>
    let op := bits w (8 * i + 4) (8 * i)
    if op = 0 then [] else (i, op, bits w (8 * i + 7) (8 * i + 5)) :: stageList w (i + 1) n

/-- The stages of an entry. -/
def Entry.stages (en : Entry) : List (Nat × Nat × Nat) := stageList en.w2.toNat 0 8

/-- FN of a chain (R208). -/
def Entry.fn (en : Entry) : Nat := en.f1 9 4

/-- Whether an issued entry of the VEC queue uses table slot n (R234). -/
def Entry.usesSlot (n : Nat) (en : Entry) : Bool :=
  en.stage == .issued && decide (en.opcode ≤ 1) && en.fn == n && en.stages.any (fun x => x.2.1 == 0x0C)

/-- Whether an issued entry of either lane of core c uses slot n. -/
def Block.slotBusy (s : Block) (c n : Nat) : Bool :=
  (s.queue (qKey c 1 0)).any (Entry.usesSlot n) || (s.queue (qKey c 1 1)).any (Entry.usesSlot n)

/-- The write of SFUCTL (R243, R244, R254); none refuses it. -/
def Block.writeSfuCtl (s : Block) (c v : Nat) : Option Block :=
  let load := bit v 6
  let clear := bit v 7
  let n := bits v 5 0
  if (load && clear) || !(ctrDefined (bits v 21 9)) then none
  else
    let s := s.setRn (rC c 0xF00) (v &&& 0x3FFF3F)
    if !load && !clear then some s
    else if (s.sfuLoads.get noLoad c).isSome || s.slotBusy c n then some (s.orReg (rC c 0xF08) 0x80)
    else if clear then some (s.setSfuSlot c n {})
    else
      let s := (s.setSfuSlot c n { code := 1 }).setFld (rC c 0xF08) 6 0 (1 + 2 * n)
      let sig := if bit v 8 then some (bits v 21 9) else none
      some { s with sfuLoads := s.sfuLoads.set noLoad c (some ⟨n, s.rn (rC c 0xF04), sig⟩) }

/-- `SFU_LOAD`: a write of SFUCTL with LOAD set (R243). -/
def execSfuLoad (req : Requester) (core : CoreId) (slot : BitVec 6) (sige : Bool) (sig : BitVec 13) (st : State) :
    Host.Outcome State Fault Refusal := st.act fun s =>
  let v := slot.toNat + 0x40 + (b2n sige) <<< 8 + sig.toNat <<< 9
  .next (s.guarded req (rC core.val 0xF00) v (fun s => s.writeSfuCtl core.val v))

/-- `SFU_CLEAR`: a write of SFUCTL with CLEAR set (R244). -/
def execSfuClear (req : Requester) (core : CoreId) (slot : BitVec 6) (sige : Bool) (sig : BitVec 13) (st : State) :
    Host.Outcome State Fault Refusal := st.act fun s =>
  let v := slot.toNat + 0x80 + (b2n sige) <<< 8 + sig.toNat <<< 9
  .next (s.guarded req (rC core.val 0xF00) v (fun s => s.writeSfuCtl core.val v))

/-- `SFU_LOAD_DONE`: the image is read and verified; a VALID one is measured and signals (R243, R245-R247, R432)
(DEDUCED, log entry 45). -/
def execSfuLoadDone (core : CoreId) (st : State) : Host.Outcome State Fault Refusal := st.act fun s =>
  let c := core.val
  .next <| match s.sfuLoads.get noLoad c with
  | none => s
  | some ld =>
    let im := s.spRead c ld.src tabSize
    let r := tabReason im
    let s := { s with sfuLoads := s.sfuLoads.set noLoad c none }.setFld (rC c 0xF08) 0 0 0
    if r ≠ 0 then
      let s := ((s.setSfuSlot c ld.slot { code := 3, image := im }).orReg (rC c 0xF08) 0x100).setFld (rC c 0xF08) 16 9 r
      s.logEvent 0xA1 (unitCore c) (c + ld.slot <<< 8 + r <<< 16)
    else
      let s := s.setSfuSlot c ld.slot { code := 2, image := im }
      let s := match s.coreOwner c with
        | some k => s.measure k 2 c ld.slot (Config.sha384 im)
        | none => s
      match ld.sig with
      | some n => s.signalLogged { kind := 5, unit := c } (s.foreignTo c n) ld.slot n 1
      | none => s

end Sys2Proof.Machine
end

