-- ==== Sys2Proof/Machine/Vector.lean ====
section
/-!
DEFINITION. The vector engine (08_vector_and_matrix.md, R206-R221; R250).
-/
namespace Sys2Proof.Machine

/-- The engine index of VEC. -/
def eVec : Nat := 1

/-- Entries of VEC that can be in flight in a lane (DESIGN CHOICE, log entry 14). -/
def vecDepth : Nat := 64

/-- FLT_VEC_SHAPE. -/
def fltVecShape : Nat := 0x61
/-- FLT_VEC_CHAIN. -/
def fltChain : Nat := 0x62
/-- FLT_HUB_OVERLAP. -/
def fltOverlap : Nat := 0x64
/-- FLT_URGENT_SIZE. -/
def fltUrgent : Nat := 0x65

/-- Handle A. -/
def Entry.hA (en : Entry) : Nat := en.f0 44 36
/-- Handle B. -/
def Entry.hB (en : Entry) : Nat := en.f0 53 45
/-- Handle Y. -/
def Entry.hY (en : Entry) : Nat := en.f0 62 54
/-- CF (R208). -/
def Entry.cf (en : Entry) : Nat := en.f1 3 0
/-- REDOP (R208). -/
def Entry.redop (en : Entry) : Nat := en.f1 12 10

/-- Elements of an iteration space. -/
def volume (sizes : List Nat) : Nat := sizes.foldl (· * ·) 1

/-! ### Checks of V.CHAIN and V.REDUCE (R210-R215, R231, R234) -/

/-- Whether R211 allows a SEL for an OP. -/
def selAllowed (op sel : Nat) : Bool :=
  match op with
  | 0x0B => sel == 1 || sel == 3
  | 0x07 | 0x08 | 0x09 | 0x0C | 0x0D => sel == 0
  | _ => decide (1 ≤ sel) && decide (sel ≤ 5)

/-- Whether a SEL takes its operand from B. -/
def selB (sel : Nat) : Bool := decide (1 ≤ sel) && decide (sel ≤ 3)

/-- The first stage list condition of R212 that holds: reason and stage (R232). -/
def chainReason (w fn : Nat) (bNamed : Bool) (size0 : Nat) : Option (Nat × Nat) :=
  let st := stageList w 0 8
  let byte := fun i => bits w (8 * i + 7) (8 * i)
  let n := st.length
  let late := (List.range 8).find? (fun i => decide (n < i) && byte i != 0)
  let sfus := st.filter (fun x => x.2.1 == 0x0C)
  let bad := (st.filter (fun x => !(selAllowed x.2.1 x.2.2))).map (·.1) ++ (if n < 8 ∧ byte n ≠ 0 then [n] else [])
  let bs := st.filter (fun x => selB x.2.2)
  let diff := bs.find? (fun x => some x.2.2 != (bs.head?).map (·.2.2))
  let rot := st.find? (fun x => x.2.1 == 0x0B)
  match late, sfus, bad, bs, diff, rot with
  | some i, _, _, _, _, _ => some (1, i)
  | none, _ :: x :: _, _, _, _, _ => some (2, x.1)
  | none, _, i :: _, _, _, _ => some (3, i)
  | none, _, [], b :: _, d, r =>
    if !bNamed then some (4, b.1)
    else (match d with
      | some x => some (4, x.1)
      | none => if fn ≠ 0 ∧ sfus.isEmpty then some (5, 0)
        else if size0 % 2 = 1 then r.map (fun x => (6, x.1)) else none)
  | none, _, [], [], _, r =>
    if bNamed then some (4, 0)
    else if fn ≠ 0 ∧ sfus.isEmpty then some (5, 0)
    else if size0 % 2 = 1 then r.map (fun x => (6, x.1)) else none

/-- A chain that has passed its checks: its descriptors and iteration space. -/
structure Chain where
  a : Option Nat
  b : Option Nat
  y : Nat
  sizes : List Nat
  sel : Nat
deriving DecidableEq, Repr

/-- The SEL with which the list selects B, 0 if it does not (DEDUCED, log entry 42). -/
def chainSel (st : List (Nat × Nat × Nat)) : Nat := ((st.find? (fun x => selB x.2.2)).map (·.2.2)).getD 0

/-- Whether B fits its SEL in an iteration space (R211). -/
def bFits (b sel rank : Nat) (sizes : List Nat) : Bool :=
  match sel with
  | 1 => vRank b == rank && vSizes b == sizes
  | 2 => vRank b == rank && vSizes b == 1 :: sizes.drop 1
  | 3 => vRank b == 1 && vSize b 0 == (sizes[0]?).getD 1
  | _ => true

/-- The SFU check of R234: the stage's slot must be VALID. -/
def Block.slotCheck (s : Block) (c : Nat) (en : Entry) : Check Unit :=
  match en.stages.find? (fun x => x.2.1 == 0x0C) with
  | none => .ok ()
  | some x =>
    let code := (s.sfuSlot c en.fn).code
    failIf (code != 2) 0x68 (some (en.fn + code <<< 8 + x.1 <<< 16))

/-- The checks of V.CHAIN and V.REDUCE at issue, in the order of R231 (DEDUCED, log entry 41). -/
def Block.chainCheck (s : Block) (c l : Nat) (red : Bool) (en : Entry) : Check Chain := do
  let a ← if red then (s.need c en.hA).map some else s.opt c en.hA
  let b ← s.opt c en.hB
  let y ← s.need c en.hY
  let named := a.toList ++ b.toList ++ [y]
  failIf (named.any (fun d => !(ownSp c d)) || dWindow y) fltSpace none
  failIf (decide (2 < en.cf) || named.any (fun d => dFormat d == .nb4) ||
    (red && en.redop == 4 && dFormat y != .fp32)) fltFormat none
  named.forM aligned32
  let it := if red then a.getD y else y
  let sizes := vSizes it
  let sel := chainSel en.stages
  failIf (!red && a.any (fun d => vRank d != vRank y || vSizes d != sizes)) fltVecShape (some 1)
  failIf (b.any (fun d => !(bFits d sel (vRank it) sizes))) fltVecShape (some 2)
  failIf (red && dSizes y != (if en.redop = 5 then 2 else 1) :: sizes.drop 1) fltVecShape (some 3)
  match chainReason en.w2.toNat en.fn b.isSome ((sizes[0]?).getD 1) with
  | some (r, i) => .error ⟨fltChain, some (r + i <<< 8)⟩
  | none => pure ()
  s.slotCheck c en
  failIf (a.any (fun d => overlaps d y && (red || !(sameRuns d y)))) fltOverlap (some 1)
  failIf (b.any (fun d => overlaps d y && (red || !(sameRuns d y)))) fltOverlap (some 2)
  failIf (l == 1 && decide (8192 < volume sizes)) fltUrgent (some 1)
  pure ⟨a, b, y, sizes, sel⟩

/-! ### The stages (R210-R214) -/

/-- Order of MIN and MAX: −0 lies below +0 (R213). -/
def FVal.below (a b : FVal) : Bool := a.lt b || (a.isZero && b.isZero && a.isNeg && !b.isNeg)

/-- MIN and MAX (R213). -/
def minMax (big : Bool) (x o : FVal) : FVal × Flags :=
  if x.isNan || o.isNan then (.nan, flNanInput)
  else (if big then (if x.below o then o else x) else (if o.below x then o else x), 0#6)

/-- What a chain computes with: the compute format, its constants and its table image. -/
structure ChainEnv where
  cf : Fmt
  k0 : FVal
  k1 : FVal
  image : List Byte
deriving DecidableEq, Repr

/-- A result rounded to the compute format, flags kept (R210, R213). -/
def ChainEnv.round (v : ChainEnv) (r : FVal × Flags) : FVal × Flags :=
  let (y, fl) := v.cf.rnd false r.1
  (y, fl ||| r.2)

/-- One stage other than ROT and RNDU, before rounding (R211, R213). -/
def ChainEnv.stage (v : ChainEnv) (op : Nat) (x o : FVal) : FVal × Flags :=
  match op with
  | 0x01 => x.add o
  | 0x02 => x.sub o
  | 0x03 => o.sub x
  | 0x04 => x.mul o
  | 0x05 => minMax false x o
  | 0x06 => minMax true x o
  | 0x07 => (x.abs, x.nanIn)
  | 0x08 => (x.neg, x.nanIn)
  | 0x09 =>
    let (y, f1) := minMax true x v.k0
    let (z, f2) := minMax false y v.k1
    (z, f1 ||| f2)
  | 0x0A => (if o.isZero then v.k1 else x, x.nanIn ||| o.nanIn)
  | 0x0C => sfuEval v.image x
  | _ => (x, 0#6)

/-- The flags of a list of results. -/
def allFlags (rs : List (FVal × Flags)) : Flags := rs.foldl (fun f r => f ||| r.2) 0#6

/-- Rotation of a run's element pairs (R213). -/
def ChainEnv.rotate (v : ChainEnv) : List FVal → List FVal → List (FVal × Flags)
  | x0 :: x1 :: xs, c :: sn :: os =>
    let (p, f1) := x0.mul c
    let (q, f2) := x1.mul sn
    let (a, f3) := p.sub q
    let (t, f4) := x0.mul sn
    let (u, f5) := x1.mul c
    let (b, f6) := t.add u
    v.round (a, f1 ||| f2 ||| f3) :: v.round (b, f4 ||| f5 ||| f6) :: v.rotate xs os
  | _, _ => []

/-- The draw of RNDU from a generator state: (x[31:8] + 0.5) × 2⁻²⁴ (R214). -/
def drawU (x : BitVec 32) : FVal := .fin false (2 * bits x.toNat 31 8 + 1) (-25)

/-- `n` generator steps: the draws and the last state. -/
def drawMany (x : BitVec 32) : Nat → List FVal × BitVec 32
  | 0 => ([], x)
  | n + 1 =>
    let x := xorshift x
    let (t, y) := drawMany x n
    (drawU x :: t, y)

/-- A uniform draw rounded to the compute format. R214 says that it is never 0, so where the rounding gives 0 it is the
smallest positive value of the format (DESIGN CHOICE, log entry 137). -/
def ChainEnv.uniform (v : ChainEnv) (u : FVal) : FVal × Flags :=
  let r := v.round (u, 0#6)
  if r.1.isZero ∧ ¬ u.isZero then (v.cf.decode 1, r.2) else r

/-- The stages applied to the elements of a group; `draws` are its uniform draws, element by element, `nr` for each. -/
def ChainEnv.run (v : ChainEnv) (nr : Nat) (draws : List FVal) :
    List (Nat × Nat × Nat) → Nat → List FVal → List FVal → List FVal × Flags
  | [], _, xs, _ => (xs, 0#6)
  | (_, op, sel) :: st, r, xs, os =>
    let rs :=
      if op = 0x0B then v.rotate xs os
      else if op = 0x0D then
        (List.range xs.length).map (fun k => v.uniform ((draws[nr * k + r]?).getD .zero))
      else if selB sel then List.zipWith (fun x o => v.round (v.stage op x o)) xs os
      else xs.map (fun x => v.round (v.stage op x (if sel = 5 then v.k1 else v.k0)))
    let (ys, fl) := v.run nr draws st (if op = 0x0D then r + 1 else r) (rs.map (·.1)) os
    (ys, fl ||| allFlags rs)

/-- An operand converted to the compute format, with NAN_INPUT (R35, R49) (DEDUCED, log entry 40). -/
def toCf (cf : Fmt) (x : FVal) : FVal × Flags :=
  let (y, fl) := cf.rnd false x
  (y, fl ||| x.nanIn)

/-- The operand's value for the element at coordinates of the iteration space (R211). -/
def Block.operandAt (s : Block) (c b sel : Nat) (cs : List Nat) : FVal :=
  match sel with
  | 2 => s.spVal c b (0 :: cs.drop 1)
  | 3 => s.spVal c b [(cs[0]?).getD 0, 0, 0, 0]
  | _ => s.spVal c b cs

/-- The elements of one group, read and taken through the stages. -/
def Block.groupRun (s : Block) (c : Nat) (v : ChainEnv) (ch : Chain) (st : List (Nat × Nat × Nat)) (nr : Nat)
    (draws : List FVal) (css : List (List Nat)) : List FVal × Flags :=
  let xs := css.map (fun cs => match ch.a with
    | some a => toCf v.cf (s.spVal c a cs)
    | none => (.zero, 0#6))
  let os := match ch.b with
    | some b => css.map (fun cs => toCf v.cf (s.operandAt c b ch.sel cs))
    | none => []
  let (ys, fl) := v.run nr draws st 0 (xs.map (·.1)) (os.map (·.1))
  (ys, fl ||| allFlags xs ||| allFlags os)

/-- Register of the uniform generator of a lane (R230). -/
def rVrseed (c l : Nat) : Nat := rC c (0xE04 + 4 * l)

/-- Number of RNDU stages. -/
def rnduCount (st : List (Nat × Nat × Nat)) : Nat := (st.filter (fun x => x.2.1 == 0x0D)).length

/-- The uniform draws of `n` elements, with the lane's generator advanced (R214). -/
def Block.drawGroup (s : Block) (c l n : Nat) : List FVal × Block :=
  if n = 0 then ([], s)
  else
    let (d, x) := drawMany (BitVec.ofNat 32 (s.rn (rVrseed c l))) n
    (d, s.setRn (rVrseed c l) x.toNat)

/-- Group size in elements for a compute format (R206). -/
def groupSize (cf : Fmt) : Nat := if cf = .fp32 then 64 else 128

/-- The coordinates of a run that starts at `cs`, cut into groups of `g` elements (R206). -/
def groupsOf (g n : Nat) (cs : List Nat) : List (List (List Nat)) :=
  (List.range (ceilDiv n g)).map fun k =>
    (List.range (min g (n - g * k))).map fun i => (g * k + i) :: cs.drop 1

/-- Every group of an iteration space, in order. -/
def allGroups (g : Nat) (sizes : List Nat) : List (List (List Nat)) :=
  (runCoords sizes).flatMap (groupsOf g ((sizes[0]?).getD 1))

/-- A value written to an element of Y under R47. -/
def Block.putVal (s : Block) (c y : Nat) (sat : Bool) (cs : List Nat) (v : FVal) : Block :=
  let (x, fl) := (dFormat y).encode .rne sat v
  (s.spPut c y cs x).numFlags c fl

/-- Values written to successive coordinates. -/
def Block.putVals (s : Block) (c y : Nat) (sat : Bool) : List (List Nat) → List FVal → Block
  | cs :: css, v :: vs => (s.putVal c y sat cs v).putVals c y sat css vs
  | _, _ => s

/-- One group of V.CHAIN: every source read before Y is written (R220). -/
def Block.chainGroup (s : Block) (c l : Nat) (v : ChainEnv) (ch : Chain) (st : List (Nat × Nat × Nat)) (sat : Bool)
    (css : List (List Nat)) : Block :=
  let nr := rnduCount st
  let (draws, s) := s.drawGroup c l (nr * css.length)
  let (ys, fl) := s.groupRun c v ch st nr draws css
  (s.numFlags c fl).putVals c ch.y sat css ys

/-- A constant converted to the compute format; it sets flags only where it is used (R211). -/
def Block.chainConst (s : Block) (c : Nat) (cf : Fmt) (k : Nat) (used : Bool) : FVal × Block :=
  let (x, fl) := toCf cf (Fmt.fp32.decode k)
  (x, if used then s.numFlags c fl else s)

/-- The environment of a chain at issue. -/
def Block.chainEnv (s : Block) (c : Nat) (en : Entry) : ChainEnv × Block :=
  let cf := (Fmt.ofCode en.cf).getD .fp32
  let st := en.stages
  let uses := fun n => st.any (fun x => x.2.2 == n && x.2.1 != 0)
  let has := fun n => st.any (fun x => x.2.1 == n)
  let (k0, s) := s.chainConst c cf (en.f3 31 0) (uses 4 || has 0x09)
  let (k1, s) := s.chainConst c cf (en.f3 63 32) (uses 5 || has 0x09 || has 0x0A)
  (⟨cf, k0, k1, (s.sfuSlot c en.fn).image⟩, s)

/-- The effect of V.CHAIN, group after group (R206, R210). -/
def Block.chainEffect (s : Block) (c l : Nat) (en : Entry) (ch : Chain) : Block :=
  let (v, s) := s.chainEnv c en
  let gs := allGroups (groupSize v.cf) ch.sizes
  let sat := s.ovfSat c
  (gs.foldl (fun s g => s.chainGroup c l v ch en.stages sat g) s).bump48 (rC c 0xE10) gs.length

/-- An entry of VEC comes to its issue point: `check` judges it and names the tensors and the plain ranges it reads, and
`effect` is what it does (R231). -/
def Block.vecIssue {α : Type} (s : Block) (c l op : Nat) (check : Block → Entry → Check (α × List Nat × List (Nat × Nat × Nat)))
    (effect : Block → Entry → α → Block) : Block :=
  match s.gate c eVec l op vecDepth noUses with
  | .error s => s
  | .ok (s, i, en) =>
    match check s en with
    | .error b => s.failEntry c eVec l i en b
    | .ok (x, srcs, ranges) =>
      match s.scanAll c srcs ranges with
      | (s, some w) => s.faultEntry c eVec l i en 0xA0 w
      | (s, none) => (effect s en x).markIssued c eVec l i (srcs.map (BitVec.ofNat 256))

/-- The table memory that an entry with an SFU stage reads: its slot's image (R406; DESIGN CHOICE, log entry 44). -/
def Entry.tableBytes (en : Entry) : List (Nat × Nat × Nat) :=
  if en.stages.any (fun x => x.2.1 == 0x0C) then [(4, tabSize * en.fn, tabSize)] else []

/-- `V_CHAIN` (R207, R210-R214). -/
def execVChain (core : CoreId) (lane : Lane) (st : State) : Host.Outcome State Fault Refusal := st.act fun s =>
  let c := core.val
  let l := lane.num
  .next (s.vecIssue c l 0x00
    (fun s en => (s.chainCheck c l false en).map (fun ch => (ch, ch.a.toList ++ ch.b.toList, en.tableBytes)))
    (fun s en ch => s.chainEffect c l en ch))

/-! ### Reductions (R215, R250) -/

/-- Terms added to the 64 partials, term by term; a partial starts from its first term (R215). -/
def partials : List FVal → Nat → List FVal → List FVal × Flags
  | [], _, ps => (ps, 0#6)
  | x :: xs, i, ps =>
    if i < 64 then partials xs (i + 1) (ps ++ [x])
    else
      let (v, f1) := fadd32 ((ps[i % 64]?).getD .zero) x
      let (qs, f2) := partials xs (i + 1) (ps.set (i % 64) v)
      (qs, f1 ||| f2)

/-- SUM of a run (R215). -/
def sumRun (xs : List FVal) : FVal × Flags :=
  let (ps, f1) := partials xs 0 []
  let (v, f2) := foldF ps
  (v, f1 ||| f2)

/-- MAX or MIN of a run (R213, R215). -/
def extremeRun (big : Bool) : List FVal → FVal × Flags
  | [] => (.zero, 0#6)
  | x :: xs => xs.foldl (fun r y =>
      let (v, f) := minMax big r.1 y
      (v, r.2 ||| f)) (x, 0#6)

/-- ARGMAX of a run: the index so far, the best value so far, NaN passed over (R215) (DEDUCED, log entry 39). -/
def argmaxRun : List FVal → Nat → Option (Nat × FVal) → Nat
  | [], _, b => (b.map (·.1)).getD 0
  | x :: xs, i, b =>
    if x.isNan then argmaxRun xs (i + 1) b
    else match b with
      | none => argmaxRun xs (i + 1) (some (i, x))
      | some (j, v) => argmaxRun xs (i + 1) (if v.below x then some (i, x) else some (j, v))

/-- Whether a run raises CANCEL (R250). -/
def cancels (s1 s2 : FVal) (n : Nat) : Bool :=
  if !s1.isFinite || !s2.isFinite then false
  else
    let k := (fdiv32 (.ofInt 1) (.ofInt n)).1
    let mu := (fmul32 s1 k).1
    let q := (fmul32 s2 k).1
    let mm := (fmul32 mu mu).1
    let v := (fp32Op (q.sub mm)).1
    (match v with
     | .fin sg m e => FVal.fin sg m (e + 12)
     | v => v).lt mm

/-- The values a run reduces to, the flags, and whether it cancels. -/
def reduceRun (redop n : Nat) (xs : List FVal) : List FVal × Flags × Bool :=
  let nan := if xs.any FVal.isNan then flNanInput else 0#6
  let sq := fun _ : Unit =>
    let rs := xs.map (fun x => fmul32 x x)
    let (v, f) := sumRun (rs.map (·.1))
    (v, f ||| allFlags rs)
  match redop with
  | 1 => let (v, f) := sq (); ([v], f ||| nan, false)
  | 2 => let (v, f) := extremeRun true xs; ([v], f ||| nan, false)
  | 3 => let (v, f) := extremeRun false xs; ([v], f ||| nan, false)
  | 4 => ([.ofInt (argmaxRun xs 0 none)], nan, false)
  | 5 =>
    let (v, f) := sumRun xs
    let (w, g) := sq ()
    ([v, w], f ||| g ||| nan, cancels v w n)
  | _ => let (v, f) := sumRun xs; ([v], f ||| nan, false)

/-- The elements of a run taken through the chain, group after group. -/
def Block.reduceGroups (s : Block) (c l : Nat) (v : ChainEnv) (ch : Chain) (st : List (Nat × Nat × Nat)) :
    List (List (List Nat)) → List FVal × Block
  | [] => ([], s)
  | css :: t =>
    let nr := rnduCount st
    let (draws, s) := s.drawGroup c l (nr * css.length)
    let (ys, fl) := s.groupRun c v ch st nr draws css
    let (zs, s) := (s.numFlags c fl).reduceGroups c l v ch st t
    (ys ++ zs, s)

/-- One run of V.REDUCE. -/
def Block.reduceOne (s : Block) (c l : Nat) (v : ChainEnv) (ch : Chain) (en : Entry) (sat : Bool) (cs : List Nat) :
    Block :=
  let n := (ch.sizes[0]?).getD 1
  let (xs, s) := s.reduceGroups c l v ch en.stages (groupsOf (groupSize v.cf) n cs)
  let (ys, fl, cancel) := reduceRun en.redop n xs
  let s := if cancel then (s.orReg (rC c 0xF18) 1).bump48 (rC c 0xF20) 1 else s
  (s.numFlags c fl).putVals c ch.y sat ((List.range ys.length).map (fun i => i :: cs.drop 1)) ys

/-- The effect of V.REDUCE (R215). -/
def Block.reduceEffect (s : Block) (c l : Nat) (en : Entry) (ch : Chain) : Block :=
  let (v, s) := s.chainEnv c en
  let sat := s.ovfSat c
  let s := (runCoords ch.sizes).foldl (fun s cs => s.reduceOne c l v ch en sat cs) s
  s.bump48 (rC c 0xE10) (allGroups (groupSize v.cf) ch.sizes).length

/-- `V_REDUCE` (R207, R215). -/
def execVReduce (core : CoreId) (lane : Lane) (st : State) : Host.Outcome State Fault Refusal := st.act fun s =>
  let c := core.val
  let l := lane.num
  .next (s.vecIssue c l 0x01
    (fun s en => (s.chainCheck c l true en).map (fun ch => (ch, ch.a.toList ++ ch.b.toList, en.tableBytes)))
    (fun s en ch => s.reduceEffect c l en ch))

/-! ### Permute and shuffle (R216, R217) -/

/-- A and Y of the two-descriptor opcodes, with the space and format checks (R209, R231). -/
def Block.pairCheck (s : Block) (c : Nat) (en : Entry) (fmtBad : Nat → Nat → Bool) : Check (Nat × Nat) := do
  let a ← s.need c en.hA
  let y ← s.need c en.hY
  failIf (!(ownSp c a) || !(ownSp c y) || dWindow y) fltSpace none
  failIf (fmtBad a y) fltFormat none
  aligned32 a
  aligned32 y
  pure (a, y)

/-- Formats of V.PERM and V.SHUF: equal, and not NB4. -/
def moveFmtBad (a y : Nat) : Bool := dFormat a != dFormat y || dFormat a == .nb4

/-- Entry i of the index vector of V.PERM (R216). -/
def Block.permIdx (s : Block) (c ia i : Nat) : Nat := ofBytes (s.spRead c (ia + 2 * i) 2)

/-- The checks of V.PERM (R216, R231). -/
def Block.permCheck (s : Block) (c l : Nat) (en : Entry) : Check (Nat × Nat × Nat) := do
  let (a, y) ← s.pairCheck c en moveFmtBad
  let ia := en.f1 25 0
  let n := dSize y 0
  failIf (ia % 32 != 0) fltAlign (some ia)
  failIf (vRank a != vRank y || (vSizes a).drop 1 != (vSizes y).drop 1) fltVecShape (some 1)
  failIf (decide (65536 < n) || decide (spTop + 1 < ia + 2 * n)) fltVecShape (some 4)
  failIf (overlaps a y) fltOverlap (some 1)
  failIf (overlapsRange y ia (ia + 2 * n)) fltOverlap (some 4)
  failIf (l == 1 && decide (8192 < vCount y)) fltUrgent (some 1)
  failIf (dEdge a == 0 && (List.range n).any (fun i => decide (vSize a 0 ≤ s.permIdx c ia i))) fltBounds none
  pure (a, y, ia)

/-- Encodings moved to successive elements. -/
def Block.putRaws (s : Block) (c y : Nat) : List (List Nat × Nat) → Block
  | [] => s
  | (cs, v) :: t => (s.spPut c y cs v).putRaws c y t

/-- The effect of V.PERM (R216): the index vector is read whole before Y is written. -/
def Block.permEffect (s : Block) (c a y ia : Nat) : Block :=
  let idx := (List.range (dSize y 0)).map (fun i => s.permIdx c ia i)
  let mv := (boxCoords (vSizes y)).map (fun cs =>
    (cs, s.spRaw c a (((idx[(cs[0]?).getD 0]?).getD 0 :: cs.drop 1).map Int.ofNat)))
  (s.putRaws c y mv).bump48 (rC c 0xE10) (ceilDiv (vCount y) 32)

/-- `V_PERM` (R216). -/
def execVPerm (core : CoreId) (lane : Lane) (st : State) : Host.Outcome State Fault Refusal := st.act fun s =>
  let c := core.val
  let l := lane.num
  .next (s.vecIssue c l 0x02
    (fun s en => (s.permCheck c l en).map (fun x => (x, [x.1], [(0, x.2.2, 2 * dSize x.2.1 0)])))
    (fun s _ x => s.permEffect c x.1 x.2.1 x.2.2))

/-- G of V.SHUF (R217). -/
def Entry.shufG (en : Entry) : Nat := 2 ^ en.f1 6 3
/-- PAT of V.SHUF. -/
def Entry.pat (en : Entry) : Nat := en.f1 2 0
/-- AMT of V.SHUF. -/
def Entry.shufAmt (en : Entry) : Nat := en.f1 18 7

/-- The source index of position i of a group (R217). -/
def shufFrom (pat g amt i : Nat) : Nat :=
  match pat with
  | 0 => g - 1 - i
  | 1 => (i + amt) % g
  | 2 => if i % 2 = 0 then i / 2 else g / 2 + (i - 1) / 2
  | _ => if i < g / 2 then 2 * i else 2 * (i - g / 2) + 1

/-- The checks of V.SHUF (R217, R231). -/
def Block.shufCheck (s : Block) (c l : Nat) (en : Entry) : Check (Nat × Nat) := do
  let (a, y) ← s.pairCheck c en moveFmtBad
  failIf (vSizes a != vSizes y) fltVecShape (some 1)
  failIf (dSize y 0 % en.shufG != 0 || (en.pat == 1 && decide (en.shufG ≤ en.shufAmt))) fltVecShape (some 4)
  failIf (overlaps a y) fltOverlap (some 1)
  failIf (l == 1 && decide (8192 < vCount y)) fltUrgent (some 1)
  pure (a, y)

/-- The effect of V.SHUF (R217). -/
def Block.shufEffect (s : Block) (c a y : Nat) (en : Entry) : Block :=
  let g := en.shufG
  let mv := (boxCoords (vSizes y)).map (fun cs =>
    let i := (cs[0]?).getD 0
    (cs, s.spRaw c a (((g * (i / g) + shufFrom en.pat g en.shufAmt (i % g)) :: cs.drop 1).map Int.ofNat)))
  (s.putRaws c y mv).bump48 (rC c 0xE10) (nbRuns y * ceilDiv (ceilDiv (dSize y 0 * (dFormat y).size) 8) 256)

/-- `V_SHUF` (R217). -/
def execVShuf (core : CoreId) (lane : Lane) (st : State) : Host.Outcome State Fault Refusal := st.act fun s =>
  let c := core.val
  let l := lane.num
  .next (s.vecIssue c l 0x03
    (fun s en => (s.shufCheck c l en).map (fun x => (x, [x.1], [])))
    (fun s en x => s.shufEffect c x.1 x.2 en))

/-! ### NB4 in the scratchpad (R218, R219) -/

/-- SC of V.PACK and V.UNPACK. -/
def Entry.sc (en : Entry) : Nat := en.f1 25 0

/-- The checks of V.PACK and V.UNPACK; `pack` says which of the two descriptors is NB4 (R218, R219, R231). -/
def Block.packCheck (s : Block) (c l : Nat) (pack : Bool) (en : Entry) : Check (Nat × Nat) := do
  let (a, y) ← s.pairCheck c en (fun a y => (dFormat a == .nb4) == pack || (dFormat y == .nb4) != pack)
  let nb := if pack then y else a
  failIf (en.sc % 32 != 0) fltAlign (some en.sc)
  failIf (vSizes a != vSizes y) fltVecShape (some 3)
  failIf (decide (spTop + 1 < en.sc + nbRecBytes nb)) fltVecShape (some 5)
  failIf (overlaps a y) fltOverlap (some 1)
  failIf (overlapsRange y en.sc (en.sc + nbRecBytes nb)) fltOverlap (some 3)
  failIf (l == 1 && decide (8192 < vCount y)) fltUrgent (some 1)
  pure (a, y)

/-- One block of V.PACK: elements 64b to 64b + 63 of a run, all 64 nibbles written; those beyond SIZE0 are the block's
padding, taken and written as 0 (R39, R42) (DEDUCED, log entry 38). -/
def Block.packBlock (s : Block) (c a y sc : Nat) (sr : FVal) (run : List Nat) (b : Nat) : Block :=
  let n := dSize y 0
  let xs := (List.range 64).map (fun i =>
    if 64 * b + i < n then s.spVal c a ((64 * b + i) :: run.drop 1) else .zero)
  let q := nb4Quantise xs sr
  let mv := (List.range 64).map (fun i =>
    ((64 * b + i) :: run.drop 1, if 64 * b + i < n then (q.q[i]?).getD 0 else 0))
  let r := nbRecAt y sc ((64 * b) :: run.drop 1)
  ((s.putRaws c y mv).spWrite c (r + b % 64) [BitVec.ofNat 8 q.scale]).numFlags c q.flags

/-- One run of V.PACK: its records laid out with scale 0x00 beyond SIZE0 and RSCALE, then its blocks (R219). -/
def Block.packRun (s : Block) (c a y sc rs : Nat) (run : List Nat) : Block :=
  let rec_ := leBytes 0 64 ++ leBytes rs 4 ++ leBytes 0 28
  let s := (List.range (nbQ y)).foldl (fun s j => s.spWrite c (nbRecAt y sc ((4096 * j) :: run.drop 1)) rec_) s
  (List.range (ceilDiv (dSize y 0) 64)).foldl (fun s b => s.packBlock c a y sc (Fmt.fp32.decode rs) run b) s

/-- Groups of V.PACK and V.UNPACK (R221). -/
def packGroups (y : Nat) : Nat := nbRuns y * ceilDiv (dSize y 0) 128

/-- `V_PACK` (R219, R42). -/
def execVPack (core : CoreId) (lane : Lane) (st : State) : Host.Outcome State Fault Refusal := st.act fun s =>
  let c := core.val
  let l := lane.num
  .next (s.vecIssue c l 0x04
    (fun s en => (s.packCheck c l true en).map (fun x => (x, [x.1], [])))
    (fun s en x => ((runCoords (vSizes x.2)).foldl (fun s run => s.packRun c x.1 x.2 en.sc (en.f1 63 32) run) s).bump48
      (rC c 0xE10) (packGroups x.2)))

/-- One element of V.UNPACK: decoded under R41, converted to Y's format under R49. -/
def Block.unpackElem (s : Block) (c a y sc : Nat) (sat : Bool) (cs : List Nat) : Block :=
  match resolve a (cs.map Int.ofNat) with
  | .at src =>
    let (sb, sr) := s.nbScales c a sc src
    let (v, fl) := nb4Decode (Fmt.nb4.decode (s.spGet c a src)) sb sr
    (s.numFlags c fl).putVal c y sat cs v
  | _ => s.putVal c y sat cs .zero

/-- `V_UNPACK` (R219, R41). -/
def execVUnpack (core : CoreId) (lane : Lane) (st : State) : Host.Outcome State Fault Refusal := st.act fun s =>
  let c := core.val
  let l := lane.num
  .next (s.vecIssue c l 0x05
    (fun s en => (s.packCheck c l false en).map (fun x => (x, [x.1], nbRecords x.1 en.sc)))
    (fun s en x =>
      let sat := s.ovfSat c
      ((boxCoords (vSizes x.2)).foldl (fun s cs => s.unpackElem c x.1 x.2 en.sc sat cs) s).bump48
        (rC c 0xE10) (packGroups x.2)))

/-! ### Completion and the generator (R214, R221) -/

/-- `VEC_ENTRY_COMPLETE`: the oldest issued entry of the lane completes, its results visible (R221, R269). -/
def execVecEntryComplete (core : CoreId) (lane : Lane) (st : State) : Host.Outcome State Fault Refusal := st.act fun s =>
  let c := core.val
  let l := lane.num
  .next <| match s.issued? (qKey c eVec l) with
  | none => s
  | some (i, en) => s.endEntry c eVec l i en

/-- The write of VRSEED (R214, R230): 0 is reserved. An operation draws for all its elements as it issues, so a write
made while it runs already follows its last draw. -/
def Block.writeVrseed (s : Block) (c l v : Nat) : Option Block :=
  if v = 0 then none else some (s.setRn (rVrseed c l) v)

/-- `VRSEED_WRITE` (R214). -/
def execVrseedWrite (req : Requester) (core : CoreId) (lane : Lane) (value : BitVec 32) (st : State) :
    Host.Outcome State Fault Refusal := st.act fun s =>
  .next (s.guarded req (rVrseed core.val lane.num) value.toNat
    (fun s => s.writeVrseed core.val lane.num value.toNat))

end Sys2Proof.Machine
end

