-- ==== Sys2Proof/Machine/Matrix.lean ====
section
/-!
DEFINITION. The matrix engine (08_vector_and_matrix.md, R222-R228; R51, R53).
-/
namespace Sys2Proof.Machine

/-- The engine index of MTX. -/
def eMtx : Nat := 2
/-- FLT_MTX_SHAPE. -/
def fltMtxShape : Nat := 0x63

/-- Handle C of M.MM. -/
def Entry.mmC (en : Entry) : Nat := en.f1 8 0
/-- ACC of M.MM. -/
def Entry.mmAcc (en : Entry) : Nat := en.f1 10 9
/-- TB of M.MM. -/
def Entry.mmTb (en : Entry) : Bool := en.f1 11 11 == 1
/-- SC of M.MM. -/
def Entry.mmSc (en : Entry) : Nat := en.f1 37 12

/-- An M.MM that has passed its checks: its descriptors and its geometry (R223). -/
structure MatMul where
  a : Nat
  b : Nat
  y : Nat
  cd : Option Nat
  acc : Nat
  tb : Bool
  sc : Nat
deriving DecidableEq, Repr

/-- K. -/
def MatMul.k (x : MatMul) : Nat := dSize x.a 0
/-- M. -/
def MatMul.m (x : MatMul) : Nat := dSize x.a 1
/-- N. -/
def MatMul.n (x : MatMul) : Nat := if x.tb then dSize x.b 0 else dSize x.b 1

/-- INT8 or INT4. -/
def isIntFmt (f : Fmt) : Bool := f == .int8 || f == .int4

/-- Whether the pair accumulates in INT32 (R224). -/
def intPair (a b : Nat) : Bool := isIntFmt (dFormat a) && isIntFmt (dFormat b)

/-- The NB4 operand, if one is. -/
def nbOperand (a b : Nat) : Option Nat :=
  if dFormat a = .nb4 then some a else if dFormat b = .nb4 then some b else none

/-- Formats R224 does not accept. -/
def mmFmtBad (a b y : Nat) (cd : Option Nat) (acc : Nat) : Bool :=
  (dFormat a == .nb4 && dFormat b == .nb4) ||
    (if intPair a b then
      !(isIntFmt (dFormat y) || dFormat y == .fp32) || (acc == 1 && !(isIntFmt (dFormat y))) ||
        cd.any (fun d => !(isIntFmt (dFormat d)))
    else dFormat y == .nb4 || cd.any (fun d => dFormat d == .nb4))

/-- The scale records of an M.MM as a range. -/
def mmRecords (a b sc : Nat) : Nat × Nat :=
  match nbOperand a b with
  | some d => (sc, sc + nbRecBytes d)
  | none => (0, 0)

/-- The checks of M.MM at issue after the power check (R223, R224, R227, R231). A window named as Y is a write through a
window, which R74 answers with FLT_SPACE; one named as A, B or C is the FLT_MTX_SHAPE of R232 (DEDUCED, log entry 136). -/
def Block.mmCheck (s : Block) (c l : Nat) (en : Entry) : Check MatMul := do
  let a ← s.need c en.hA
  let b ← s.need c en.hB
  let y ← s.need c en.hY
  let cd ← if en.mmAcc = 2 then (s.need c en.mmC).map some else pure none
  let ds := [a, b, y] ++ cd.toList
  failIf (ds.any (fun d => !(ownSp c d)) || dWindow y) fltSpace none
  failIf (mmFmtBad a b y cd en.mmAcc) fltFormat none
  ds.forM aligned32
  failIf ((nbOperand a b).isSome && en.mmSc % 32 != 0) fltAlign (some en.mmSc)
  let x : MatMul := ⟨a, b, y, cd, en.mmAcc, en.mmTb, en.mmSc⟩
  failIf ([a, b, y].any (fun d => dRank d != 2) || ds.any dWindow) fltMtxShape (some 1)
  failIf ((if x.tb then dSize b 1 else dSize b 0) != x.k) fltMtxShape (some 2)
  failIf (dSize y 0 != x.n || dSize y 1 != x.m) fltMtxShape (some 3)
  failIf (decide (4096 < x.m)) fltMtxShape (some 4)
  failIf (match cd with
    | some d => dRank d != 1 || dSize d 0 != x.n
    | none => en.mmC != 0) fltMtxShape (some 5)
  failIf (match nbOperand a b with
    | some d => decide (spTop + 1 < en.mmSc + nbRecBytes d)
    | none => en.mmSc != 0) fltMtxShape (some 6)
  failIf (overlaps a y) fltOverlap (some 1)
  failIf (overlaps b y) fltOverlap (some 2)
  failIf (cd.any (fun d => overlaps d y) || ((nbOperand a b).isSome &&
    overlapsRange y (mmRecords a b en.mmSc).1 (mmRecords a b en.mmSc).2)) fltOverlap (some 3)
  failIf (l == 1 && (decide (128 < x.m) || decide (128 < x.n) || decide (4096 < x.k))) fltUrgent (some 2)
  pure x

/-- The scale record bytes an M.MM reads. -/
def mmScaleBytes (x : MatMul) : List (Nat × Nat × Nat) :=
  match nbOperand x.a x.b with
  | some d => nbRecords d x.sc
  | none => []

/-- The checked M.MM an issued entry carries in its descriptor copies (R59). -/
def Entry.matMul (en : Entry) : MatMul :=
  let d := fun i : Nat => ((en.descs[i]?).getD 0#256).toNat
  ⟨d 0, d 1, d 2, (en.descs[3]?).map BitVec.toNat, en.mmAcc, en.mmTb, en.mmSc⟩

/-- `M_MM`: the power check of R228, whose fault never holds the core, the checks, and issue (R222, R231). -/
def execMMm (core : CoreId) (lane : Lane) (st : State) : Host.Outcome State Fault Refusal := st.act fun s =>
  let c := core.val
  let l := lane.num
  .next <| match s.gate c eMtx l 0x00 1 noUses with
  | .error s => s
  | .ok (s, i, en) =>
    if !(s.domOn (8 + c)) then s.faultEntry c eMtx l i en 0x60 0 true
    else match s.mmCheck c l en with
      | .error b => s.failEntry c eMtx l i en b
      | .ok x =>
        match s.scanAll c ([x.a, x.b] ++ x.cd.toList ++ (if x.acc = 1 then [x.y] else [])) (mmScaleBytes x) with
        | (s, some w) => s.faultEntry c eMtx l i en 0xA0 w
        | (s, none) => s.markIssued c eMtx l i (([x.a, x.b, x.y] ++ x.cd.toList).map (BitVec.ofNat 256))

/-- A(k, m). -/
def Block.mmA (s : Block) (c : Nat) (x : MatMul) (k m : Nat) : FVal := s.spVal c x.a [k, m, 0, 0]
/-- B(k, n) (R222). -/
def Block.mmB (s : Block) (c : Nat) (x : MatMul) (k n : Nat) : FVal :=
  s.spVal c x.b (if x.tb then [n, k, 0, 0] else [k, n, 0, 0])

/-- init(n, m) (R223). -/
def Block.mmInit (s : Block) (c : Nat) (x : MatMul) (m n : Nat) : FVal :=
  match x.acc, x.cd with
  | 1, _ => s.spVal c x.y [n, m, 0, 0]
  | 2, some d => s.spVal c d [n, 0, 0, 0]
  | _, _ => .zero

/-- An exact integer value as an integer. -/
def FVal.toInt : FVal → Int
  | .fin sg m e => let a : Int := roundAt .trunc m e 0; if sg then -a else a
  | _ => 0

/-- One INT32 addition with saturation (R53). -/
def addInt32 (a b : Int) : Int × Flags :=
  let z := a + b
  if z < -(2 ^ 31) then (-(2 ^ 31), flIntSat) else if 2 ^ 31 - 1 < z then (2 ^ 31 - 1, flIntSat) else (z, 0#6)

/-- One output of an integer pair, terms in ascending k (R225). -/
def Block.mmInt (s : Block) (c : Nat) (x : MatMul) (m n : Nat) : FVal × Flags :=
  let r := (List.range x.k).foldl (fun (r : Int × Flags) k =>
    let (v, f) := addInt32 r.1 ((s.mmA c x k m).toInt * (s.mmB c x k n).toInt)
    (v, r.2 ||| f)) ((s.mmInit c x m n).toInt, 0#6)
  (.ofInt r.1, r.2)

/-- A product: exact, rounded to FP32 where an operand is FP32 (R53). -/
def mmProduct (x : MatMul) (a b : FVal) : FVal × Flags :=
  if dFormat x.a = .fp32 ∨ dFormat x.b = .fp32 then fmul32 a b else a.mul b

/-- One output of a floating-point pair without NB4 (R225). -/
def Block.mmFloat (s : Block) (c : Nat) (x : MatMul) (m n : Nat) : FVal × Flags :=
  (List.range x.k).foldl (fun (r : FVal × Flags) k =>
    let (p, f1) := mmProduct x (s.mmA c x k m) (s.mmB c x k n)
    let (v, f2) := fadd32 r.1 p
    (v, r.2 ||| f1 ||| f2)) (s.mmInit c x m n, 0#6)

/-- The block partial of block j: exact in integers beside an integer operand, else the first product taken exactly and
each later one added in FP32 (R51, R53, R98). -/
def Block.mmPartial (s : Block) (c : Nat) (x : MatMul) (m n j : Nat) : FVal × Flags :=
  let ks := (List.range (min 64 (x.k - 64 * j))).map (64 * j + ·)
  if isIntFmt (dFormat x.a) || isIntFmt (dFormat x.b) then
    (.ofInt (ks.foldl (fun z k => z + (s.mmA c x k m).toInt * (s.mmB c x k n).toInt) 0), 0#6)
  else
    let r := ks.foldl (fun (r : Option FVal × Flags) k =>
      let (p, f1) := mmProduct x (s.mmA c x k m) (s.mmB c x k n)
      match r.1 with
      | none => (some p, r.2 ||| f1)
      | some q =>
        let (v, f2) := fadd32 q p
        (some v, r.2 ||| f1 ||| f2)) (none, 0#6)
    (r.1.getD .zero, r.2)

/-- t of block j for output (m, n) (R225). -/
def Block.mmScale (s : Block) (c : Nat) (x : MatMul) (m n j : Nat) : FVal × Flags :=
  let (sb, sr) := if dFormat x.a = .nb4 then s.nbScales c x.a x.sc [64 * j, m, 0, 0]
    else s.nbScales c x.b x.sc [64 * j, n, 0, 0]
  fmul32 sb sr

/-- One output of a pair with NB4: a term for each block of 64 consecutive k (R225). -/
def Block.mmNb (s : Block) (c : Nat) (x : MatMul) (m n : Nat) : FVal × Flags :=
  (List.range (ceilDiv x.k 64)).foldl (fun (r : FVal × Flags) j =>
    let (p, f1) := s.mmPartial c x m n j
    let (t, f2) := s.mmScale c x m n j
    let (q, f3) := fmul32 p t
    let (v, f4) := fadd32 r.1 q
    (v, r.2 ||| f1 ||| f2 ||| f3 ||| f4)) (s.mmInit c x m n, 0#6)

/-- Whether B is an NB4 operand read transposed, whose block scales do not run along k: R225 gives no value there and
each output is a free one (DESIGN CHOICE, log entry 15). -/
def MatMul.openSum (x : MatMul) : Bool := x.tb && dFormat x.b == .nb4

/-- One accumulator after its last k-tile (R225). -/
def Block.mmSum (s : Block) (c : Nat) (x : MatMul) (m n : Nat) : FVal × Flags :=
  if intPair x.a x.b then s.mmInt c x m n
  else if (nbOperand x.a x.b).isSome then s.mmNb c x m n
  else s.mmFloat c x m n

/-- One output written (R224, R225): an INT32 accumulator converts without OVF_SAT, an FP32 one under it. -/
def Block.mmOut (s : Block) (c : Nat) (x : MatMul) (sat : Bool) (o : Nat × Nat) (r : FVal × Flags) : Block :=
  if x.openSum then
    let (f, s) := s.draw
    s.spPut c x.y [o.2, o.1, 0, 0] (f % 2 ^ (dFormat x.y).size)
  else (s.numFlags c r.2).putVal c x.y sat [o.2, o.1, 0, 0] r.1

/-- The outputs of a tile written, each from its accumulator: every accumulator is formed before the first write, so the
n-tile's columns of Y are read before it (R226). -/
def Block.mmTile (s : Block) (c : Nat) (x : MatMul) (sat : Bool) (os : List (Nat × Nat)) : Block :=
  (List.zip os (os.map (fun o => s.mmSum c x o.1 o.2))).foldl (fun t p => t.mmOut c x sat p.1 p.2) s

/-- The outputs of n-tile j, in ascending address. -/
def MatMul.tile (x : MatMul) (j : Nat) : List (Nat × Nat) :=
  (List.range x.m).flatMap (fun m => (List.range (min 128 (x.n - 128 * j))).map (fun i => (m, 128 * j + i)))

/-- k_t, the tile depth (R224). -/
def MatMul.depth (x : MatMul) : Nat := if max (dFormat x.a).size (dFormat x.b).size = 4 then 256 else 128
/-- c, cycles per row of A (R224). -/
def MatMul.rowCycles (x : MatMul) : Nat :=
  match max (dFormat x.a).size (dFormat x.b).size with
  | 32 => 8 | 16 => 2 | _ => 1
/-- L_b, cycles to load a tile (R226). -/
def MatMul.loadCycles (x : MatMul) : Nat :=
  ceilDiv (x.depth * 128 * (dFormat x.b).size / 8) (if x.tb then 256 else 512) + (if dFormat x.b = .nb4 then 2 else 0)

/-- Whether the lane's entry has the array: an issued urgent entry takes it from the normal one until it completes
(R227). -/
def Block.mtxRuns (s : Block) (c l : Nat) : Bool := l == 1 || (s.issued? (qKey c eMtx 1)).isNone

/-- `MTX_TILE_WRITE`: the next n-tile's last k-tile has been added and its outputs are written (R226). While the thermal
trip lasts the array stands still (R379) (DESIGN CHOICE, log entry 76). -/
def execMtxTileWrite (core : CoreId) (lane : Lane) (st : State) : Host.Outcome State Fault Refusal := st.act fun s =>
  let c := core.val
  let l := lane.num
  .next <| match s.issued? (qKey c eMtx l) with
  | none => s
  | some (i, en) =>
    let x := en.matMul
    if ceilDiv x.n 128 ≤ en.next ∨ s.fld (rEv 0xB8) 0 0 = 1 ∨ s.mtxRuns c l = false then s
    else
      let s := s.mmTile c x en.ovfSat (x.tile en.next)
      let kt := ceilDiv x.k x.depth
      let s := s.bump48 (rC c 0xE18) (kt * x.m)
      let s := { s with beat := { s.beat with winMtx := s.beat.winMtx + kt * x.m } }
      let s := s.bump48 (rC c 0xE20) (kt * (x.loadCycles - x.m * x.rowCycles))
      s.mapEntry (qKey c eMtx l) i (fun en => { en with next := en.next + 1 })

/-- `MTX_ENTRY_COMPLETE`: once every n-tile is written (R226, R269), for the normal lane while it is not suspended
(R227). -/
def execMtxEntryComplete (core : CoreId) (lane : Lane) (st : State) : Host.Outcome State Fault Refusal := st.act fun s =>
  let c := core.val
  let l := lane.num
  .next <| match s.issued? (qKey c eMtx l) with
  | none => s
  | some (i, en) => 
    if ceilDiv en.matMul.n 128 ≤ en.next ∧ s.mtxRuns c l then s.endEntry c eMtx l i en else s

end Sys2Proof.Machine
end

