-- ==== Sys2Proof/Machine/Beat.lean ====
section
/-!
DEFINITION. The beat: edges, ticks, loss and return, schedules from the shelf and the host, and the admission of banks
under the envelope (13_beat_and_power.md, R132-R135, R506, R507).
-/
namespace Sys2Proof.Machine

/-- The beat's state changed. -/
def Block.onBeat (s : Block) (f : Beat → Beat) : Block := { s with beat := f s.beat }

/-- Cycles of the nominal period: NOM is in units of 10 Hz (R382). -/
def Block.nominal (s : Block) : Nat := 150000000 / max 1 (s.fld (rEv 8) 12 2)

/-- Whether the envelope controller runs: the module has power. -/
def Block.awake (s : Block) : Bool := s.life == .dawn || s.life == .service || s.life == .twilight

/-- ENVSTAT.BEAT_LOST. -/
def Block.beatLost (s : Block) : Bool := s.fld (rEv 0) 5 5 == 1

/-- Whether the internal oscillator drives the beat (R372, R374, R479), up to the edge that takes over (R373). -/
def Block.internalDrive (s : Block) : Bool :=
  s.life == .dawn || s.beatLost || s.beat.src || s.beat.rearm == 3

/-- BIDX. -/
def Block.bidx (s : Block) : Nat := s.fld (rEv 0x10) 57 48
/-- EPOCH. -/
def Block.epoch (s : Block) : Nat := s.fld (rEv 0x10) 47 0

/-! ### Schedules (R364, R367) -/

/-- A schedule: its sixteen allotments and its ENV. -/
structure Schedule where
  allot : List Nat
  env : Nat
deriving DecidableEq, Repr

/-- Sixteen allotments held in four registers from `a` on. -/
def Block.allotAt (s : Block) (a : Nat) : List Nat :=
  (List.range 16).map (fun i => s.fld (a + 4 * (i / 4)) (8 * (i % 4) + 4) (8 * (i % 4)))

/-- Sixteen allotments stored in four registers from `a` on. -/
def Block.putAllot (s : Block) (a : Nat) (l : List Nat) : Block :=
  (List.range 16).foldl (fun s i =>
    s.setFld (a + 4 * (i / 4)) (8 * (i % 4) + 4) (8 * (i % 4)) ((l[i]?).getD 0)) s

/-- The active shelf schedule. -/
def Block.activeSched (s : Block) : Option Schedule :=
  if s.fld (rEv 0) 7 7 = 1 then some ⟨s.allotAt (rEv 0x20), s.fld (rEv 0) 4 3⟩ else none

/-- The pending schedule with its ATBIDX. -/
def Block.pendingSched (s : Block) : Option (Schedule × Nat) :=
  if s.fld (rEv 0x50) 12 12 = 1 then some (⟨s.allotAt (rEv 0x40), s.fld (rEv 0x50) 1 0⟩, s.fld (rEv 0x50) 11 2) else none

/-- What the next beat's start will find: BIDX, ALIGNED, the active schedule, the committed host schedule, SRC and
BEAT_LOST as they stand after it (R361, R364, R374, R382). -/
structure Upcoming where
  bidx : Nat
  aligned : Bool
  sched : Option Schedule
  host : List Nat
  src : Bool
  lost : Bool
deriving DecidableEq, Repr

/-- The pending schedule, but at a beat's edge one whose frame arrived in the edge's own cycle: that arrived in the beat
that the edge starts (R364). -/
def Block.dueSched (s : Block) (edge : Bool) : Option (Schedule × Nat) :=
  if edge && s.beat.frameAt == some s.cycle then none else s.pendingSched

/-- What the next beat will find: at its edge, or before it. -/
def Block.upcoming (s : Block) (edge : Bool) : Upcoming :=
  let b := s.beat
  let bidx := if b.bcast.isSome then 0 else (s.bidx + 1) % 1024
  let aligned := b.bcast.isSome || s.fld (rEv 0) 6 6 == 1
  let src := s.fld (rEv 8) 0 0 == 1
  { bidx := bidx
    aligned := aligned
    sched := match s.dueSched edge with
      | some (x, at_) => if at_ = bidx ∧ aligned = true then some x else s.activeSched
      | none => s.activeSched
    host := if b.commit then s.allotAt (rEv 0x60) else b.host
    src := src
    lost := if src then false else b.src || s.beatLost }

/-- The effective envelope: 0 Dusk, 1 Afternoon, 2 Noon (R367). -/
def Block.envelope (s : Block) (u : Upcoming) : Nat :=
  let shelf := if s.fld (rEv 0x70) 0 0 = 1 ∨ u.src = true then 2 else match u.sched with
    | some x => x.env
    | none => 0
  if u.lost then 0 else min shelf (s.fld (rEv 4) 1 0)

/-- The allotments (R367). -/
def Block.allotment (s : Block) (u : Upcoming) : List Nat :=
  if u.lost then List.replicate 16 16
  else if s.fld (rEv 0x70) 0 0 = 1 then u.host
  else if u.src then List.replicate 16 16
  else match u.sched with
    | some x => x.allot
    | none => List.replicate 16 0

/-! ### Limits (R132, R370, R371, R379, R485) -/

/-- The lit budget of an envelope (R20). -/
def litBudget (env : Nat) : Nat := if env = 0 then 6144 else if env = 1 then 11264 else 16384

/-- L, E and D of a segment with budget b, allotment a and deduction d (R132). -/
def limitsOf (b a d : Nat) : Limits :=
  let l := min (b - d) (1024 * a)
  ⟨l, min 256 l, d⟩

/-- Whether the thermal trip is in force. -/
def Block.tripped (s : Block) : Bool := s.fld (rEv 0xB8) 0 0 == 1

/-- The limits of segment j with deduction d. -/
def Block.segLimits (s : Block) (j d : Nat) : Limits :=
  if s.life == .dawn then (if s.fld (rMc 0x10) 3 0 = 7 then limitsOf 1024 16 0 else {})
  else if s.life == .service then limitsOf (litBudget s.beat.env) ((s.beat.allot[j]?).getD 0) d
  else {}

/-- The limits in force: none during the trip and in Twilight (R370, R379). -/
def Block.inForce (s : Block) (x : Limits) : Limits :=
  if s.tripped || s.life == .twilight then { x with l := 0, e := 0 } else x

/-- EV.LIMIT and EV.DEDUCT shown. -/
def Block.showLimits (s : Block) : Block :=
  let x := s.inForce s.beat.cur
  ((s.setFld (rEv 0x80) 14 0 x.l).setFld (rEv 0x80) 23 15 x.e).setFld (rEv 0x84) 12 0 x.d

/-! ### Admission (R130, R133, R134) -/

/-- Whether the die a bank lies in is being switched (R309). -/
def Block.switching (s : Block) (p d : Nat) : Bool := s.fld (rP p 0x194) 2 0 == 3 && s.fld (rP p 0x190) 3 0 == d

/-- Issued operations of a lane kind in ticket order. -/
def Block.opsInOrder (s : Block) (lane : Nat) : List (Nat × BankOp) :=
  (s.ops.filterMap (fun p => match p.2 with
    | some o => if o.lane = lane ∧ o.stage = .running then some (p.1, o) else none
    | none => none)).mergeSort (fun a b => decide (a.2.seq ≤ b.2.seq))

/-- Whether a normal operation is its bank's next one (R130): no earlier operation of its lane and core has RUNs due
there, and the unit is bound to no other operation that has. -/
def Block.nextThere (s : Block) (t : Nat) (o : BankOp) (g : Nat) (u : Blu) : Bool :=
  let other := match u.op with
    | some x => x.ticket != t && s.dueOf x.ticket g
    | none => false
  !(s.earlierThere o g) && !other

/-- Banks that ask for light, in the order of R134: key, ticket, whether urgent. -/
def Block.wants (s : Block) : List (Nat × Nat × Bool) :=
  [1, 0].flatMap (fun lane => (s.opsInOrder lane).flatMap (fun (t, o) => o.banks.filterMap (fun g =>
    let (p, d, b) := s.physBank g
    let k := bankKey p d b
    if o.due g && !(s.switching p d) && (lane == 1 || s.nextThere t o g (s.blu k)) then some (k, t, lane == 1) else none)))

/-- One bank taken, while tokens of its kind remain; a normal operation's token replaces an ember token. -/
def takeBank (x : Limits) (acc : List (Nat × Nat × Bool)) (w : Nat × Nat × Bool) : List (Nat × Nat × Bool) :=
  let (k, t, urgent) := w
  let ember := (acc.filter (fun e => e.2.2)).length
  let normal := acc.length - ember
  match acc.find? (fun e => e.1 == k) with
  | some e =>
    if urgent || !e.2.2 || decide (x.l - x.e ≤ normal) then acc
    else acc.map (fun e => if e.1 = k then (k, t, false) else e)
  | none =>
    if decide ((if urgent then x.e else x.l - x.e) ≤ (if urgent then ember else normal)) then acc
    else acc ++ [w]

/-- The banks that hold tokens, with the operation and kind of each. -/
def Block.litBanks (s : Block) : List (Nat × Nat × Bool) :=
  (s.blus.filter (fun p => p.2.lit)).map (fun p =>
    let t := p.2.litBy.getD 0
    (p.1, t, match s.op? t with
      | some o => o.lane == 1
      | none => false))

/-- EV.LITUSE.NOW. -/
def Block.litNow (s : Block) : Nat := (s.blus.filter (fun p => p.2.lit)).length

/-- The peak of the beat noted. -/
def Block.notePeak (s : Block) : Block := let n := s.litNow; s.onBeat (fun b => { b with peak := max b.peak n })

/-- The bank of a key. -/
def bankOfKey (k : Nat) : BankAt := ⟨k / 256 / 17, k / 256 % 17, k % 256⟩

/-- A lit bank stopped at a column boundary, its token returned (R105, R108, R135). -/
def Block.darken (s : Block) (k : Nat) : Block :=
  (s.parkBank (bankOfKey k)).mapBlu k (fun u => { u.stopUrgent with lit := false, litBy := none })

/-- The rows of a parked RUN open again (R135). -/
def Blu.reopen (u : Blu) : Blu :=
  match u.ckpt with
  | some r => { u with rb0 := some r.row,
                       rb1 := if wf r.word 27 26 = 1 ∧ wf r.word 31 31 = 1 then u.rb1 else some r.row1 }
  | none => u

/-- A bank takes a token for an operation; the normal operation stopped there resumes on a token of its own (R106, R133,
R134, R135). -/
def Block.light (s : Block) (k t : Nat) : Block :=
  let u := s.blu k
  let s := s.mapBlu k (fun u => { u with lit := true, litBy := some t })
  if u.st == 4 && u.uop.isNone && u.holdsNormal t then (s.mapBlu k Blu.reopen).unpark (bankOfKey k) else s

/-- Free tokens handed out at a tick boundary (R134) (DESIGN CHOICE, log entry 72). -/
def Block.fill (s : Block) : Block :=
  let x := s.inForce s.beat.cur
  let have_ := s.litBanks
  let after := s.wants.foldl (takeBank x) have_
  ((after.filter (fun e => !(have_.contains e))).foldl (fun s e => s.light e.1 e.2.1) s).notePeak

/-- The admissions of the coming segment (R134). -/
def Block.planSegment (s : Block) (x : Limits) : Block :=
  let plan := s.wants.foldl (takeBank (s.inForce x)) []
  s.onBeat (fun b => { b with next := x, plan := plan, planned := true })

/-- A segment begins: banks not admitted stop, admitted ones are lit, and the limits change (R132-R135). -/
def Block.segmentBegins (s : Block) : Block :=
  let plan := if s.tripped || s.life == .twilight then [] else s.beat.plan
  let s := s.onBeat (fun b => { b with cur := b.next, plan := [], planned := false })
  let keep := fun (e : Nat × Nat × Bool) =>
    let x := bankOfKey e.1
    s.dueOf e.2.1 (s.gbidOf x.p x.d x.b)
  let go := plan.filter keep
  let stay := fun k => plan.any (fun e => e.1 == k) && (go.any (fun e => e.1 == k) || (match (s.blu k).litBy with
    | some t => let x := bankOfKey k; s.dueOf t (s.gbidOf x.p x.d x.b)
    | none => false))
  let dark := (s.litBanks.map Prod.fst).filter (fun k => !(stay k))
  let s := dark.foldl Block.darken s
  (go.foldl (fun s e => s.light e.1 e.2.1) s).showLimits

/-! ### The window of R371 -/

/-- The window closes: SPIN_MW and MTX_MW, and the deduction of the next segment. -/
def Block.closeWindow (s : Block) : Block × Nat :=
  let b := s.beat
  let c := max 1 (s.cycle - b.winCycle)
  let spin := ceilDiv (150 * b.winSpin) c
  let mtx := ceilDiv (17000 * b.winMtx) c
  let s := (s.setRn (rEv 0x88) (spin % 2 ^ 32)).setRn (rEv 0x8C) (mtx % 2 ^ 32)
  let d := if s.life != .service || b.fresh then 0 else ceilDiv (1000 * (spin + mtx)) 29297
  (s.onBeat (fun b => { b with winCycle := s.cycle, winSpin := 0, winMtx := 0, ded := d }), d)

/-- The envelope and the allotments latched at a segment-0 admission (R368). -/
def Block.latchEnv (s : Block) (u : Upcoming) : Block :=
  let e := s.envelope u
  let a := s.allotment u
  s.onBeat (fun b => { b with env := e, allot := a })

/-- The last tick of segment j: the window closes and the next segment is planned (R134, R371) (DEDUCED, log entry 75). -/
def Block.lastTick (s : Block) (j : Nat) : Block :=
  let (s, d) := s.closeWindow
  if j = 15 then
    let s := s.latchEnv (s.upcoming false)
    s.planSegment (s.segLimits 0 d)
  else s.planSegment (if s.beat.fresh then {} else s.segLimits (j + 1) d)

/-! ### The trip (R379) -/

/-- The trip begins: every lit bank stops, and the trip is shown, counted and logged. -/
def Block.tripBegins (s : Block) : Block :=
  let s := s.onBeat (fun b => { b with tripDue := false })
  if s.tripped then s
  else
    let s := ((s.setFld (rEv 0xB8) 1 0 3).bump32 (rEv 0xBC) 1).thermalEvent
    ((s.litBanks.map Prod.fst).foldl Block.darken s).showLimits

/-- What every tick boundary does: a trip that is due begins, a new segment begins, free tokens are handed out. -/
def Block.tickBoundary (s : Block) (k : Nat) : Block :=
  let s := if s.beat.tripDue then s.tripBegins else s
  let s := if k % 64 = 0 then s.segmentBegins else s
  let s := s.fill
  if k % 64 = 63 then s.lastTick (k / 64) else s

/-- `TICK_START` (R359): the next tick begins at its cycle. -/
def execTickStart (st : State) : Host.Outcome State Fault Refusal := st.act fun s =>
  let k := s.beat.tick
  .next <| if 1024 ≤ k ∨ !s.awake then s
  else
    let s := s.passTo (s.beat.start + k * s.beat.basis / 1024)
    (s.onBeat (fun b => { b with tick := k + 1 })).tickBoundary k

/-! ### Beats (R358-R361, R372-R374) -/

/-- The pair (EPOCH, BIDX) set. -/
def Block.setCount (s : Block) (e b : Nat) : Block := s.setRn (rEv 0x10) (e % 2 ^ 48 + (b % 1024) <<< 48)

/-- The count at a beat's start (R361). -/
def Block.countBeat (s : Block) : Block :=
  let e := s.epoch
  let n := (s.bidx + 1) % 1024
  let e' := if n = 0 then e + 1 else e
  match s.beat.bcast with
  | some x =>
    let s := (s.setCount x 0).setFld (rEv 0) 6 6 1
    if x = e' ∧ n = 0 then s else (s.setFld (rEv 0xC) 4 4 1).beatEvent
  | none =>
    let s := s.setCount e' n
    if n = 0 ∧ s.beatLost = false then s.setFld (rEv 0xC) 3 3 1 else s

/-- A change of SRC, taken up at a beat's start (R374): back to 0, the external beat is taken up as after REARM
(DEDUCED, log entry 74). -/
def Block.takeSrc (s : Block) : Block :=
  let src := s.fld (rEv 8) 0 0 == 1
  if src == s.beat.src then s
  else if src then
    let s := ((s.setFld (rEv 0) 5 5 0).setFld (rEv 0xC) 0 0 0).setFld (rEv 0xC) 6 6 0
    s.onBeat (fun b => { b with src := true, rearm := 0 })
  else
    let s := (s.setFld (rEv 0) 5 5 1).setFld (rEv 0xC) 6 6 1
    s.onBeat (fun b => { b with src := false, rearm := 1, edges := 0 })

/-- The active schedule replaced by the pending one, where the new beat is the one it names (R364). -/
def Block.takeSched (s : Block) (u : Upcoming) : Block :=
  match s.dueSched true with
  | none => s
  | some (x, at_) =>
    if at_ = u.bidx ∧ u.aligned = true then
      let s := (s.putAllot (rEv 0x20) x.allot).putAllot (rEv 0x40) []
      ((s.setFld (rEv 0) 4 3 x.env).setFld (rEv 0) 7 7 1).setRn (rEv 0x50) 0
    else s

/-- STATE of ENVSTAT in service follows the effective envelope (R382). -/
def Block.showEnv (s : Block) : Block := if s.life == .service then s.setFld (rEv 0) 2 0 (3 - s.beat.env) else s

/-- A beat begins now: the last one's telemetry, the count, what takes effect at a beat's start, and segment 0, which is
admitted now where no admission in a last tick was made for it, with the deduction of segment 15's window (R360, R361,
R364, R371). -/
def Block.beatStart (s : Block) (basis : Nat) (force : Bool) : Block :=
  let b := s.beat
  let (pin, s) := s.draw
  let s := s.setRn (rEv 0xA0) (pin % 2 ^ 32)
  let s := s.setFld (rEv 0x90) 29 15 b.peak
  let s := s.setFld (rEv 0xC) 31 16 (min 65535 ((s.cycle - b.start) / 15))
  let u := s.upcoming true
  let s := ((s.countBeat).takeSched u).takeSrc
  let s := s.onBeat (fun b => { b with
    start := s.cycle, basis := basis, tick := 1, bcast := none, host := u.host, commit := false, peak := 0 })
  let u := { u with src := s.beat.src, lost := s.beatLost }
  let closed := b.planned && b.tick == 1024
  let s := if closed && !force then s
    else
      let (s, d) := if closed then (s, b.ded) else s.closeWindow
      let s := s.latchEnv u
      s.planSegment (s.segLimits 0 d)
  let s := s.onBeat (fun b => { b with fresh := false })
  (s.tickBoundary 0).showEnv

/-- Beat loss is entered (R372): the internal beat begins, and then the event is logged. -/
def Block.loseBeat (s : Block) : Block :=
  let s := ((s.setFld (rEv 0) 5 5 1).setFld (rEv 0xC) 1 1 1).setFld (rEv 0xC) 0 0 0
  let s := s.onBeat (fun b => { b with rearm := 0 })
  (s.beatStart s.nominal true).beatEvent

/-- `BEAT_LOSS` (R372): no edge for four nominal periods. -/
def execBeatLoss (st : State) : Host.Outcome State Fault Refusal := st.act fun s =>
  .next <| if s.life ≠ .service ∨ s.beatLost ∨ s.beat.src then s
  else
    let s := match s.beat.lastEdge with
      | some t => s.passTo (t + 4 * s.nominal)
      | none => s
    s.loseBeat

/-- `INTERNAL_BEAT` (R372, R374, R479): the internal oscillator's next beat. -/
def execInternalBeat (st : State) : Host.Outcome State Fault Refusal := st.act fun s =>
  .next <| if !s.awake ∨ !s.internalDrive then s
  else
    let s := s.passTo (s.beat.start + s.nominal)
    s.beatStart s.nominal false

/-- An accepted edge in the run of sixteen that REARM waits for (R373): its period lies between 50 and 500 µs and
differs from every other of the run by at most 1%, or the run begins again with it. In the later steps too a period out of
range restarts the count (DEDUCED, log entry 73). -/
def Beat.measure (b : Beat) (p : Option Nat) : Beat :=
  let again := { b with rearm := 1, edges := 1, pmin := 750000, pmax := 75000 }
  if b.rearm = 0 then b
  else if b.rearm ≠ 1 then
    (if p.all (fun p => decide (p < 75000) || decide (750000 < p)) then again else b)
  else
    let b := match p with
      | none => again
      | some p =>
        if b.edges = 0 ∨ p < 75000 ∨ 750000 < p then again
        else
          let lo := min b.pmin p
          let hi := max b.pmax p
          if b.edges ≠ 1 ∧ lo < 100 * (hi - lo) then again
          else { b with edges := b.edges + 1, pmin := lo, pmax := hi }
    if 16 ≤ b.edges then { b with rearm := 2 } else b

/-- The external beat takes over at an edge (R373), or is taken up at the end of Dawn (R370). -/
def Block.retake (s : Block) : Block :=
  let lost := s.beatLost
  let s := ((s.setFld (rEv 0) 5 5 0).setFld (rEv 0xC) 0 0 1).setFld (rEv 0xC) 6 6 0
  let s := s.onBeat (fun b =>
    { b with rearm := 0, bcast := if lost then some b.rearmEpoch else b.bcast })
  s.beatStart s.nominal true

/-- In Dawn BEATSTAT.LOCKED says whether the external beat is ready to be taken up (R479). -/
def Block.showLock (s : Block) : Block :=
  if s.life == .dawn && s.beat.rearm != 3 then s.setFld (rEv 0xC) 0 0 0 else s

/-- `BEAT_EDGE` (R358): a rising edge `cycles` after the last command. One sooner than 45 µs after the last accepted
edge is a glitch; an accepted edge is measured, and begins a beat where the external beat drives. -/
def execBeatEdge (cycles : Nat) (st : State) : Host.Outcome State Fault Refusal := st.act fun s =>
  let s := s.pass cycles
  .next <| if !s.awake then s
  else
    let p := s.beat.lastEdge.map (fun t => s.cycle - t)
    if p.any (fun p => decide (p < 67500)) then
      (((s.bump32 (rEv 0x18) 1).setFld (rEv 0xC) 2 2 1).onBeat (fun b =>
        if b.rearm = 0 then b else { b with rearm := 1, edges := 0 })).showLock
    else
      let s := (s.onBeat (fun b => { b.measure p with lastEdge := some s.cycle })).showLock
      let was := s.beat.rearm
      if s.life == .dawn || s.beat.src then s
      else if was = 3 then s.retake
      else if s.beatLost then s
      else s.beatStart (p.getD s.nominal) false

/-- What a write of BEATCTL does (R373, R382): none where NOM is reserved. -/
def Block.writeBeatctl (s : Block) (v : Nat) : Option Block :=
  let nom := bits v 12 2
  if nom < 200 ∨ 2000 < nom then none
  else
    let s := s.setRn (rEv 8) (v % 2 ^ 32 &&& 0x1FFD)
    some (if bit v 1 ∧ s.beatLost then
      (s.setFld (rEv 0xC) 6 6 1).onBeat (fun b => if b.rearm = 0 then { b with rearm := 1, edges := 0 } else b)
    else s)

/-- `BEAT_REARM` (R373). -/
def execBeatRearm (req : Requester) (st : State) : Host.Outcome State Fault Refusal := st.act fun s =>
  let v := s.rn (rEv 8) + 2
  .next (s.guarded req (rEv 8) v (fun s => s.writeBeatctl v))

/-! ### The sideband (R362-R366, R506, R507) -/

/-- A frame or broadcast discarded (R363, R365). -/
def Block.badFrame (s : Block) : Block := ((s.bump32 (rEv 0x1C) 1).setFld (rEv 0xC) 5 5 1).beatEvent

/-- Whether a schedule frame is valid (R363). -/
def frameOk (x : Nat) (bytes : List Byte) : Bool :=
  bytes.length == 24 && bits x 7 0 == 1 &&
    (List.range 16).all (fun i => decide (bits x (8 * i + 15) (8 * i + 8) ≤ 16)) &&
    bits x 137 136 != 3 && bits x 143 138 == 0 && bits x 159 154 == 0 &&
    bits x 191 160 == (crc32c (bytes.take 20)).toNat

/-- `SCHEDULE_FRAME` (R363, R364). -/
def execScheduleFrame (bytes : List Byte) (st : State) : Host.Outcome State Fault Refusal := st.act fun s =>
  let x := ofBytes bytes
  .next <| if !s.awake ∨ s.i3cAddr.isNone then s
  else if !(frameOk x bytes) then s.badFrame
  else
    let s := (s.onBeat (fun b => { b with frameAt := some s.cycle })).putAllot (rEv 0x40)
      ((List.range 16).map (fun i => bits x (8 * i + 12) (8 * i + 8)))
    s.setRn (rEv 0x50) (bits x 137 136 + (bits x 153 144) <<< 2 + 2 ^ 12)

/-- `EPOCH_BROADCAST` (R365): kept for the next beat's start; the second step of R373. -/
def execEpochBroadcast (bytes : List Byte) (st : State) : Host.Outcome State Fault Refusal := st.act fun s =>
  let x := ofBytes bytes
  .next <| if !s.awake then s
  else if bytes.length ≠ 8 ∨ bits x 63 48 ≠ (crc32c (bytes.take 6)).toNat % 2 ^ 16 then s.badFrame
  else
    let e := bits x 47 0
    let s := s.onBeat (fun b => { b with bcast := some e })
    if s.beat.rearm = 2 then
      let s := s.onBeat (fun b => { b with rearm := 3, rearmEpoch := e })
      if s.life == .dawn then s.setFld (rEv 0xC) 0 0 1 else s
    else s

/-- The 16 bytes of a private read (R366). -/
def Block.shelfStatus (s : Block) : List Byte :=
  let env := s.rn (rEv 0)
  let quiet := s.life == .dawn || s.life == .twilight
  let x := bits env 2 0 + (bits env 5 5) <<< 3 + (s.fld (rEv 0xB8) 0 0) <<< 4 + (bits env 7 7) <<< 5 +
    ((if quiet then 3 else s.beat.env) % 4) <<< 8 + s.bidx <<< 16 + (s.fld (rEv 0xA0) 31 0) <<< 32 +
    ((s.rn (rEv 0x88) + s.rn (rEv 0x8C)) % 2 ^ 32) <<< 64
  let b := leBytes x 12
  b ++ leBytes (crc32c b).toNat 4

/-- `PRIVATE_READ` (R366, R506). -/
def execPrivateRead (st : State) : Host.Outcome State Fault Refusal := st.act fun s =>
  .next (if !s.awake ∨ s.i3cAddr.isNone then s else { s with shelfOut := s.shelfOut ++ [s.shelfStatus] })

/-- The I3C Provisional ID (R507). -/
def Block.provisionalId (s : Block) : Nat :=
  0x0A41 <<< 33 + 0x6540 <<< 16 + s.straps.toNat <<< 12 + Config.uid.toNat % 2 ^ 12

/-- `ENTDAA` (R362): a module without a dynamic address takes the one assigned; its Provisional ID, BCR and DCR go to the
shelf. The table has no row for the other common command codes of I3C (DESIGN CHOICE, log entry 138). -/
def execEntdaa (address : BitVec 7) (st : State) : Host.Outcome State Fault Refusal := st.act fun s =>
  .next (if !s.awake ∨ s.i3cAddr.isSome then s
    else { s with i3cAddr := some address,
                  shelfOut := s.shelfOut ++ [(leBytes s.provisionalId 6).reverse ++ leBytes 0 2] })

/-! ### The host's schedule (R382) -/

/-- What a write of SCHEDCTL does. -/
def Block.writeSchedctl (s : Block) (v : Nat) : Option Block :=
  let s := s.setFld (rEv 0x70) 0 0 (bits v 0 0)
  some (if bit v 1 then s.onBeat (fun b => { b with commit := true }) else s)

/-- What a write of HSCHED does: a reserved allotment refuses it. -/
def Block.writeHsched (s : Block) (w v : Nat) : Option Block :=
  if (List.range 4).any (fun i => decide (16 < bits v (8 * i + 4) (8 * i))) then none
  else some (s.setRn (rEv (0x60 + 4 * w)) (v % 2 ^ 32 &&& 0x1F1F1F1F))

/-- `SCHEDCTL_COMMIT` (R382). -/
def execSchedctlCommit (req : Requester) (host : Bool) (st : State) : Host.Outcome State Fault Refusal := st.act fun s =>
  let v := b2n host + 2
  .next (s.guarded req (rEv 0x70) v (fun s => s.writeSchedctl v))

end Sys2Proof.Machine
end

