-- ==== Sys2Proof/Machine/Spare.lean ====
section
/-!
DEFINITION. Delay programming, die initialisation and spare dies (11_pillar_controller.md, R304-R311; R482, R491).
-/
namespace Sys2Proof.Machine

/-! ### Initialisation (R305) -/

/-- No mapping recorded. -/
def noSpare (_ : Nat) : Option Nat := none

/-- Dies of pillar p marked ABSENT. -/
def Block.absentDies (s : Block) (p : Nat) : Nat := ((List.range 17).filter (fun d => s.dieState p d == 1)).length

/-- STATE of a die set. -/
def Block.setDie (s : Block) (p d v : Nat) : Block := s.setFld (rDie p d) 2 0 v

/-- Whether a die answers IDRD correctly: bits [15:0] are 0x5A17 and bits [20:16] its position (R305). -/
def goodIdentity (a : DieAnswer) (d : Nat) : Bool :=
  match a.identity with
  | some w => bits w.toNat 15 0 == 0x5A17 && bits w.toNat 20 16 == d
  | none => false

/-- A die that answered is initialised: banks closed, pointers and debts 0, one column of row 6,143 of bank B0 written
and read back; which column and what data the spec leaves open (R305). `err` is what the read-back differs from the
column as it was written by; the second answer says that the column decodes to what was written. -/
def Block.initDie (s : Block) (p d : Nat) (err : BitVec 288) : Block × Bool :=
  let s := (List.range 256).foldl (fun s b =>
    s.mapBlu (bankKey p d b) (fun u => { u with rb0 := none, rb1 := none, debt := 0, ptr := 0, refiAt := s.cycle })) s
  let (c, s) := s.draw
  let (x, s) := s.draw
  let col := c % 64
  let data := BitVec.ofNat 256 x
  let w := packCol data (colCheck data 6143 col)
  (s.setCol (colKey p d 0 6143 col) w, match colDecode (w ^^^ err) 6143 col with
    | .clean y => y == data
    | .corrected y => y == data
    | _ => false)

/-- The identity reads and initialisations of a pillar's dies in turn; bit d of the second answer says that die d answered
correctly and read back right (R305). -/
def Block.readDies (s : Block) (p : Nat) (answers : List DieAnswer) : Block × Nat :=
  (List.range 17).foldl (fun x d =>
    let a := (answers[d]?).getD ⟨none, 0#288⟩
    if goodIdentity a d then
      let (s, ok) := x.1.initDie p d a.readBack
      (s, x.2 + b2n ok <<< d)
    else x) (s, 0)

/-- STATE of physical die d after initialisation: the answering dies serve, a recorded mapping is in force if the
spare answers, and a die that does not answer is ABSENT unless it is replaced (R305, R310, R311). -/
def dieAfter (map : Option Nat) (answers : Nat) (d : Nat) : Nat :=
  if d = 16 then (if bit answers 16 then (if map.isSome then 4 else 3) else 1)
  else if map = some d then (if bit answers 16 then 2 else 1)
  else if bit answers d then 0 else 1

/-- One die's state after the identity reads (R305). -/
def Block.bringDie (s : Block) (p answers d : Nat) : Block :=
  let st := dieAfter (s.spareMap.get noSpare p) answers d
  let s := (s.setDie p d st).setFld (rDie p d) 3 3 0
  if st = 1 then (s.logEvent 0x20 (unitDie p d) (s.dieBody p d 3 0#64)).failPart (.die (17 * p + d)) else s

/-- The dies of a pillar are identified and initialised after APPLY, and the pillar enters SERVICE or EXCLUDED (R305); its
STATE passes through INIT meanwhile, within this one event. -/
def Block.bringPillar (s : Block) (p : Nat) (dies : List DieAnswer) : Block :=
  let s := s.setFld (rP p 0) 2 0 2
  let (s, answers) := s.readDies p dies
  let s := (List.range 17).foldl (fun s d => s.bringDie p answers d) s
  let map := s.spareMap.get noSpare p
  let spared := s.dieState p 16 == 4
  let s := if spared then s.setFld (rDie p 16) 9 6 (map.getD 0) else s
  let s := s.onPillar p (fun _ => {})
  let s := s.setRn (rP p 0x194) (if spared then 4 else if s.dieState p 16 == 1 then 5 else 0)
  let s := s.setRn (rP p 0x180) 2
  if (List.range 16).any (fun d => s.dieState p d == 0) || spared then
    let s := if spared then s else s.setGroup p 4 1
    s.setRn (rP p 0) (3 + s.absentDies p <<< 3 + (b2n spared) <<< 8)
  else
    let s := (List.range 17).foldl (fun s d => s.setDie p d 1) s
    (s.setRn (rP p 0) (4 + 17 <<< 3)).setRn (rP p 0x194) 5

/-- The write of DLYCTL (R304): APPLY is refused unless STATE is DELAY. -/
def Block.writeDlyctl (s : Block) (p v : Nat) : Option Block :=
  if bit v 0 = false then some s
  else if s.fld (rP p 0) 2 0 = 1 then some ((s.onPillar p (fun q => { q with applying := true })).setRn (rP p 0x180) 0)
  else none

/-- `DLYCTL_APPLY` (R304). -/
def execDlyctlApply (req : Requester) (pillar : PillarId) (st : State) : Host.Outcome State Fault Refusal := st.act fun s =>
  .next (s.guarded req (rP pillar.val 0x180) 1 (fun s => s.writeDlyctl pillar.val 1))

/-- `DELAY_APPLIED` (R304, R305): 1 µs after APPLY. -/
def execDelayApplied (pillar : PillarId) (answers : List DieAnswer) (st : State) : Host.Outcome State Fault Refusal := st.act fun s =>
  let p := pillar.val
  if answers.length ≠ 17 then .fault (.illFormed "answers of the dies")
  else .next (if (s.pillar p).applying && s.fld (rP p 0) 2 0 == 1 then s.bringPillar p answers else s)

/-! ### Spare switch-in (R306-R311) -/

/-- REASON of a refused GO (R306); an ABSENT spare answers 0x2 (DEDUCED, log entry 26). -/
def Block.spareReason (s : Block) (p die mode : Nat) : Nat :=
  if s.dieState p 16 = 1 then 2
  else if s.fld (rP p 0x194) 2 0 ≠ 0 then 1
  else if mode = 0 ∧ (s.dieState p die = 1 ∨ s.unresp p die = true) then 3
  else if s.fld (rP p 0) 2 0 ≠ 3 then 4
  else 0

/-- The spare's group is powered up (R300). -/
def Block.wakeSpare (s : Block) (p : Nat) : Block := s.setGroup p 4 0

/-- A GO: the reason it is refused for, with nothing else written and WRITE_REJECT logged, or COPYING with the fields
written (R7, R306, R307, R310; DEDUCED, log entry 127). -/
def Block.spareGo (s : Block) (p v source : Nat) : Block :=
  let r := s.spareReason p (bits v 3 0) (bits v 5 4)
  let s := s.setFld (rP p 0x194) 6 3 r
  if r ≠ 0 then s.writeReject (rP p 0x190) v
  else
    let s := (s.setRn (rP p 0x190) (v % 2 ^ 11)).setFld (rP p 0x194) 2 0 1
    let s := ((s.setFld (rP p 0x194) 7 7 source).setRn (rP p 0x198) 0).setRn (rP p 0x19C) 0
    { s.wakeSpare p with spareMarks := s.spareMarks.set noMarks p [] }

/-- Whether a GO came from a standing order (R306). -/
def spareSource : Requester → Nat
  | .mc => 1
  | _ => 0

/-- A copy or fill is given up: the spare returns to IDLE (R311). -/
def Block.spareCancel (s : Block) (p : Nat) : Block :=
  let st := s.fld (rP p 0x194) 2 0
  if st = 1 ∨ st = 2 then
    { s.setFld (rP p 0x194) 2 0 0 with spareMarks := s.spareMarks.set noMarks p [] }
  else s

/-- The write of SPARECTL (R306, R311, R314): reserved values and GO with CANCEL are refused; CANCEL is accepted only in
COPYING and FINAL and sets the other fields as it is written (DEDUCED, log entry 127), and a plain write only while no switch runs. -/
def Block.writeSparectl (s : Block) (r : Requester) (p v : Nat) : Option Block :=
  let st := s.fld (rP p 0x194) 2 0
  let mode := bits v 5 4
  let share := bits v 10 6
  if 2 ≤ mode ∨ share = 0 ∨ 16 < share ∨ (bit v 11 && bit v 12) = true then none
  else if bit v 11 then some (s.spareGo p v (spareSource r))
  else if bit v 12 then (if st = 1 ∨ st = 2 then some ((s.spareCancel p).setRn (rP p 0x190) (v % 2 ^ 11)) else none)
  else if 1 ≤ st ∧ st ≤ 3 then none
  else some (s.setRn (rP p 0x190) (v % 2 ^ 11))

/-- `SPARE_GO` (R306, R314). -/
def execSpareGo (req : Requester) (pillar : PillarId) (die : BitVec 4) (mode : BitVec 2) (share : BitVec 5)
    (st : State) : Host.Outcome State Fault Refusal := st.act fun s =>
  let v := die.toNat + mode.toNat <<< 4 + share.toNat <<< 6 + 1 <<< 11
  .next (s.guarded req (rP pillar.val 0x190) v (fun s => s.writeSparectl req pillar.val v))

/-- `SPARE_CANCEL` (R311). -/
def execSpareCancel (req : Requester) (pillar : PillarId) (st : State) : Host.Outcome State Fault Refusal := st.act fun s =>
  let v := s.rn (rP pillar.val 0x190) % 2 ^ 11 + 1 <<< 12
  .next (s.guarded req (rP pillar.val 0x190) v (fun s => s.writeSparectl req pillar.val v))

/-- One column copied to the spare: decoded and written with fresh check bits, or its raw data poisoned and counted
(R307, R308). -/
def Block.copyColumn (s : Block) (p d b row col : Nat) : Block :=
  let raw := s.colRaw (colKey p d b row col)
  match s.readCol p d b row col 2 with
  | (s, some x) => s.setCol (colKey p 16 b row col) (packCol x (colCheck x row col))
  | (s, none) =>
    let x := BitVec.ofNat 256 (raw.toNat % 2 ^ 256)
    (s.setCol (colKey p 16 b row col) (packCol x (poisonCheck x row col))).bump32 (rP p 0x19C) 1

/-- One row copied and counted (R307). -/
def Block.copyRow (s : Block) (p d b row : Nat) : Block :=
  ((List.range 64).foldl (fun s c => s.copyColumn p d b row c) s).bump32 (rP p 0x198) 1

/-- Every row of every bank copied (R307). -/
def Block.copyDie (s : Block) (p d : Nat) : Block :=
  (List.range 256).foldl (fun s b => (List.range 6144).foldl (fun s r => s.copyRow p d b r) s) s

/-- MODE of the switch in progress: 0 COPY, 1 EMPTY. -/
def Block.spareMode (s : Block) (p : Nat) : Nat := s.fld (rP p 0x190) 5 4

/-- The physical die that a switch in progress replaces. -/
def Block.spareDie (s : Block) (p : Nat) : Nat := s.fld (rP p 0x190) 3 0

/-- `SPARE_COPY_PASS_END` (R307, R309): every row has been copied once. -/
def execSpareCopyPassEnd (pillar : PillarId) (st : State) : Host.Outcome State Fault Refusal := st.act fun s =>
  let p := pillar.val
  .next (if s.pillarOn p && s.fld (rP p 0x194) 2 0 == 1 && s.spareMode p == 0 then
      (s.copyDie p (s.spareDie p)).setFld (rP p 0x194) 2 0 2
    else s)

/-- The rows that a mark stands for, as keys (bank, row) in one number (R307). -/
def markedRows (m : Nat) : List Nat :=
  if m = allRows then (List.range (256 * 6136)).map (fun i => i / 6136 * 8192 + i % 6136) else [m]

/-- The marked rows of the die under copy copied again, and their marks taken away (R307, R309). -/
def Block.copyMarked (s : Block) (p : Nat) : Block :=
  let s := ((s.spareMarks.get noMarks p).flatMap markedRows).foldl (fun s r =>
    s.copyRow p (s.spareDie p) (r / 8192) (r % 8192)) s
  { s with spareMarks := s.spareMarks.set noMarks p [] }

/-- `SPARE_FINAL_END` (R309): the marked rows are copied again. -/
def execSpareFinalEnd (pillar : PillarId) (st : State) : Host.Outcome State Fault Refusal := st.act fun s =>
  let p := pillar.val
  .next (if s.pillarOn p && s.fld (rP p 0x194) 2 0 == 2 then
      (s.copyMarked p).setFld (rP p 0x194) 2 0 3
    else s)

/-- A new power generation of undefined contents. -/
def Block.newGen (s : Block) : Nat × Block := (s.dramGen, { s with dramGen := s.dramGen + 1 })

/-- A zone of a die that reads as one fill throughout. -/
def Block.fillZone (s : Block) (p d z : Nat) (f : Fill) : Block :=
  { s with
    dram := s.dram.filter (fun c => !(decide (c.1 / 64 / 8192 / 256 = 17 * p + d) &&
      decide (rowZone (c.1 / 64 % 8192) = z)))
    fills := s.fills.set noFill (zoneKey p d z) f }

/-- `SPARE_FILL_END` (R310, R482): rows 0-6,135 hold poisoned zeros, the device area zeros, and the self-test rows the
die's pattern, which the spec does not give. -/
def execSpareFillEnd (pillar : PillarId) (st : State) : Host.Outcome State Fault Refusal := st.act fun s =>
  let p := pillar.val
  .next (if s.pillarOn p && s.fld (rP p 0x194) 2 0 == 1 && s.spareMode p == 1 then
      let (g, s) := s.newGen
      let s := ((s.fillZone p 16 0 .poison).fillZone p 16 1 .zeros).fillZone p 16 2 (.undef g)
      (s.bump32 (rP p 0x19C) (256 * 6136 * 64)).setFld (rP p 0x194) 2 0 3
    else s)

/-- Whether a bank is ARMED, RUNNING, PARKED or DRAINING, in either lane. -/
def Blu.busy (u : Blu) : Bool := decide (2 ≤ u.st) || u.uop.isSome

/-- Whether any bank of a die is busy. -/
def Block.dieBusy (s : Block) (p d : Nat) : Bool :=
  s.blus.any (fun x => decide (x.1 / 256 = 17 * p + d) && x.2.busy)

/-- The spare takes over die number d (R309, R311); what the die's last operations have written since FINAL is copied
first (DESIGN CHOICE, log entry 116). -/
def Block.switchSpare (s : Block) (p d : Nat) : Block :=
  let s := s.copyMarked p
  let s := (s.setDie p d 2).setDie p 16 4
  let s := (s.setFld (rDie p 16) 9 6 d).setFld (rP p 0x194) 2 0 4
  let s := (s.setFld (rP p 0) 8 8 1).setFld (rP p 0) 7 3 (s.absentDies p)
  let s := s.orReg (rMc 0x30) (2 ^ p)
  let s := { s with spareMap := s.spareMap.set noSpare p (some d) }
  s.logEvent 0x20 (unitDie p d) (s.dieBody p d 4 0#64)

/-- `SPARE_SWITCH` (R309): once no bank of the die is busy. -/
def execSpareSwitch (pillar : PillarId) (st : State) : Host.Outcome State Fault Refusal := st.act fun s =>
  let p := pillar.val
  .next (if s.pillarOn p && s.fld (rP p 0x194) 2 0 == 3 && !(s.dieBusy p (s.spareDie p)) then
      s.switchSpare p (s.spareDie p)
    else s)

end Sys2Proof.Machine
end

