-- ==== Sys2Proof/Machine/Security.lean ====
section
/-!
DEFINITION. The SPDM responder, attachment, partitions, bundles, job keys and zeroisation (15_security.md, R421-R446).
-/
namespace Sys2Proof.Machine

/-! ### Sessions (R428) -/

/-- Whether the responder of a port answers (R428, R479). -/
def Block.responds (s : Block) (p : Nat) : Bool :=
  s.portLive p && (s.life == .service ||
    (s.life == .dawn && decide (3 ≤ s.fld (rMc 0x10) 3 0) && decide (s.fld (rMc 0x10) 3 0 ≤ 8)))

/-- The responder sends a message. -/
def Block.spdm (s : Block) (m : SpdmMsg) : Block := { s with spdmOut := s.spdmOut ++ [m] }

/-- A session open on a port. -/
def Block.session? (s : Block) (port : Port) (sid : Nat) : Option Session :=
  s.sessions.find? (fun x => x.port == port && x.sid == sid)

/-- A session changed. -/
def Block.onSession (s : Block) (sid : Nat) (f : Session → Session) : Block :=
  { s with sessions := s.sessions.map (fun x => if x.sid = sid then f x else x) }

/-- `KEY_EXCHANGE` (R428): at most four sessions a port. -/
def execKeyExchange (port : Port) (requester : BitVec 384) (mutualAuth : Bool) (st : State) :
    Host.Outcome State Fault Refusal := st.act fun s =>
  .next <| if !(s.responds port.num) then s
  else if 4 ≤ (s.sessions.filter (fun x => x.port == port)).length then s.spdm (.error port .sessionLimitExceeded)
  else
    let x : Session :=
      { port := port, sid := s.nextSid, requester := requester, mutualAuth := mutualAuth, reports := [], passed := [] }
    let s := { s with sessions := s.sessions ++ [x], nextSid := s.nextSid + 1 }
    (s.logEvent 0xC0 (unitPort port.num) (secBody 1 port.num 0 0 0)).spdm (.opened port x.sid)

/-- `SESSION_END` (R428, R430): it returns the PENDING partitions of the port to ORPHANED. -/
def execSessionEnd (port : Port) (sid : Nat) (st : State) : Host.Outcome State Fault Refusal := st.act fun s =>
  .next <| match s.session? port sid with
  | none => s
  | some _ =>
    let s := { s with sessions := s.sessions.filter (fun x => x.sid != sid) }
    (s.dropPending port.num).logEvent 0xC0 (unitPort port.num) (secBody 2 port.num 0 0 0)

/-! ### Reports (R431, R432) -/

/-- No version but the shipped one. -/
def noVersion (_ : Nat) : Nat := 0

/-- A reset standing-order word. -/
def noWordAt (_ : Nat) : DWord := 0#64

/-- The saved standing-order table as bytes (R408, R411). -/
def Block.orderBytes (s : Block) : List Byte :=
  (List.range 128).flatMap (fun i => leBytes (s.norOrders.get noWordAt i).toNat 4)

/-- The six FIRMWARE digests (R431), `i` from 0. -/
def Block.fwDigest (s : Block) (i : Nat) : Nat :=
  if i = 5 then (Config.sha384 s.orderBytes).toNat
  else if i = 0 then (Config.fwDigest 0 0).toNat
  else (Config.fwDigest i (s.fwRun.get noVersion (i - 1))).toNat

/-- The RTC (R403): 1/32,768 s. -/
def Block.rtcNow (s : Block) : Nat := (s.rtcBase + (s.cycle - s.rtcAt) * 32768 / 1500000000) % 2 ^ 48

/-- Report bytes 0-191 (R431). -/
def Block.reportHead (s : Block) (k len entries : Nat) : List Byte :=
  let al := s.rn (rAl 0)
  leBytes 0x41545431 4 ++ leBytes 1 2 ++ leBytes k 1 ++ leBytes 0 1 ++ leBytes len 4 ++ leBytes entries 4 ++
    leBytes s.now 8 ++ leBytes (s.rn (rJr 0x90)) 8 ++ leBytes 0 32 ++ leBytes (s.rn (rMc 0)) 4 ++
    leBytes Config.uid.toNat 16 ++ leBytes Config.idKey.toNat 48 ++
    leBytes (s.fld (rSb 0x400) 1 0 + (s.fld (rMc 0) 19 16 % 2) <<< 2 + Config.minVersion.toNat <<< 8) 4 ++
    leBytes (bits al 2 2 + bits al 0 0 <<< 1 + bits al 1 1 <<< 2 + bits al 6 3 <<< 3) 4 ++
    leBytes (s.rn (rJr 8)) 4 ++ leBytes (s.rn (rAl 0x20)) 8 ++ leBytes s.rtcNow 8 ++ leBytes 0 32

/-- The LAYOUT record of partition k (R431). -/
def Block.layoutRecord (s : Block) (k : Nat) : List Byte :=
  leBytes (s.rn (rPart k 0)) 4 ++ leBytes (s.rn (rPart k 4)) 4 ++ leBytes (s.rn (rPart k 8)) 4 ++
    leBytes (s.rn (rHi (0x400 + 4 * k))) 4

/-- The attestation report of partition k (R431). -/
def Block.report (s : Block) (k : Nat) : List Byte :=
  let m := s.measures.get noMeasure k
  s.reportHead k (672 + 64 * m.log.length) m.log.length ++
    (List.range 6).flatMap (fun i => leBytes (s.fwDigest i) 48) ++ (List.range 8).flatMap s.layoutRecord ++
    leBytes m.pmr.toNat 48 ++ leBytes m.loads 4 ++ leBytes (m.loads - m.log.length) 4 ++ leBytes 0 8 ++
    m.log.flatMap (fun e => leBytes e.toNat 64)

/-- `GET_MEASUREMENTS` (R428): blocks 1-6 to any session, the report of k to the administrator or its tenant
(PRESUMED, log entry 68). -/
def execGetMeasurements (port : Port) (sid : Nat) (block : BitVec 8) (st : State) : Host.Outcome State Fault Refusal := st.act fun s =>
  let b := block.toNat
  .next <| if !(s.responds port.num) then s
  else match s.session? port sid with
  | none => s
  | some x =>
    if 1 ≤ b ∧ b ≤ 6 then s.spdm (.block port sid b (leBytes (s.fwDigest (b - 1)) 48))
    else if 0x40 ≤ b ∧ b < 0x48 then
      let k := b - 0x40
      if s.isAdmin x || s.isTenant x k then
        let bytes := s.report k
        let r : Report := { part := k, digest := Config.sha384 bytes, since := s.cycle }
        (s.onSession sid (fun x => { x with reports := x.reports ++ [r] })).spdm (.block port sid b bytes)
      else s.spdm (.error port .unsupportedRequest)
    else s.spdm (.error port .invalidRequest)

/-! ### Aqast messages (R429) -/

/-- What a message's own rule answers: the state, the status and a token. -/
structure Reply where
  state : Block
  status : Nat := 0
  token : Option Nat := none

/-- An Aqast message judged in the order of R429: `bad` malformed, `role` the sender's role, `deny` what a missing role
brings about, `act` the message's own rule. -/
def Block.aqast (s : Block) (port : Port) (sid : Nat) (bad : Bool) (role : Session → Bool) (deny : Block → Block)
    (act : Session → Block → Reply) : Block :=
  if !(s.responds port.num) then s
  else match s.session? port sid with
  | none => s
  | some x =>
    if !x.mutualAuth then s.spdm (.error port .unexpectedRequest)
    else if s.life = .dawn then s.spdm (.status port sid 2 none)
    else if bad then s.spdm (.status port sid 3 none)
    else if !(role x) then (deny s).spdm (.status port sid 1 none)
    else
      let r := act x s
      r.state.spdm (.status port sid r.status r.token)

/-- Twelve 32-bit registers set to a digest. -/
def Block.setDigest (s : Block) (a : Nat) (d : List Byte) : Nat → Block
  | 0 => s
  | n + 1 => (s.setDigest a d n).setRn (a + 4 * n) (ofBytes ((d.drop (4 * n)).take 4))

/-- `SET_ADMIN` (R429). -/
def execSetAdmin (port : Port) (sid : Nat) (digest : List Byte) (st : State) : Host.Outcome State Fault Refusal := st.act fun s =>
  .next (s.aqast port sid (digest.length != 48) (fun x => s.isAdmin x || s.fld (rSb 0x300) 0 0 == 0) id (fun _ s =>
    let s := (s.setDigest (rSb 0x310) digest 12).orReg (rSb 0x300) 1
    { state := s.logEvent 0xC0 (unitPort port.num) (secBody 10 port.num 0 0 0) }))

/-- An attach or re-attach is done: the new token (R344, R430). -/
def Block.attachReply (s : Block) (k p : Nat) : Reply :=
  let (tok, s) := s.attachTo k p
  { state := s.logEvent 0xC0 (unitPart k) (secBody 3 p k 0 0), token := some tok }

/-- `ATTACH` (R429, R430) (DEDUCED, log entry 63). -/
def execAttach (port : Port) (sid : Nat) (part : BitVec 8) (st : State) : Host.Outcome State Fault Refusal := st.act fun s =>
  let k := part.toNat
  let p := port.num
  .next (s.aqast port sid (decide (8 ≤ k)) (fun x => s.isTenant x k) id (fun x s =>
    if !(x.passed.contains k) then { state := s, status := 5 }
    else if s.attState k ≠ 0 ∨ s.partState k ≠ 1 then { state := s, status := 2 }
    else if !(s.portGranted k p) then { state := s, status := 4 }
    else s.attachReply k p))

/-- A PENDING partition becomes ORPHANED again, its token still valid (R348). -/
def Block.unpend (s : Block) (k : Nat) : Block := if s.attState k = 3 then s.setAttState k 2 else s

/-- The attestation check for partition k fails on port p (R430, R348). -/
def Block.checkFails (s : Block) (k p status : Nat) : Block :=
  let s := if s.attPort k = p then s.unpend k else s
  s.logEvent 0xC0 (unitPart k) (secBody 4 p k status 0)

/-- Whether a digest answers a report of k returned in the session within the last second (R430). -/
def Block.ackGood (s : Block) (x : Session) (k : Nat) (digest : List Byte) : Bool :=
  x.reports.any (fun r => r.part == k && r.digest.toNat == ofBytes digest && decide (s.cycle ≤ r.since + usCycles 1000000))

/-- `ATTEST_ACK` (R429, R430) (DEDUCED, log entry 64). -/
def execAttestAck (port : Port) (sid : Nat) (part : BitVec 8) (digest : List Byte) (st : State) :
    Host.Outcome State Fault Refusal := st.act fun s =>
  let k := part.toNat
  let p := port.num
  .next (s.aqast port sid (decide (8 ≤ k) || digest.length != 48) (fun x => s.isTenant x k) (fun s => s.unpend k)
    (fun x s =>
      let ok := s.ackGood x k digest
      let s := s.onSession sid (fun x => { x with
        reports := x.reports.filter (fun r => r.part != k)
        passed := if ok && !(x.passed.contains k) then x.passed ++ [k] else x.passed })
      if !ok then { state := s.checkFails k p 5, status := 5 }
      else if s.attState k = 3 ∧ s.attPort k = p then s.attachReply k p
      else { state := s }))

/-- `ATTEST_ACK_EXPIRY` (R430): a report of the partition that the session has not acknowledged. -/
def execAttestAckExpiry (port : Port) (sid : Nat) (part : PartId) (st : State) : Host.Outcome State Fault Refusal := st.act fun s =>
  let k := part.val
  .next <| match s.session? port sid with
  | none => s
  | some x =>
    if x.reports.any (fun r => r.part == k) then
      (s.onSession sid (fun x => { x with reports := x.reports.filter (fun r => r.part != k) })).checkFails k port.num 5
    else s

/-! ### Job keys (R438, R439) -/

/-- Job-key index i of partition k becomes EMPTY, its key and counters gone (R439). -/
def Block.clearJob (s : Block) (k i : Nat) : Block :=
  let s := s.setJobState k i 0
  { s with
    jobKeys := s.jobKeys.set noKey (4 * k + i) []
    txCtr := s.txCtr.dropRange (txKey k i 0 0) (txKey k (i + 1) 0 0)
    rxCtr := s.rxCtr.dropRange (((4 * k + i) * 8) * 8) (((4 * k + i + 1) * 8) * 8) }

/-- `SET_JOB_KEY` (R429, R439): status 2 for an ACTIVE index, or while the partition is zeroised (R442). -/
def execSetJobKey (port : Port) (sid : Nat) (part index : BitVec 8) (jobId : BitVec 32) (members : BitVec 8)
    (key : List Byte) (st : State) : Host.Outcome State Fault Refusal := st.act fun s =>
  let k := part.toNat
  let i := index.toNat
  .next (s.aqast port sid (decide (8 ≤ k) || decide (4 ≤ i) || key.length != 32) (fun x => s.isTenant x k) id
    (fun _ s =>
      if s.jobState k i = 2 ∨ s.zeroising.contains k then { state := s, status := 2 }
      else
        let s := (s.clearJob k i).setJobState k i 1
        let s := { s with jobKeys := s.jobKeys.set noKey (4 * k + i) key }
        let s := (s.setRn (rJob k (0x10 + 4 * i)) jobId.toNat).setRn (rJob k (0x20 + 4 * i)) members.toNat
        let s := s.setRn (rJob k (0x30 + 4 * i)) 0
        { state := s.logEvent 0xC0 (unitPart k) (secBody 7 port.num k 0 i) }))

/-- `DEL_JOB_KEY` (R429, R439): status 2 for an ACTIVE index while EN = 1 (DEDUCED, log entry 69). -/
def execDelJobKey (port : Port) (sid : Nat) (part index : BitVec 8) (st : State) : Host.Outcome State Fault Refusal := st.act fun s =>
  let k := part.toNat
  let i := index.toNat
  .next (s.aqast port sid (decide (8 ≤ k) || decide (4 ≤ i)) (fun x => s.isTenant x k || s.isAdmin x) id (fun _ s =>
    if s.jobState k i = 2 ∧ s.fld (rJob k 0) 2 2 = 1 then { state := s, status := 2 } else { state := s.clearJob k i }))

/-- The write of JOBCTL (R439, R445): refused where it names an index that is not VALID or ACTIVE. -/
def Block.writeJobctl (s : Block) (k v : Nat) : Option Block :=
  let i := bits v 1 0
  let st := s.jobState k i
  if st ≠ 1 ∧ st ≠ 2 then none
  else
    let s := s.setRn (rJob k 0) (bits v 2 0)
    some (if bit v 2 then
      ((List.range 4).foldl (fun s j => if j != i && s.jobState k j == 2 then s.setJobState k j 1 else s) s).setJobState k i 2
    else s)

/-- `JOBCTL_WRITE` (R438, R445). -/
def execJobctlWrite (req : Requester) (part : PartId) (value : BitVec 32) (st : State) : Host.Outcome State Fault Refusal := st.act fun s =>
  .next (s.guarded req (rJob part.val 0) value.toNat (fun s => s.writeJobctl part.val value.toNat))

/-! ### Bundles (R433-R437) -/

/-- An EMPTY key slot. -/
def noBundle (_ : Nat) : Option Bundle := none
/-- No bundle command. -/
def noBundleJob (_ : Nat) : Option BundleJob := none

/-- Bundle key slot i of partition k. -/
def Block.bundle (s : Block) (k i : Nat) : Option Bundle := s.bundles.get noBundle (16 * k + i)

/-- A key slot set, with its bit of WBSLOTS. -/
def Block.setBundle (s : Block) (k i : Nat) (b : Option Bundle) : Block :=
  { s with bundles := s.bundles.set noBundle (16 * k + i) b }.setFld (rWb k 0x1C) i i (b2n b.isSome)

/-- Whether an OPEN or DECRYPT runs in partition k. -/
def Block.wbBusy (s : Block) (k : Nat) : Bool := bit (s.rn (rWb k 0x18)) 0

/-- A bundle command begins or ends in partition k. -/
def Block.setBundleJob (s : Block) (k : Nat) (j : Option BundleJob) : Block :=
  { s with bundleJobs := s.bundleJobs.set noBundleJob k j }.setFld (rWb k 0x18) 0 0 (b2n j.isSome)

/-- WBSTAT.REASON and ERR at the end of a command. -/
def Block.wbResult (s : Block) (k reason : Nat) : Block :=
  (s.setFld (rWb k 0x18) 8 1 reason).setFld (rWb k 0x18) 9 9 (b2n (reason != 0))

/-- The write of WBCTL (R435-R437, R442). -/
def Block.writeWbctl (s : Block) (k v : Nat) : Option Block :=
  let slot := bits v 3 0
  let act := bits v 6 4
  let s' := s.setRn (rWb k 0) slot
  if act = 0 then some s'
  else if s.wbBusy k then none
  else if act = 1 then
    (if s.zeroising.contains k then none else some (s'.setBundleJob k (some (.opening slot (s.rn (rWb k 4))))))
  else if act = 2 then some (s'.setBundle k slot none)
  else if act = 4 then
    some (s'.setBundleJob k (some (.decrypting slot (s.rn (rWb k 8)) (s.rn (rWb k 0xC)) (s.rn (rWb k 0x10))
      (s.rn (rWb k 0x14)))))
  else none

/-- `BUNDLE_OPEN` (R435). -/
def execBundleOpen (req : Requester) (part : PartId) (slot : BitVec 4) (st : State) : Host.Outcome State Fault Refusal := st.act fun s =>
  let v := slot.toNat + 0x10
  .next (s.guarded req (rWb part.val 0) v (fun s => s.writeWbctl part.val v))

/-- `BUNDLE_CLOSE` (R435). -/
def execBundleClose (req : Requester) (part : PartId) (slot : BitVec 4) (st : State) : Host.Outcome State Fault Refusal := st.act fun s =>
  let v := slot.toNat + 0x20
  .next (s.guarded req (rWb part.val 0) v (fun s => s.writeWbctl part.val v))

/-- `DECRYPT` (R436). -/
def execDecrypt (req : Requester) (part : PartId) (slot : BitVec 4) (st : State) : Host.Outcome State Fault Refusal := st.act fun s =>
  let v := slot.toNat + 0x40
  .next (s.guarded req (rWb part.val 0) v (fun s => s.writeWbctl part.val v))

/-- `n` bytes of a list from position a. -/
def slice (bs : List Byte) (a n : Nat) : List Byte := (bs.drop a).take n

/-- A number in `n` bytes of a list from position a. -/
def numAt (bs : List Byte) (a n : Nat) : Nat := ofBytes (slice bs a n)

/-- Whether `n` bytes from position a are all 0. -/
def zeroAt (bs : List Byte) (a n : Nat) : Bool := (slice bs a n).all (fun b => b == 0#8)

/-- REASON 0x02 of R435: sizes, reserved bytes and unused entries of a header. -/
def bundleSizesBad (h : List Byte) : Bool :=
  let nset := numAt h 6 2
  let last := numAt h 20 4
  nset == 0 || decide (64 < nset) || last == 0 || decide (65536 < last) || numAt h 16 4 == 0 || !(zeroAt h 24 8) ||
    !(zeroAt h 128 64) || !(zeroAt h 4304 48) ||
    (List.range 64).any (fun e => if e < nset then !(zeroAt h (192 + 64 * e + 56) 8) else !(zeroAt h (192 + 64 * e) 64))

/-- The entry of a header that carries this module's UID. -/
def bundleEntry (h : List Byte) : Option (List Byte) :=
  ((List.range (numAt h 6 2)).find? (fun e => numAt h (192 + 64 * e) 16 == Config.uid.toNat)).map
    (fun e => slice h (192 + 64 * e + 16) 40)

/-- The bundle a header opens, or the REASON of the first check that fails (R433-R435) (DEDUCED, log entry 65). -/
def Block.openCheck (s : Block) (k slot hdr : Nat) (h : List Byte) : Except Nat Bundle :=
  if numAt h 0 4 ≠ 0x57424E31 ∨ numAt h 4 2 ≠ 1 then .error 1
  else if bundleSizesBad h then .error 2
  else match bundleEntry h with
  | none => .error 3
  | some w =>
    match Config.bundleKey (slice h 32 96) (slice h 8 8) w with
    | none => .error 4
    | some key =>
      if (Config.gcmTag key (slice h 8 8 ++ leBytes 0xFFFFFFFF 4) (h.take 4288) []).toNat ≠ numAt h 4288 16 then .error 5
      else if (s.bundle k slot).isSome then .error 6
      else if !(s.inLedAlloc k hdr 4352) then .error 7
      else .ok { key := key, aad := slice h 8 16, nchunk := numAt h 16 4, lastlen := numAt h 20 4 }

/-- `BUNDLE_OPEN_DONE` (R435). -/
def execBundleOpenDone (part : PartId) (st : State) : Host.Outcome State Fault Refusal := st.act fun s =>
  let k := part.val
  .next <| match s.bundleJobs.get noBundleJob k with
  | some (.opening slot hdr) =>
    let h := s.ledRead hdr 4352
    let s := s.setBundleJob k none
    (match s.openCheck k slot hdr h with
     | .ok b => ((s.setBundle k slot (some b)).wbResult k 0).measure k 3 slot 0 (Config.sha384 (h.take 4304))
     | .error r => (s.wbResult k r).logEvent 0xC0 (unitPart k) (secBody 5 0 k r slot))
  | _ => s

/-- Plaintext bytes of chunk c of a bundle. -/
def Bundle.chunkLen (b : Bundle) (c : Nat) : Nat := if c + 1 = b.nchunk then b.lastlen else 65536

/-- The plaintext of chunk c from its record; none where its tag fails (R434, R436) (DEDUCED, log entry 66). -/
def Bundle.chunk (b : Bundle) (c : Nat) (record : List Byte) : Option (List Byte) :=
  let n := b.chunkLen c
  let iv := slice b.aad 0 8 ++ leBytes c 4
  let text := (Config.gcmText b.key iv (record.take n) ++ List.replicate n 0#8).take n
  if (Config.gcmTag b.key iv b.aad text).toNat = numAt record 65536 16 then some text else none

/-- Chunks decrypted in ascending order from record j on; the answer's second part is the first whose tag fails
(R436). -/
def Block.decryptFrom (s : Block) (b : Bundle) (src dst first j : Nat) : Nat → Block × Option Nat
  | 0 => (s, none)
  | n + 1 =>
    let c := first + j
    match b.chunk c (s.ledRead (src + 65600 * j) 65552) with
    | some text => (s.ledWrite (dst + 65536 * j) text).decryptFrom b src dst first (j + 1) n
    | none => (s.ledZero (dst + 65536 * j) (b.chunkLen c), some c)

/-- Bytes of plaintext that chunks first to first + count write, the last in its place. -/
def Bundle.destLen (b : Bundle) (first count : Nat) : Nat := 65536 * count + b.chunkLen (first + count)

/-- Whether a range lies in another. -/
def rangeIn (a b : Nat × Nat) : Bool := decide (b.1 ≤ a.1) && decide (a.1 + a.2 ≤ b.1 + b.2)

/-- The REASON of the first check of a DECRYPT that fails (R435). -/
def Block.decryptCheck (s : Block) (k slot src dst first count : Nat) : Except Nat Bundle :=
  let from_ := (src, 65600 * (count + 1))
  if !(s.inLedAlloc k from_.1 from_.2) then .error 7
  else match s.bundle k slot with
  | none => .error 8
  | some b =>
    let dest := (dst, b.destLen first count)
    if !(rangeIn dest (s.sealedRange k)) || rangesMeet from_ (s.sealedRange k) || rangesMeet from_ dest then .error 9
    else if b.nchunk < first + count + 1 then .error 0xB
    else .ok b

/-- `DECRYPT_DONE` (R436). -/
def execDecryptDone (part : PartId) (st : State) : Host.Outcome State Fault Refusal := st.act fun s =>
  let k := part.val
  .next <| match s.bundleJobs.get noBundleJob k with
  | some (.decrypting slot src dst first count) =>
    let s := s.setBundleJob k none
    (match s.decryptCheck k slot src dst first count with
     | .error r => s.wbResult k r
     | .ok b =>
       match s.decryptFrom b src dst first 0 (count + 1) with
       | (s, none) => s.wbResult k 0
       | (s, some c) =>
         ((s.setRn (rWb k 0x24) c).wbResult k 0xA).logEvent 0xC0 (unitPart k) (secBody 6 0 k 0xA c))
  | _ => s

/-- A running DECRYPT stops at its current chunk, whose destination becomes zeros (R437); how many chunks came before
is a free value. An OPEN runs on (DESIGN CHOICE, log entry 67). -/
def Block.stopDecrypt (s : Block) (k : Nat) : Block :=
  match s.bundleJobs.get noBundleJob k with
  | some (.decrypting slot src dst first count) =>
    let s := s.setBundleJob k none
    (match s.decryptCheck k slot src dst first count with
     | .error _ => s
     | .ok b =>
       let (x, s) := s.draw
       let n := x % (count + 1)
       match s.decryptFrom b src dst first 0 n with
       | (s, none) => s.ledZero (dst + 65536 * n) (b.chunkLen (first + n))
       | (s, some _) => s)
  | _ => s

/-! ### Partitions (R421-R424) -/

/-- Whether two partitions that are not FREE meet: a test over every other partition. -/
def Block.otherPart (s : Block) (k : Nat) (f : Nat → Bool) : Bool :=
  (List.range 8).any (fun j => j != k && s.partState j != 0 && f j)

/-- First pool counter and number of pool counters of partition k. -/
def Block.poolShare (s : Block) (k : Nat) : Nat × Nat :=
  (64 * s.fld (rPart k 4) 5 0, 64 * s.fld (rPart k 4) 12 6)

/-- Cores and pillars of partition k, as CFG[23:0]. -/
def Block.units (s : Block) (k : Nat) : Nat := s.fld (rPart k 0) 23 0

/-- Whether a named core's CORE domain, or a named pillar's PC or PIL domain, is off. -/
def Block.unitsOff (s : Block) (k : Nat) : Bool :=
  (List.range 8).any (fun c => bit (s.units k) c && !(s.domOn c)) ||
    (List.range 16).any (fun p => bit (s.units k) (8 + p) && (!(s.domOn (51 + p)) || !(s.domOn (67 + p))))

/-- Why a BIND is refused (R424). -/
def Block.bindReason (s : Block) (k : Nat) : Nat :=
  let u := s.units k
  if s.partState k ≠ 0 then 1
  else if bits u 7 0 = 0 ∨ bits u 23 8 = 0 then 2
  else if s.otherPart k (fun j => u &&& s.units j != 0) then 3
  else if 4096 < (s.poolShare k).1 + (s.poolShare k).2 ∨ s.otherPart k (fun j => rangesMeet (s.poolShare k) (s.poolShare j))
    then 4
  else if s.digestAt (rPart k 0x10) 12 = 0 then 5
  else if s.unitsOff k then 6
  else if s.fld (rPart k 0) 25 24 = 0 then 7
  else 0

/-- A core's counters as a BIND sets them (R259): MODE COUNT, VALUE 0, CAP 65,535. -/
def Block.resetCounters (s : Block) (c : Nat) : Block :=
  (List.range 48).foldl (fun s k =>
    let n := 64 * c + k
    let s := (s.setRn (rCtr n) 0).setRn (rCtr n + 4) 0x1FFFE
    { s with baselines := s.baselines.set noBaseline n 0#16 }) s

/-- A core's descriptors invalid, its table slots EMPTY and its loop-memory halves invalid (R423). -/
def Block.clearCoreTables (s : Block) (c : Nat) : Block :=
  { s with
    descs := s.descs.dropRange (512 * c) (512 * (c + 1))
    sfuSlots := s.sfuSlots.dropRange (64 * c) (64 * (c + 1)) }.setFld (rLm c) 2 1 0

/-- What BIND does to a core: counters, tables, FLTCTL STOP and RUNNING (R423). -/
def Block.bindCore (s : Block) (c : Nat) : Block :=
  (((s.resetCounters c).clearCoreTables c).setRn (rC c 8) 0).setFld (rC c 4) 1 0 0

/-- The cores of partition k. -/
def Block.partCores (s : Block) (k : Nat) : List Nat := (List.range 8).filter (fun c => bit (s.units k) c)

/-- The pillars of partition k. -/
def Block.partPillars (s : Block) (k : Nat) : List Nat := (List.range 16).filter (fun p => bit (s.units k) (8 + p))

/-- An accepted BIND (R423). -/
def Block.bindPart (s : Block) (k : Nat) : Block :=
  let s := (s.partCores k).foldl Block.bindCore s
  let s := { s with measures := s.measures.set noMeasure k {} }
  let s := (s.setRn (rHi (0x500 + 4 * k)) 0).onAtt k (fun _ => {})
  (s.setFld (rPart k 8) 1 0 1).logEvent 0xC0 (unitPart k) (secBody 12 0 k 0 0)

/-- Why a RELEASE is refused (R424). -/
def Block.releaseReason (s : Block) (k : Nat) : Nat :=
  if s.partState k ≠ 1 then 8
  else if (List.range 9).any (fun r => s.ringOpen r && s.ringPart r == k) then 9
  else if s.attState k = 1 ∨ s.attState k = 3 then 0xA
  else if (List.range 16).any (fun q => s.seqOwner q == some k && s.fld (rQ q 8) 2 0 == 2) then 0xB
  else 0

/-- The counters of partition k. -/
def Block.partCounters (s : Block) (k : Nat) : List Nat :=
  (s.partCores k).flatMap (fun c => (List.range 48).map (fun i => 64 * c + i)) ++
    (List.range (s.poolShare k).2).map (fun i => 0x1000 + (s.poolShare k).1 + i)

/-- Whether a counter is dirty (R280). -/
def Block.ctrDirty (s : Block) (n : Nat) : Bool :=
  s.nwait n != 0 || (if s.ctrMode n = 1 then s.ctrArrived n != 0
    else s.ctrValue n != (s.baselines.get noBaseline n).toNat)

/-- The counters are checked at release: an event for each dirty one, and SY.DIRTY (R280, R522). -/
def Block.checkCounters (s : Block) (k : Nat) : Block :=
  let dirty := (s.partCounters k).filter s.ctrDirty
  let s := dirty.foldl (fun s n =>
    s.logEvent 0x90 (unitPart k) (4 + n <<< 32 + k <<< 48 + (s.ctrMode n) <<< 56 +
      (if s.ctrMode n = 1 then s.ctrArrived n else s.ctrValue n) <<< 64 +
      (s.baselines.get noBaseline n).toNat <<< 80)) s
  s.setRn (rSy 0x1000C) (dirty.length + k <<< 16)

/-- Every bundle key slot and job-key index of k becomes EMPTY; a running DECRYPT stops first (R437, R442). -/
def Block.zeroKeys (s : Block) (k : Nat) : Block :=
  let s := s.stopDecrypt k
  let s := (List.range 16).foldl (fun s i => s.setBundle k i none) s
  (List.range 4).foldl (fun s i => s.clearJob k i) s

/-- The write of PCTL (R423, R424, R444) (DEDUCED, log entry 62). -/
def Block.writePctl (s : Block) (v : Nat) : Option Block :=
  let k := bits v 2 0
  if bit v 3 && bit v 4 then none
  else if bit v 3 then
    (if s.zeroising.contains k then none
    else
      let r := s.bindReason k
      some ((if r = 0 then s.bindPart k else s).setRn (rSb 0x204) r))
  else if bit v 4 then
    let r := s.releaseReason k
    some ((if r = 0 then ((s.setFld (rPart k 8) 1 0 2).checkCounters k).zeroKeys k else s).setRn (rSb 0x204) r)
  else some s

/-- `PART_BIND` (R423). -/
def execPartBind (req : Requester) (part : PartId) (st : State) : Host.Outcome State Fault Refusal := st.act fun s =>
  let v := part.val + 8
  .next (s.guarded req (rSb 0x200) v (fun s => s.writePctl v))

/-- `PART_RELEASE` (R424). -/
def execPartRelease (req : Requester) (part : PartId) (st : State) : Host.Outcome State Fault Refusal := st.act fun s =>
  let v := part.val + 16
  .next (s.guarded req (rSb 0x200) v (fun s => s.writePctl v))

/-- The memories of a core and its sequencers' stacks read as zeros (R424 step 3). -/
def Block.zeroCore (s : Block) (c : Nat) : Block :=
  { s with
    scratch := s.scratch.dropRange (spKey c 0) (spKey (c + 1) 0)
    loopMem := s.loopMem.dropRange (lmKey c 0 0) (lmKey (c + 1) 0 0)
    descs := s.descs.dropRange (512 * c) (512 * (c + 1))
    sfuSlots := s.sfuSlots.dropRange (64 * c) (64 * (c + 1))
    stackMem := s.stackMem.dropRange (2 * c * 65536) (2 * (c + 1) * 65536) }

/-- Rows 0-6,135 of every bank of a pillar's serving dies read as zeros with right check bits (R424 step 4); those of a die
under copy are marked (R307). -/
def Block.zeroPillar (s : Block) (p : Nat) : Block :=
  (List.range 17).foldl (fun s d => if s.offline p d || s.unresp p d then s else (s.fillZone p d 0 .zeros).mark p d allRows) s

/-- `PART_RELEASE_DONE` (R424): steps 3 to 5. -/
def execPartReleaseDone (part : PartId) (st : State) : Host.Outcome State Fault Refusal := st.act fun s =>
  let k := part.val
  .next <| if s.partState k ≠ 2 then s
  else
    let s := (s.partCores k).foldl Block.zeroCore s
    let s := s.ledZero (s.ledAlloc k).1 (s.ledAlloc k).2
    let s := (s.partPillars k).foldl Block.zeroPillar s
    let s := (s.partCores k).foldl (fun s c => s.setFld (rC c 4) 1 0 3) s
    (s.setFld (rPart k 8) 1 0 0).logEvent 0xC0 (unitPart k) (secBody 13 0 k 0 0)

/-! ### Zeroising (R442) -/

/-- A zeroisation of partition k begins. -/
def Block.startZeroise (s : Block) (k : Nat) : Block :=
  let s := s.zeroKeys k
  { s with zeroising := if s.zeroising.contains k then s.zeroising else s.zeroising ++ [k] }

/-- Whether a requester may write ZCTL for partition k: a port that may write SB.WB.k, or a standing order (R442). -/
def Block.mayZeroise (s : Block) (r : Requester) (k : Nat) : Bool :=
  match r with
  | .port p => s.portMay p.num (rWb k 0) true
  | .seq _ => false
  | .mc => true

/-- The write of ZCTL by one who may (R442, R444). -/
def Block.writeZctl (s : Block) (v : Nat) : Option Block := some (if bit v 3 then s.startZeroise (bits v 2 0) else s)

/-- `ZEROISE` (R442). -/
def execZeroise (req : Requester) (part : PartId) (st : State) : Host.Outcome State Fault Refusal := st.act fun s =>
  let v := part.val + 8
  .next (s.guardedBy req (s.mayZeroise req part.val) (rSb 0x410) v (fun s => s.writeZctl v))

/-- `ZEROISE_DONE` (R442): the sealed range is zeros, ZEROISED is set and logged. -/
def execZeroiseDone (part : PartId) (st : State) : Host.Outcome State Fault Refusal := st.act fun s =>
  let k := part.val
  .next <| if s.zeroising.contains k then
    let s := { s with zeroising := s.zeroising.filter (fun j => j != k) }
    let s := s.ledZero (s.sealedRange k).1 (s.sealedRange k).2
    (s.orReg (rPart k 8) 4).logEvent 0xC0 (unitPart k) (secBody 9 0 k 0 0)
  else s

end Sys2Proof.Machine
end

