-- ==== Sys2Proof/Machine/Power.lean ====
section
/-!
DEFINITION. Power domains, heat, coolant and the supply's warning (13_beat_and_power.md, R375-R381, R520).
-/
namespace Sys2Proof.Machine

/-! ### What a domain loses (R377) -/

/-- Registers of [lo, hi) at their reset values. -/
def Block.resetRegs (s : Block) (lo hi : Nat) : Block := { s with regs := s.regs.dropRange lo hi }

/-- Engine logic, dispatcher and loop memory of core c lost: the core is OFFLINE, both halves of its loop memory are
invalid. -/
def Block.loseCore (s : Block) (c : Nat) : Block :=
  let s := s.resetRegs (rC c 0) (rC (c + 1) 0)
  { s with
    loopMem := s.loopMem.dropRange (lmKey c 0 0) (lmKey (c + 1) 0 0)
    descs := s.descs.dropRange (512 * c) (512 * (c + 1))
    calls := s.calls.dropRange c (c + 1)
    queues := s.queues.dropRange (14 * c) (14 * (c + 1))
    baselines := s.baselines.dropRange (64 * c) (64 * (c + 1))
    sfuSlots := s.sfuSlots.dropRange (64 * c) (64 * (c + 1))
    sfuLoads := s.sfuLoads.dropRange c (c + 1) }

/-- The scratchpad of core c lost. -/
def Block.loseScratch (s : Block) (c : Nat) : Block :=
  { s with scratch := s.scratch.dropRange (spKey c 0) (spKey (c + 1) 0) }

/-- Sequencer q and its stack lost. -/
def Block.loseSeq (s : Block) (q : Nat) : Block :=
  let s := s.resetRegs (rQ q 0) (rQ (q + 1) 0)
  { s with
    planMem := s.planMem.dropRange (q * 32768) ((q + 1) * 32768)
    stackMem := s.stackMem.dropRange (q * 65536) ((q + 1) * 65536)
    seqs := s.seqs.dropRange q (q + 1) }

/-- Ledger quarter i lost. -/
def Block.loseQuarter (s : Block) (i : Nat) : Block :=
  let lose := fun t : Tab Byte => t.dropRange (i * 0x800000) ((i + 1) * 0x800000)
  { s with ledger := lose s.ledger, pathM := lose s.pathM, pathI := lose s.pathI }

/-- Pillar p with its controller and its dies lost: a new generation of undefined DRAM contents (R482). -/
def Block.losePillar (s : Block) (p : Nat) : Block :=
  let (g, s) := s.newGen
  let s := s.resetRegs (rP p 0) (rP (p + 1) 0)
  let s := (List.range 17).foldl (fun s d => (List.range 3).foldl (fun s z => s.fillZone p d z (.undef g)) s) s
  { s with
    blus := s.blus.dropRange (bankKey p 0 0) (bankKey (p + 1) 0 0)
    pillars := s.pillars.dropRange p (p + 1)
    spareMarks := s.spareMarks.dropRange p (p + 1) }

/-- What domain d loses when it is switched off; a pillar stack and its controller are lost together. -/
def Block.loseDomain (s : Block) (d : Nat) : Block :=
  if d < 8 then s.loseCore d
  else if d < 16 then s
  else if d < 24 then s.loseScratch (d - 16)
  else if d < 40 then s.loseSeq (d - 24)
  else if d < 44 then s.loseQuarter (d - 40)
  else if d < 46 then (if s.dlUp (d - 44) then s.linkLost (d - 44) 1 else s)
  else if d < 51 then s
  else if d < 67 then s.losePillar (d - 51)
  else s

/-- DOMSTAT of a domain, which has then switched last (R384). -/
def Block.setDomStat (s : Block) (d v : Nat) : Block :=
  (s.setFld (rEv (0x110 + 4 * (d / 32))) (d % 32) (d % 32) v).setFld (rEv 0x11C) 7 1 d

/-- DOMCTL of a domain. -/
def Block.domWanted (s : Block) (d : Nat) : Bool := bit (s.rn (rEv (0x100 + 4 * (d / 32)))) (d % 32)

/-- The NOR configuration in force: 0 the module's first (PRESUMED, log entry 5). -/
def Block.norVersion (s : Block) : Nat := s.fwRun.get noVersion 3

/-- The delay registers of a pillar's dies written from the NOR table, and APPLY (R304, R481). -/
def Block.programDelays (s : Block) (p : Nat) : Block :=
  let n := s.norVersion
  let s := if n = 0 then s.resetRegs (rP p 0x2000) (rP p 0x3100)
    else (List.range 17).foldl (fun s d => (List.range 33).foldl (fun s g =>
      s.setReg (rP p (0x2000 + 0x100 * d + 4 * g)) ((Config.delayWord n p d g &&& 0x3F3F#32).zeroExtend 64)) s) s
  (s.onPillar p (fun q => { q with applying := true })).setRn (rP p 0x180) 0

/-- A pillar pair that has reached ready enters DELAY and its delays are programmed (R377, R481). -/
def Block.pairReady (s : Block) (p : Nat) : Block :=
  if s.domOn (51 + p) && s.domOn (67 + p) then (s.setFld (rP p 0) 2 0 1).programDelays p else s

/-- A domain finishes switching: DOMSTAT shows it, and it has lost its contents or come up (R376, R377) (DESIGN
CHOICE, log entry 48). -/
def Block.domSwitched (s : Block) (d : Nat) : Block :=
  if s.domWanted d then
    let s := s.setDomStat d 1
    if d < 8 then s.setFld (rC d 4) 1 0 3
    else if 51 ≤ d ∧ d < 67 then s.pairReady (d - 51)
    else if 67 ≤ d then s.pairReady (d - 67)
    else s
  else (s.setDomStat d 0).loseDomain d

/-! ### DOMCTL (R375, R376) -/

/-- Whether a range of Ledger quarter i is allocated. -/
def Block.quarterUsed (s : Block) (i : Nat) : Bool :=
  (List.range 8).any (fun k => rangesMeet (s.ledAlloc k) (i * 0x800000, 0x800000))

/-- The condition of R375 for switching domain d, under the register value that is written; a domain that the same
write switches earlier counts as switched (R376) (DEDUCED, log entry 47). -/
def Block.maySwitch (s : Block) (d : Nat) (want : Nat → Bool) : Bool :=
  if want d then !(decide (8 ≤ d) && decide (d < 16)) || want (d - 8)
  else if d < 8 then (s.coreOwner d).isNone
  else if d < 16 then [0, 1].all (fun l => (s.issued? (qKey (d - 8) eMtx l)).isNone)
  else if d < 24 then !(want (d - 16))
  else if d < 40 then
    let q := d - 24
    s.fld (rQ q 8) 2 0 != 2 && (List.range 9).all (fun r => !(s.ringOpen r) || s.ringWriter r != 16 + q)
  else if d = 40 then false
  else if d < 44 then !(s.quarterUsed (d - 40))
  else if d < 46 then
    let p := d - 44
    (s.partsOn p 1).isEmpty && (s.partsOn p 3).isEmpty &&
      !(s.fld (rHi 0x700) 0 0 == 1 && s.fld (rHi 0x700) 1 1 == p)
  else if d < 51 then false
  else if d < 67 then (s.pillarOwner (d - 51)).isNone && !(want (d + 16))
  else !(want (d - 16))

/-- Switching of the first domain of the queue begins, or nothing is left to switch. -/
def Block.startSwitch (s : Block) : Block :=
  match s.domQueue with
  | [] => s.setFld (rEv 0x11C) 0 0 0
  | d :: _ => s.setRn (rEv 0x11C) (1 + 2 * d)

/-- What a write of DOMCTL does (R376): refused while a domain switches, where a PC and its PIL would differ, and
where a changed domain's condition does not hold (DEDUCED, log entry 46). -/
def Block.writeDomctl (s : Block) (i v : Nat) : Option Block :=
  let v := if i = 2 then v % 2 ^ 19 else v % 2 ^ 32
  let want := fun d => if d / 32 = i then bit v (d % 32) else s.domWanted d
  let changed := (List.range 83).filter (fun d => want d != s.domWanted d)
  if s.fld (rEv 0x11C) 0 0 = 1 || (List.range 16).any (fun n => want (51 + n) != want (67 + n)) ||
      changed.any (fun d => !(s.maySwitch d want)) then none
  else
    let s := s.setRn (rEv (0x100 + 4 * i)) v
    some (if changed.isEmpty then s else { s with domQueue := changed }.startSwitch)

/-- `DOMCTL_WRITE` (R376). -/
def execDomctlWrite (req : Requester) (index : Fin 3) (value : BitVec 32) (st : State) :
    Host.Outcome State Fault Refusal := st.act fun s =>
  .next (s.guarded req (rEv (0x100 + 4 * index.val)) value.toNat (fun s => s.writeDomctl index.val value.toNat))

/-- `DOMAIN_READY` (R376, R377): the domain that is switching has reached ready or off. -/
def execDomainReady (st : State) : Host.Outcome State Fault Refusal := st.act fun s =>
  .next <| match s.domQueue with
  | [] => s
  | d :: rest => ({ s.domSwitched d with domQueue := rest }).startSwitch

/-! ### Heat and coolant (R378, R379, R381) -/

/-- `HUB_SENSOR_READ` (R378): the sixteen junction sensors. -/
def execHubSensorRead (celsius : List (BitVec 8)) (st : State) : Host.Outcome State Fault Refusal := st.act fun s =>
  if celsius.length ≠ 16 then .fault (.illFormed "hub sensors")
  else .next (if s.awake then
      (s.setFld (rEv 0xB0) 7 0 ((celsius.map BitVec.toNat).foldl max 0)).heatCheck
    else s)

/-- Readings taken die by die. -/
def Block.takeTemps (s : Block) (p : Nat) : Nat → List (BitVec 8) → Block
  | _, [] => s
  | d, t :: ts => (if s.sendsTo p d then s.dieTemp p d t.toNat else s).takeTemps p (d + 1) ts

/-- `DIE_TEMP_POLL` (R299): the controller reads each of its dies. -/
def execDieTempPoll (pillar : PillarId) (temps : List (BitVec 8)) (st : State) : Host.Outcome State Fault Refusal := st.act fun s =>
  if temps.length ≠ 17 then .fault (.illFormed "die temperatures")
  else .next (if s.pillarOn pillar.val then s.takeTemps pillar.val 0 temps else s)

/-- `THERMAL_TRIP_END` (R379): every sensor has read at most its release limit for 10 ms. -/
def execThermalTripEnd (st : State) : Host.Outcome State Fault Refusal := st.act fun s =>
  .next (if s.tripped && decide (s.fld (rEv 0xB0) 7 0 ≤ 100) && decide (s.fld (rEv 0xB0) 15 8 ≤ 90) then
      (s.setFld (rEv 0xB8) 0 0 0).showLimits
    else s)

/-- Whether a warning that stands may be logged again: a second after the last time. -/
def Block.warnDue (s : Block) (was : Bool) (last : Option Nat) : Bool :=
  !was || (match last with
    | some t => decide (t + usCycles 1000000 ≤ s.cycle)
    | none => true)

/-- COOLWARN as the inlet, the flow and WARNFLOW now stand, and its event (R381). -/
def Block.coolCheck (s : Block) : Block :=
  let warn := decide (45 < s.fld (rEv 0xB0) 23 16) || decide (s.fld (rEv 0xB4) 15 0 < s.fld (rEv 0xB4) 27 17)
  let was := s.fld (rEv 0xB4) 16 16 == 1
  let s := s.setFld (rEv 0xB4) 16 16 (b2n warn)
  if warn && s.warnDue was s.beat.coolAt then (s.onBeat (fun b => { b with coolAt := some s.cycle })).thermalEvent else s

/-- `COOLANT_MEASURE` (R378, R381). -/
def execCoolantMeasure (inlet : BitVec 8) (outlet : BitVec 8) (flow : BitVec 16) (st : State) :
    Host.Outcome State Fault Refusal := st.act fun s =>
  .next <| if !s.awake then s
  else
    let s := (s.setFld (rEv 0xB0) 23 16 inlet.toNat).setFld (rEv 0xB0) 31 24 outlet.toNat
    (s.setFld (rEv 0xB4) 15 0 flow.toNat).coolCheck

/-- The supply as it now stands: EV.VIN, VIN_LOW and its event (R381). -/
def Block.takeVin (s : Block) (mv : Nat) : Block :=
  let low := decide (mv < 40000)
  let was := s.fld (rEv 0) 8 8 == 1
  let s := (s.setRn (rEv 0xA4) mv).setFld (rEv 0) 8 8 (b2n low)
  if low && s.warnDue was s.beat.vinAt then (s.onBeat (fun b => { b with vinAt := some s.cycle })).thermalEvent else s

/-- `VIN_LOW_CHANGE` (R381): the supply has crossed 40 V. -/
def execVinLowChange (low : Bool) (millivolts : BitVec 16) (st : State) : Host.Outcome State Fault Refusal := st.act fun s =>
  if low ≠ decide (millivolts.toNat < 40000) then .fault (.illFormed "supply voltage")
  else .next (if !s.awake then s else s.takeVin millivolts.toNat)

/-- What a write of FLOW does: WARNFLOW from 500 to 1,800 mL/min (R383), with COOLWARN judged against it (R381). -/
def Block.writeFlow (s : Block) (v : Nat) : Option Block :=
  let w := bits v 27 17
  if w < 500 ∨ 1800 < w then none else some (s.setFld (rEv 0xB4) 27 17 w).coolCheck

end Sys2Proof.Machine
end

