-- ==== Sys2Proof/Machine/Seal.lean ====
section
/-!
DEFINITION. Twilight, the seal, Night and the resets that seal (14_integrity_and_recovery.md, R390-R394, R418;
18_dawn.md, R477, R486, R489, R490, R492; 19_electrical_and_mechanical.md, R504).
-/
namespace Sys2Proof.Machine

/-! ### What a seal holds (R390) -/

/-- Sealed registers of a core block: FLTCTL, LMSTAT, QDEPTH, NUMCTL, the seeds, XFERCTL, s0-s31, the counters without
their last-signaller records, WAITTO. -/
def sealedCore (o : Nat) : Bool :=
  o == 8 || o == 0x84 || inRow o 0x20 4 7 || [0xA00, 0xA08, 0xA0C, 0xC00, 0xE04, 0xE08, 0x2300, 0x2304].contains o ||
    inRow o 0xD00 8 32 || (decide (0x2000 ≤ o) && decide (o < 0x2300) && decide (o % 16 < 8))

/-- Sealed registers of a pillar controller: PAGE, QOS, PIMURG, PDCTL, REFCTL, RPLYLIMIT. -/
def sealedPillar (o : Nat) : Bool := [0x70, 0xA8, 0xB0, 0x100, 0x128].contains o || inRow o 0x80 4 9

/-- Whether a register belongs to a section of the seal, the event log's own aside. -/
def sealedReg (a : Nat) : Bool :=
  if 0x100000 ≤ a ∧ a < 0x180000 then sealedCore (a % 0x10000)
  else if 0x200000 ≤ a ∧ a < 0x300000 then sealedPillar (a % 0x10000)
  else (decide (0x80000 ≤ a) && decide (a < 0x90000) && decide (a % 16 < 8)) ||
    (decide (0x61000 ≤ a) && decide (a < 0x61480)) || (decide (0xA0000 ≤ a) && decide (a < 0xA9000)) ||
    inRow a 0x60400 4 8 || inRow a 0x60500 4 8 || (decide (0x70000 ≤ a) && decide (a < 0x70800)) ||
    (decide (0x50000 ≤ a) && decide (a < 0x50200)) || a == 0x40000 || inRow a 0x40100 4 128 || a == 0x10004

/-- A register of the event log's section. -/
def evlogReg (a : Nat) : Bool := a == 0x400000 || a == 0x400004 || a == 0x400008

/-- The bytes of the completion places from CTAIL to CHEAD of every open ring. -/
def Block.sealPlaces (s : Block) : Tab Byte :=
  (List.range 9).foldl (fun t r =>
    if s.ringOpen r then
      (List.range (min (s.csize r) (sub32 (s.rn (rRing r 0x14)) (s.rn (rRing r 0x18))))).foldl (fun t i =>
        let a := s.placeAt r (s.rn (rRing r 0x18) + i)
        writeBytes t a (readBytes s.ledger a 32)) t
    else t) []

/-- The lines of accepted items that still hold their positions. -/
def Block.sealLines (s : Block) : Tab (Option HeldLine) :=
  s.lines.filter (fun p => (s.acceptedLines (p.1 / 8192)).contains (p.1 % 8192))

/-- The image of the seal (R390). -/
def Block.capture (s : Block) : Sealed :=
  { regs := s.regs.filter (fun p => sealedReg p.1 || evlogReg p.1)
    lines := s.sealLines
    rings := s.rings
    items := s.items
    places := s.sealPlaces
    descs := s.descs
    loopMem := s.loopMem
    baselines := s.baselines
    attach := s.attach
    evlog := s.evlog }

/-! ### The bytes of the seal (R388, R390, R391) -/

/-- KIND of a journal slot. -/
def ItemKind.code : ItemKind → Nat
  | .bundle => 0 | .marker => 1 | .fence => 2 | .loopCall => 3

/-- Bytes filled up to n with zeros. -/
def padTo (n : Nat) (bs : List Byte) : List Byte := bs ++ List.replicate (n - bs.length) 0#8

/-- The 320 bytes of an item's journal slot (R388). -/
def Block.slotBytes (s : Block) (i : Item) : List Byte :=
  let r := i.ring.val
  let (k, gen) := match i.slotK with
    | some k => (k.toNat, genOf k.toNat (s.rcount r))
    | none => (0, 0)
  padTo 256 (i.lines.flatMap (fun l => leBytes l.toNat 64)) ++
    padTo 64 (leBytes i.seq.toNat 4 ++
      leBytes (r + (b2n (r == 8)) <<< 4 + i.kind.code <<< 5) 1 ++ leBytes i.done.toNat 1 ++
      leBytes i.granted.toNat 1 ++ leBytes (b2n i.faulted + (b2n i.pathd) <<< 1) 1 ++
      leBytes (if i.faulted then i.fcode.toNat else 0) 1 ++ leBytes 0 3 ++ leBytes i.evidx.toNat 4 ++
      leBytes k 4 ++ leBytes gen 2)

/-- JSLOTS: the journal slots in use, those of dispatched items that are not complete (R387, R390). -/
def Block.jslots (s : Block) : List Byte := (s.items.filter (fun i => i.phase == .dispatched)).flatMap s.slotBytes

/-- PENDING: the records of complete items that are not posted, each with the index at which it will be (R387, R390). -/
def Block.pendingRecords (s : Block) : List Byte :=
  (List.range 9).flatMap (fun r => (((s.ringItems r).zipIdx).filter (fun x => x.1.phase == .complete)).flatMap (fun x =>
    s.recordOf r x.1 ((s.rn (rRing r 0x14) + x.2) % 2 ^ 32)))

/-- The most bytes a section of a TYPE may have; none for a reserved TYPE (R390). -/
def sectionLimit : Nat → Option Nat
  | 1 => some 0x480000 | 2 => some 0x200000 | 3 => some 0x200000 | 4 => some 0x500000 | 5 => some 0x20000
  | 6 => some 2252 | 7 => some 0x80000 | 8 => some 71680 | 9 => some 8192 | 10 => some 16384 | 11 => some 786432
  | 12 => some 4096 | _ => none

/-- The twelve sections of a seal (R390): JSLOTS and PENDING in the layouts of R388 and R332, the others in layouts the
spec does not give (DESIGN CHOICE, log entry 139). -/
def Block.sealSections (s : Block) (x : Nat) : List SealSection :=
  (List.range 12).map (fun i =>
    let t := i + 1
    let data := if t = 3 then s.pendingRecords else if t = 4 then s.jslots else Config.sealSection x t
    ⟨t, data.take ((sectionLimit t).getD 0)⟩)

/-- The 4 KiB header of a seal (R391). -/
def Seal.header (x : Seal) : List Byte :=
  padTo 4096 (leBytes 0x4A4E4C31 4 ++ leBytes x.session 8 ++ leBytes x.time 8 ++ leBytes x.cause 1 ++
    leBytes x.intact 11 ++ leBytes x.guar 4 ++ leBytes x.sections.length 2)

/-- A section with its 64-byte descriptor: TYPE in bytes 0-1 and LENGTH in bytes 4-7 (R391; DESIGN CHOICE, log entry 139). -/
def SealSection.bytes (x : SealSection) : List Byte :=
  padTo 64 (leBytes x.type 2 ++ leBytes 0 2 ++ leBytes x.data.length 4) ++ x.data

/-- The image of a seal (R391). -/
def Seal.image (x : Seal) : List Byte := x.header ++ x.sections.flatMap SealSection.bytes

/-- The image length in bytes. -/
def Seal.length (x : Seal) : Nat := 4096 + (x.sections.map (fun y => 64 + y.data.length)).foldl (· + ·) 0

/-- The 64 bytes of a seal's commit record (R391). -/
def Seal.commitRecord (x : Seal) : List Byte :=
  let b := padTo 60 (leBytes 0x4A4E4C43 4 ++ leBytes x.session 8 ++ leBytes x.length 4 ++
    leBytes (Config.sealTag x.image).toNat 16)
  b ++ leBytes (crc32c b).toNat 4

/-- A seal with its commit record written. -/
def Seal.committed (x : Seal) : Seal := { x with commit := x.commitRecord }

/-- Whether a seal is complete: its commit record's CRC is right, its SESSION and length match the header, its tag
verifies, and no section is of a reserved TYPE (R390, R391). -/
def Seal.complete (x : Seal) : Bool :=
  let c := x.commit
  c.length == 64 && ofBytes (c.drop 60) == (crc32c (c.take 60)).toNat &&
    ofBytes ((c.drop 4).take 8) == x.session % 2 ^ 64 && ofBytes ((c.drop 12).take 4) == x.length % 2 ^ 32 &&
    ofBytes ((c.drop 16).take 16) == (Config.sealTag x.image).toNat &&
    x.sections.all (fun y => (sectionLimit y.type).isSome)

/-! ### Loss of power -/

/-- Registers whose values NOR keeps: HOSTCFG, the partition table, the administrator's key, DBG, JR.CURSOR, SEALINFO
and SESSION (DEDUCED, log entry 71). -/
def norReg (a : Nat) : Bool :=
  a == 0x60020 || (decide (0x50000 ≤ a) && decide (a < 0x50200)) || (decide (0x50300 ≤ a) && decide (a < 0x50340)) ||
    a == 0x50400 || a == 0x20010 || a == 0x20020 || a == 0x20090

/-- Registers of the always-on domain: the MC, alarm, standing-order and event-log blocks (R29, R393, R419). -/
def aonReg (a : Nat) : Bool :=
  decide (a < 0x10000) || (decide (0x30000 ≤ a) && decide (a < 0x50000)) || decide (0x400000 ≤ a)

/-- What BLU counters and flags are kept (R490). -/
def Blu.counters (u : Blu) : Blu := { err := u.err, ce := u.ce, ue := u.ue, rescnt := u.rescnt, last := u.last }

/-- Every switched domain outside a mask loses its contents; `keep` says whether BLU counters are saved and restored. -/
def Block.powerLoss (s : Block) (mask : Nat) (keep : Bool) : Block :=
  let pil := fun a => decide (0x200000 ≤ a) && decide (a < 0x300000) &&
    (bit mask (51 + (a - 0x200000) / 0x10000) || (keep && a % 0x10000 == 0xC24))
  let guar := s.fld (rJr 8) 9 8
  let blus := s.blus
  let lost := (List.range 16).filter (fun p => !(bit mask (51 + p)))
  let drain := lost.map (fun p => (p, s.reg (rP p 0xC24)))
  let s := lost.foldl Block.losePillar s
  let s := if keep then
      { drain.foldl (fun s x => s.setReg (rP x.1 0xC24) x.2) s with
        blus := (blus.map (fun x => if bit mask (51 + x.1 / 256 / 17) then x else (x.1, x.2.counters))).filter
          (fun x => x.2 != {}) }
    else s
  let s := { s with
    regs := s.regs.filter (fun x => aonReg x.1 || norReg x.1 || pil x.1)
    scratch := s.scratch.filter (fun x => bit mask (16 + x.1 / 2 ^ 26))
    ledger := s.ledger.filter (fun x => bit mask (40 + x.1 / 0x800000))
    pathM := s.ledger.filter (fun x => bit mask (40 + x.1 / 0x800000))
    pathI := s.ledger.filter (fun x => bit mask (40 + x.1 / 0x800000))
    sramBad := s.sramBad.filter (fun x => (x.kind == 0 && bit mask (16 + x.unit)) ||
      (x.kind == 1 && bit mask (40 + x.unit)) || x.kind == 7)
    loopMem := [], planMem := [], stackMem := [], descs := [], lines := [], rings := [], items := [], calls := []
    queues := [], baselines := [], winBuf := [], latches := [], vioLog := [], sessions := [], sfuSlots := []
    sfuLoads := [], measures := [], ops := [], bnkFault := [], jobKeys := [], txCtr := [], rxCtr := [], attach := []
    ideKeys := [], bundles := [], bundleJobs := [], zeroising := [], seqs := [], beat := {}, i3cAddr := none
    domQueue := [], fwJob := none, replayed := false, heldBack := [], failedParts := [] }
  let s := (s.setFld (rJr 8) 9 8 guar).setFld (rMc 0x24) 0 0 0
  (List.range 83).foldl (fun s d => if bit mask d then s.setDomStat d 1 else s) s

/-- The always-on domain loses its contents (R404); what NOR holds stays. -/
def Block.loseAlwaysOn (s : Block) : Block :=
  let sw := s.fld (rMc 0x30) 31 0
  { s.setRn (rMc 0x30) sw with
    regs := (s.setRn (rMc 0x30) sw).regs.filter (fun x => !(aonReg x.1) || x.1 == 0x30)
    evlog := [], orderEvents := [], alarms := [], sources := [], orderAt := [], rtcBase := 0, rtcAt := s.cycle
    aonLost := true }

/-! ### Twilight begins (R392, R393) -/

/-- The item in assembly on ring r is discarded at Twilight: its lines' credit returns, and NEXTSEQ stays at its SEQ. -/
def Block.dropAsm (s : Block) (r : Nat) : Block :=
  match (s.ring r).asm with
  | none => s
  | some a => ((s.freeLines r a.first a.lines.length).bump32 (rRg r 0x18) 1).onRing r (fun q => { q with asm := none })

/-- Twilight begins: no line is accepted, no entry issues, lit banks stop, a running DECRYPT stops (R370, R393, R437). -/
def Block.beginTwilight (s : Block) (cause : Nat) (reset : Option Nat) : Block :=
  let sealless := s.life == .dawn
  let s := { s with life := .twilight, twilight := some { cause := cause, since := s.cycle, reset := reset, sealless := sealless } }
  let s := (s.setFld (rEv 0) 2 0 4).setFld (rJr 0) 2 0 1
  let s := ((s.litBanks.map Prod.fst).foldl Block.darken s).showLimits
  let s := (List.range 9).foldl Block.dropAsm s
  let s := (List.range 8).foldl Block.stopDecrypt s
  { s with domQueue := [] }

/-- Whether Twilight can begin: in service, or in a Dawn that has begun. -/
def Block.mayFall (s : Block) : Bool := s.life == .service || (s.life == .dawn && s.fld (rMc 0x10) 3 0 != 0)

/-- `SUPPLY_LOW` (R392): the input below 38 V for 20 µs, at a voltage the command does not name: a free one (R381;
DESIGN CHOICE, log entry 140). A module that waits in QUALIFY has no switched domain to seal. -/
def execSupplyLow (st : State) : Host.Outcome State Fault Refusal := st.act fun s =>
  let s := { s with supplyOk := false }
  .next <| if s.mayFall then
    let (x, s) := s.draw
    (s.takeVin (x % 38000)).beginTwilight 1 none
  else if s.life = .dawn then (if s.cell then { s with life := .night } else { s.loseAlwaysOn with life := .dark })
  else s

/-- What a write of JCTL does (R392, R418). -/
def Block.writeJctl (s : Block) (v : Nat) : Option Block :=
  if bit v 0 && bits v 31 16 != 0x7A11 then none
  else
    let s := if bit v 1 then s.setFld (rJr 8) 9 8 0 else s
    some (if bit v 0 && s.mayFall then s.beginTwilight 3 none else s)

/-- `JCTL_TWILIGHT` (R392). -/
def execJctlTwilight (req : Requester) (confirm : BitVec 16) (st : State) : Host.Outcome State Fault Refusal := st.act fun s =>
  let v := 1 + confirm.toNat <<< 16
  .next (s.guarded req (rJr 4) v (fun s => s.writeJctl v))

/-- `GUARCLR` (R418). -/
def execGuarclr (req : Requester) (st : State) : Host.Outcome State Fault Refusal := st.act fun s =>
  .next (s.guarded req (rJr 4) 2 (fun s => s.writeJctl 2))

/-- `CRITICAL_THERMAL` (R379): a critical reading has stood for 1 ms. -/
def execCriticalThermal (st : State) : Host.Outcome State Fault Refusal := st.act fun s =>
  .next (if s.mayFall && (decide (115 ≤ s.fld (rEv 0xB0) 7 0) || decide (100 ≤ s.fld (rEv 0xB0) 15 8)) then
      s.beginTwilight 2 none
    else s)

/-! ### Resets that seal (R489, R490) -/

/-- ABORT sent to every lane of every BLU (R490). -/
def Block.abortAll (s : Block) : Block :=
  s.blus.foldl (fun s x => [0, 1].foldl (fun s l =>
    if ((s.blu x.1).laneOp l).isSome then s.bluAbort (bankOfKey x.1) l else s) s) s

/-- Spare switches at a reset: one in SWITCHING completes, one in COPYING or FINAL is cancelled (R490). -/
def Block.endSwitches (s : Block) : Block :=
  (List.range 16).foldl (fun s p =>
    if s.fld (rP p 0x194) 2 0 = 3 ∧ s.pillarOn p = true then s.switchSpare p (s.spareDie p) else s.spareCancel p) s

/-- A module reset (KIND 2) or a full reset (KIND 3) begins. -/
def Block.beginReset (s : Block) (kind : Nat) : Block :=
  if s.life == .service then ((s.abortAll).endSwitches).beginTwilight 4 (some kind) else s

/-- What a write of RESETCTL does (R492). -/
def Block.writeResetctl (s : Block) (v : Nat) : Option Block :=
  if bits v 31 16 ≠ 0xDA07 ∨ bits v 1 0 = 0 ∨ bits v 1 0 = 3 then none else some (s.beginReset (bits v 1 0 + 1))

/-- `MODULE_RESET` (R489). -/
def execModuleReset (req : Requester) (confirm : BitVec 16) (st : State) : Host.Outcome State Fault Refusal := st.act fun s =>
  let v := 1 + confirm.toNat <<< 16
  .next (s.guarded req (rMc 0x18) v (fun s => s.writeResetctl v))

/-- `FULL_RESET` (R489). -/
def execFullReset (req : Requester) (confirm : BitVec 16) (st : State) : Host.Outcome State Fault Refusal := st.act fun s =>
  let v := 2 + confirm.toNat <<< 16
  .next (s.guarded req (rMc 0x18) v (fun s => s.writeResetctl v))

/-! ### The quiesce point and the seal (R391, R393) -/

/-- Domains that stay powered through a seal (R391, R489): in a module reset the scratchpads, the Ledger, and the
pillars in SERVICE (DEDUCED, log entry 78). -/
def Block.intactMask (s : Block) (reset : Option Nat) : Nat :=
  if reset = some 2 then
    (List.range 83).foldl (fun m d =>
      let keep := (decide (16 ≤ d) && decide (d < 24)) || (decide (40 ≤ d) && decide (d < 44)) ||
        (decide (51 ≤ d) && s.fld (rP ((d - 51) % 16) 0) 2 0 == 3)
      if keep && s.domOn d then m + 2 ^ d else m) 0
  else 0

/-- Every record of ring r that may be posted is posted. -/
def Block.postAll (s : Block) (r : Nat) : Nat → Block
  | 0 => s
  | n + 1 => (s.postRecord r).postAll r n

/-- Entries that have completed and still stand in a queue count as done (R393). -/
def Block.noteDone (s : Block) : Block :=
  s.queues.foldl (fun s q => q.2.foldl (fun s en =>
    if en.stage = .finished ∧ en.body = false then
      s.mapItem en.item (fun i => { i with done := i.done ||| (1#6 <<< en.slot) })
    else s) s) s

/-- What entries, operations and waits hold ends with the quiesce point (DEDUCED, log entry 77). -/
def Block.still (s : Block) : Block :=
  { s with items := [], calls := [], queues := [], ops := [], winBuf := [], sfuLoads := [], seqs := [], bundleJobs := [] }

/-- `QUIESCE_POINT` (R393): 2 µs after Twilight began. Records that may be posted are posted, and the account freezes. -/
def execQuiescePoint (st : State) : Host.Outcome State Fault Refusal := st.act fun s =>
  .next <| match s.twilight with
  | none => s
  | some t =>
    if s.life ≠ .twilight ∨ t.quiesced then s
    else
      let s := s.passTo (t.since + usCycles 2)
      let n := s.items.length
      let s := ((List.range 9).foldl (fun s r => if s.ringOpen r then s.postAll r n else s) s).noteDone
      let (x, s) := s.draw
      let img : Seal := { session := s.rn (rJr 0x90), cause := t.cause, intact := s.intactMask t.reset,
                          guar := s.rn (rJr 8), time := s.now, body := s.capture, sections := s.sealSections x }
      { s.still with sealing := if t.sealless then none else some img, twilight := some { t with quiesced := true } }

/-- `SEAL_PROGRAM_START` (R393): the switched domains are off, but those the seal needs and those named in INTACT. The
journal SRAM is read for the programming of a seal (R406). -/
def execSealProgramStart (st : State) : Host.Outcome State Fault Refusal := st.act fun s =>
  .next <| match s.twilight with
  | none => s
  | some t =>
    if s.life ≠ .twilight ∨ t.quiesced = false ∨ t.programming then s
    else
      let s := s.passTo (t.since + usCycles 50)
      let keep := s.intactMask t.reset
      let s := (List.range 83).foldl (fun s d =>
        if [40, 46, 47, 49, 50].contains d || bit keep d then s else s.setDomStat d 0) s
      let s := [0, 1].foldl (fun s p => s.setRn (rHi (0x10 * p)) 0) s
      let s := if t.sealless then s else (s.sramRead 5 0 0 0x800000).1
      { s.setFld (rJr 0) 2 0 2 with twilight := some { t with programming := true } }

/-- No seal. -/
def noSeal (_ : Nat) : Option Seal := none

/-! ### What follows (R394, R477, R504) -/

/-- Dawn begins at BOOT: the beat runs from the internal oscillator and the external one is measured (R479). -/
def Block.startDawn (s : Block) : Block :=
  let s := (s.setFld (rMc 0x10) 3 0 1).setFld (rJr 0) 2 0 4
  let s := { s.setFld (rEv 0) 2 0 0 with
    life := .dawn, dawnAt := s.cycle, stringsTested := [], replayed := false, found := none, heldBack := [] }
  s.onBeat (fun b => { b with rearm := 1, edges := 0 })

/-- A Dawn of a KIND is due: it begins, or waits in QUALIFY while MRST# is asserted (R504). -/
def Block.dueDawn (s : Block) (kind : Nat) : Block :=
  let s := { (s.setFld (rMc 0x10) 3 0 0).setFld (rMc 0x10) 6 4 kind with life := .dawn }
  if s.mrstHeld then s else s.startDawn

/-- Night (R394): the always-on domain runs from the cell, if one is fitted. -/
def Block.enterNight (s : Block) : Block :=
  let s := { s with supplyOk := false }
  if s.cell then { s with life := .night } else { s.loseAlwaysOn with life := .dark }

/-- `SEAL_COMMIT` (R391, R394, R418): the commit record is written. Dawn follows if the supply has stood at 40 V for 1
ms, and Night otherwise (DESIGN CHOICE, log entry 112). -/
def execSealCommit (supplyGood : Bool) (duration : BitVec 16) (energy : BitVec 12) (st : State) :
    Host.Outcome State Fault Refusal := st.act fun s =>
  .next <| match s.twilight with
  | none => s
  | some t =>
    if s.life ≠ .twilight ∨ t.programming = false then s
    else
      let s := match s.sealing with
        | none => s
        | some x =>
          let s := s.setRn (rJr 0x20) (x.length % 2 ^ 32 + duration.toNat <<< 32 + (x.cause % 16) <<< 48 +
            energy.toNat <<< 52)
          { s with seals := s.seals.set noSeal (s.fld (rJr 0) 4 4) (some x.committed) }
      let mask := if supplyGood then s.intactMask t.reset else 0
      let s := s.powerLoss mask (t.reset == some 3 && supplyGood)
      let s := { s with twilight := none, sealing := none, intact := mask }
      if supplyGood then { s with supplyOk := true }.dueDawn (t.reset.getD 1) else s.enterNight

/-- `SUPPLY_QUALIFIED` (R477): 40 V for 1 ms. -/
def execSupplyQualified (st : State) : Host.Outcome State Fault Refusal := st.act fun s =>
  .next <| if s.life = .night then { s with supplyOk := true, intact := 0 }.dueDawn 0
  else if s.life = .dark then { s with supplyOk := true, intact := 0, rtcAt := s.cycle }.dueDawn 0
  else if s.life = .dawn ∧ s.fld (rMc 0x10) 3 0 = 0 then { s with supplyOk := true }.dueDawn (s.fld (rMc 0x10) 6 4)
  else s

/-- Dawn restarts at BOOT and KIND keeps its value (R486). -/
def Block.restartDawn (s : Block) : Block :=
  let mask := if s.reissued then 0 else s.intact
  { s.powerLoss mask (s.fld (rMc 0x10) 6 4 == 3) with intact := mask }.startDawn

/-- `MRST` (R504): asserted for so many microseconds so far. Below 10 it is ignored; from 20 on it always acts;
between the two the spec leaves it open (DESIGN CHOICE, log entry 79). -/
def execMrst (microseconds : Nat) (st : State) : Host.Outcome State Fault Refusal := st.act fun s =>
  let (x, t) := s.draw
  let (acts, s) := if microseconds < 10 then (false, s) else if 20 ≤ microseconds then (true, s) else (x % 2 == 1, t)
  .next <| if !acts || s.life == .night || s.life == .dark then s
  else
    let s := { s with mrstHeld := true }
    if s.life = .service then s.beginReset 2
    else if s.life = .dawn ∧ s.fld (rMc 0x10) 3 0 ≠ 0 ∧ s.fld (rMc 0x10) 3 0 ≠ 10 then s.restartDawn
    else s

/-- `MRST_RELEASE` (R504): a Dawn that waits for it begins. -/
def execMrstRelease (st : State) : Host.Outcome State Fault Refusal := st.act fun s =>
  let s := { s with mrstHeld := false }
  .next (if s.life = .dawn ∧ s.fld (rMc 0x10) 3 0 = 0 ∧ s.supplyOk then s.startDawn else s)

/-- `ALWAYS_ON_POWER_LOSS` (R404): in Night the cell fails or is removed. -/
def execAlwaysOnPowerLoss (st : State) : Host.Outcome State Fault Refusal := st.act fun s =>
  .next (if s.life = .night then { s.loseAlwaysOn with life := .dark, cell := false } else s)

/-- `BACKUP_CELL_FITTED` (R29, R508): the always-on domain of a module without supply runs from then on. -/
def execBackupCellFitted (st : State) : Host.Outcome State Fault Refusal := st.act fun s =>
  .next (if s.life = .dark then { s with cell := true, life := .night, rtcAt := s.cycle } else { s with cell := true })

end Sys2Proof.Machine
end

