-- ==== Sys2Proof/Machine/Dawn.lean ====
section
/-!
DEFINITION. Dawn: its steps, self-test, replay and commit, with the seal-area erase and the hold-up test (18_dawn.md;
14_integrity_and_recovery.md, R395-R401, R404).
-/
namespace Sys2Proof.Machine

/-! ### Steps (R478) -/

/-- The step of Dawn in progress; 0 outside Dawn. -/
def Block.dawnStep (s : Block) : Nat := if s.life == .dawn then s.fld (rMc 0x10) 3 0 else 0

/-- MC.DAWNSTAT.STEP set. -/
def Block.setStep (s : Block) (n : Nat) : Block := s.setFld (rMc 0x10) 3 0 n

/-- The work of step n, which ends in the next step; nothing in any other. -/
def Block.inStep (s : Block) (n : Nat) (f : Block → Block) : Block := if s.dawnStep = n then f s else s

/-- FW_FAIL: Dawn goes no further, and both ports come on (R480). -/
def Block.failFirmware (s : Block) : Block := ((s.setDomStat 44 1).setDomStat 45 1).setStep 10

/-- Version in copy c of image i. -/
def Block.fwCopy (s : Block) (i c : Nat) : Nat := s.fwCopies.get noVersion (2 * i + c)

/-- The copy of image i that Dawn tries first: the later one, A where both hold the same (R480, R493) (DEDUCED, log
entry 81). -/
def Block.fwFirst (s : Block) (i : Nat) : Nat := if s.fwCopy i 0 < s.fwCopy i 1 then 1 else 0

/-- Copy c of image i started. -/
def Block.startFw (s : Block) (i c : Nat) : Block :=
  { s with fwStarted := s.fwStarted.set noVersion i c, fwRun := s.fwRun.set noVersion i (s.fwCopy i c) }

/-- `DAWN_BOOT` (R478, R480): whether each copy of the MC firmware passes. -/
def execDawnBoot (mcCopyA : Bool) (mcCopyB : Bool) (st : State) : Host.Outcome State Fault Refusal := st.act fun s =>
  .next (s.inStep 1 (fun s =>
    let s := [40, 46, 47, 48, 49, 50].foldl (fun s d => s.setDomStat d 1) s
    let s := { s with orderEvents := [], stringEnergy := [] }
    let pass := fun c : Nat => if c = 0 then mcCopyA else mcCopyB
    let c := if pass (s.fwFirst 0) then s.fwFirst 0 else 1 - s.fwFirst 0
    if pass c then (((s.startFw 0 c).setFld (rMc 0x10) 7 7 c).setStep 2) else s.failFirmware))

/-- The complete seal in an area, if there is one (R391). -/
def Block.sealIn (s : Block) (a : Nat) : Option Seal := (s.seals.get noSeal a).filter Seal.complete

/-- The area of the last complete seal, if there is one. -/
def Block.lastArea (s : Block) : Option Nat :=
  match s.sealIn 0, s.sealIn 1 with
  | some a, some b => some (if a.session < b.session then 1 else 0)
  | some _, none => some 0
  | none, some _ => some 1
  | none, none => none

/-- The complete seal that belongs to the session just ended (R395 step 1). -/
def Block.ownSeal (s : Block) : Option Seal :=
  [0, 1].foldl (fun f a => match s.sealIn a with
    | some x => if x.session = s.rn (rJr 0x90) then some x else f
    | none => f) none

/-- The saved standing-order table loaded, or all orders disabled (R480, R488) (DEDUCED, log entry 80). -/
def Block.loadOrders (s : Block) (ok : Bool) : Block :=
  let s := (List.range 128).foldl (fun s i =>
    s.setReg (rSo (0x100 + 4 * i)) (if ok then s.norOrders.get noWordAt i else 0#64)) s
  let s := s.setRn (rSo 0) (b2n (ok && s.norArm))
  if ok then s else s.logOpen 0x81 0

/-- `DAWN_SECURE` (R478, R480, R391): whether some copy of each further image, the configuration and the order table
pass. -/
def execDawnSecure (firmware : Bool) (config : Bool) (table : Bool) (st : State) : Host.Outcome State Fault Refusal := st.act fun s =>
  .next (s.inStep 2 (fun s =>
    if !firmware || !config then s.failFirmware
    else
      let s := [1, 2, 3].foldl (fun s i => s.startFw i (s.fwFirst i)) s
      let s := (s.setFld (rMc 0x24) 4 4 0).loadOrders table
      let area := match s.lastArea with
        | some a => 1 - a
        | none => 0
      let s := (s.setFld (rJr 0) 4 4 area).setFld (rJr 0) 3 3 0
      { s with found := s.ownSeal }.setStep 3))

/-- An alarm-ring entry (R403). -/
def Alarm.bytes (x : Alarm) : Nat := x.ticks % 2 ^ 48 + (x.source % 256) <<< 48 + (x.reading % 256) <<< 56

/-- `DAWN_ALARM` (R404). -/
def execDawnAlarm (st : State) : Host.Outcome State Fault Refusal := st.act fun s =>
  .next (s.inStep 3 (fun s =>
    let ring := s.alarms
    let s := ring.foldl (fun s x => s.logEvent 0x70 0 x.bytes) s
    let s := ring.foldl (fun s x => s.orReg (rAl 0) (2 ^ (2 + x.source))) s
    let s := if ring.any (fun x => x.source == 1) then s.orReg (rAl 0) 4 else s
    let s := { s.setFld (rAl 0) 14 7 ring.length with alarms := [] }
    let s := if s.aonLost then
        { ((s.orReg (rAl 0) 1).setFld (rAl 0) 1 1 0).logEvent 0x71 0 0 with timeBase := s.dawnAt, aonLost := false }
      else s
    s.setStep 4))

/-! ### Power and delay (R481, R491) -/

/-- Domains that step BOOT has on whatever the profile says. -/
def bootDomains : List Nat := [40, 46, 47, 48, 49, 50]

/-- Whether the power profile turns domain d on: the module's first one all but the MTX domains (R377, PRESUMED, log entry 5). -/
def Block.profiled (s : Block) (d : Nat) : Bool :=
  bootDomains.contains d ||
    (if s.norVersion = 0 then !(decide (8 ≤ d) && decide (d < 16)) else (Config.powerProfile s.norVersion).getLsbD d)

/-- A domain comes on in step POWER; a pillar pair enters DELAY. -/
def Block.domBoot (s : Block) (d : Nat) : Block :=
  let s := s.setDomStat d 1
  if d < 8 then s.setFld (rC d 4) 1 0 3
  else if 67 ≤ d ∧ s.domOn (d - 16) then s.setFld (rP (d - 67) 0) 2 0 1
  else s

/-- `DAWN_POWER` (R481, R316). -/
def execDawnPower (st : State) : Host.Outcome State Fault Refusal := st.act fun s =>
  .next (s.inStep 4 (fun s =>
    let s := (List.range 3).foldl (fun s i =>
      s.setRn (rEv (0x100 + 4 * i)) ((List.range 32).foldl (fun n k =>
        if 32 * i + k < 83 ∧ s.profiled (32 * i + k) then n + 2 ^ k else n) 0)) s
    let s := (List.range 83).foldl (fun s d =>
      if s.profiled d then (if s.domOn d then s else s.domBoot d)
      else if s.domOn d then (s.setDomStat d 0).loseDomain d else s) s
    { s with bifurcated := bit (s.rn (rHi 0x20)) 0 }.setStep 5))

/-- A pending clear of pillar p takes effect (R491). -/
def Block.applyClear (s : Block) (p : Nat) : Block :=
  let s := { s with spareMap := s.spareMap.set noSpare p none, clrPend := s.clrPend.filter (fun x => x != p) }
  let s := (s.setFld (rMc 0x30) p p 0).setFld (rMc 0x30) (16 + p) (16 + p) 0
  if bit s.intact (51 + p) then
    { s.setFld (rP p 0) 2 0 1 with intact := s.intact - 2 ^ (51 + p) - (if bit s.intact (67 + p) then 2 ^ (67 + p) else 0) }
  else s

/-- `DAWN_DELAY` (R481, R304, R305): the dies' answers, pillar by pillar. -/
def execDawnDelay (answers : List (List DieAnswer)) (st : State) : Host.Outcome State Fault Refusal := st.act fun s =>
  if answers.length ≠ 16 ∨ answers.any (fun a => a.length != 17) = true then .fault (.illFormed "answers of the pillars")
  else .next (s.inStep 5 (fun s =>
    let s := s.clrPend.foldl Block.applyClear s
    let s := (List.range 16).foldl (fun s p =>
      if s.domOn (51 + p) && s.domOn (67 + p) && s.fld (rP p 0) 2 0 == 1 then
        (s.programDelays p).bringPillar p ((answers[p]?).getD [])
      else s) s
    s.setStep 6))

/-! ### Self-test (R482-R484) -/

/-- Dies that run self-test, as 17p + d: those of pillars in SERVICE that are not ABSENT. -/
def Block.testDies (s : Block) : List Nat :=
  (List.range (16 * 17)).filter (fun k => s.domOn (51 + k / 17) && s.fld (rP (k / 17) 0) 2 0 == 3 &&
    s.dieState (k / 17) (k % 17) != 1)

/-- A die is made ready and tested: its device area zeroed unless its pillar was intact, its self-test rows holding the
die's pattern, which the spec does not give (R482, R483). -/
def Block.testDie (s : Block) (k : Nat) : Block :=
  let p := k / 17
  let d := k % 17
  let (g, s) := s.newGen
  let s := if bit s.intact (51 + p) then s else s.fillZone p d 1 .zeros
  s.fillZone p d 2 (.undef g)

/-- A bank's failing self-test noted. -/
def Block.noteFail (s : Block) (x : Nat × BitVec 4) : Block :=
  (s.mapBlu x.1 (fun u => { u with tested := true, passed := false, firstFail := x.2.toNat })).bump32
    (rP (x.1 / 256 / 17) 0xC30) 1

/-- What a BLU holds of the last self-test dropped. -/
def Blu.untest (u : Blu) : Blu := { u with tested := false, passed := false, firstFail := 0 }

/-- The DIE event of a die with failing banks: R522 names no cause for it, so that its cause is a free one of the six
(DESIGN CHOICE, log entry 21). -/
def Block.testEvent (s : Block) (p d : Nat) : Block :=
  let (x, s) := s.draw
  s.logEvent 0x20 (unitDie p d) (s.dieBody p d (x % 6 + 1) 0#64)

/-- Self-test of the BLUs (R484): the failing banks with their first failing tests. -/
def Block.testBlus (s : Block) (failing : List (Nat × BitVec 4)) : Block :=
  let dies := s.testDies
  let s := dies.foldl Block.testDie s
  let s := { s with
    blus := (s.blus.map (fun x => (x.1, x.2.untest))).filter (fun x => decide (x.2 ≠ {})), testedDies := dies }
  let s := (List.range 16).foldl (fun s p => if s.pillarOn p then s.setRn (rP p 0xC30) 0 else s) s
  let failing := failing.filter (fun x => dies.contains (x.1 / 256))
  let s := failing.foldl Block.noteFail s
  dies.foldl (fun s k =>
    if failing.any (fun x => x.1 / 256 == k) then s.testEvent (k / 17) (k % 17) else s) s

/-- A domain left off by self-test. -/
def Block.leaveOff (s : Block) (d : Nat) : Block :=
  ((s.setFld (rEv (0x100 + 4 * (d / 32))) (d % 32) (d % 32) 0).setDomStat d 0).loseDomain d

/-- Self-test of the hub (R484): the cores and sequencers that passed, of those that are on (DESIGN CHOICE, log entry
89). -/
def Block.testHub (s : Block) (cores seqs : Nat) (ledger : Bool) : Block :=
  let badC := (List.range 8).filter (fun c => s.domOn c && !(bit cores c))
  let badQ := (List.range 16).filter (fun q => s.domOn (24 + q) && !(bit seqs q))
  let s := badC.foldl (fun s c => ((((s.leaveOff (8 + c)).leaveOff (16 + c)).leaveOff c).failPart (.core c))) s
  let s := badQ.foldl (fun s q => (s.leaveOff (24 + q)).failPart (.seq q)) s
  let s := (List.range 8).foldl (fun s c => s.setFld (rMc 0x40) (2 + c) (2 + c) (b2n (s.domOn c))) s
  let s := (List.range 16).foldl (fun s q => s.setFld (rMc 0x40) (10 + q) (10 + q) (b2n (s.domOn (24 + q)))) s
  s.setFld (rMc 0x40) 44 44 (b2n ledger)

/-- `DAWN_TEST` (R482-R484). -/
def execDawnTest (failing : List (Nat × BitVec 4)) (cores : BitVec 8) (seqs : BitVec 16) (ledger : Bool) (st : State) :
    Host.Outcome State Fault Refusal := st.act fun s =>
  if failing.any (fun x => decide (4 < x.2.toNat)) then .fault (.illFormed "self-test code")
  else .next (s.inStep 6 (fun s =>
    (((s.testBlus failing).testHub cores.toNat seqs.toNat ledger).setStep 7).setFld (rJr 0) 2 0 3))

/-! ### Eligibility (R397) -/

/-- What an entry's place in memory needs: domains, or nothing that can be intact. -/
abbrev Need := Option (List Nat)

/-- Ledger quarters of the bytes [a, e). -/
def quarters (a e : Nat) : List Nat :=
  ((List.range 4).filter (fun i => decide (a < (i + 1) * 0x800000) && decide (i * 0x800000 < e))).map (40 + ·)

/-- Domains of the memory a descriptor names; none for host memory and peers (DEDUCED, log entry 86). -/
def descNeed (d : Nat) : Need :=
  match dSpace d with
  | 0 => some [16 + dCore d]
  | 1 => some ((maskList (dPillars d) 16).map (51 + ·))
  | 2 => some (quarters (dBase d) (linEnd d))
  | _ => none

/-- What an entry needs beside its descriptors. -/
def Entry.baseNeed (en : Entry) (c e : Nat) : Need :=
  match e with
  | 0 => some (if en.opcode = 0x20 ∨ en.opcode = 0x21 ∨ en.opcode = 0x30 then [16 + c] else [])
  | 6 => if en.opcode = 0x04 then none else some []
  | _ =>
    if (e = 4 ∨ e = 5) ∧ en.opcode = 0x03 then
      (if en.f0 37 36 = 3 then none
       else some ([16 + c] ++ quarters (en.f1 51 0) (en.f1 51 0 + en.f0 53 38 * en.f3 24 0 + en.f2 43 26 + 1)))
    else some [16 + c]

/-- Whether domains are all intact. -/
def needMet (mask : Nat) : Need → Bool
  | none => false
  | some ds => ds.all (fun d => bit mask d)

/-- Whether an entry of core c is eligible for re-issue (R397). -/
def Block.eligible (s : Block) (c e : Nat) (en : Entry) : Bool :=
  let (must, may) := en.handles e
  let named := (must ++ may.filter (fun h => h != 0)).map (fun h => s.desc? c h)
  let known := named.filterMap (fun d => d.map BitVec.toNat)
  let base := en.baseNeed c e
  base.isSome && known.all (fun d => (descNeed d).isSome) &&
    (named.any Option.isNone || (needMet s.intact base && known.all (fun d => needMet s.intact (descNeed d))))

/-! ### Verdicts (R398, R399) -/

/-- A completed item. -/
def Item.over (i : Item) : Item := { i with phase := .complete, outstanding := 0, placing := false }

/-- Whether the Ledger memory of an item's result slot is intact. -/
def Block.slotIntact (s : Block) (r : Nat) (k : Word) : Bool :=
  let a := s.rn (rRing r 0x20) + k.toNat % max 1 (s.rcount r) * s.rsize r
  (quarters a (a + max 1 (s.rsize r))).all (fun d => bit s.intact d)

/-- The verdict on an item that was complete. -/
def Block.judgeDone (s : Block) (i : Item) : Item :=
  if i.faulted then i
  else match i.slotK with
  | none => i
  | some k =>
    let r := i.ring.val
    let keep := if s.ringPath r = 2 then i.pathd else s.slotIntact r k
    if keep then i else { i with voided := true }

/-- The slots of a bundle that have not completed, with their engines. -/
def Item.open_ (i : Item) : List (Nat × Nat) :=
  (slotQueues i.lines (hdr i.line0 41 36)).filter (fun q => !(i.done.getLsbD q.1))

/-- The entry of slot j as it is re-issued: with GRANTED = 1 it does not wait again (R399) (DEDUCED, log entry 82). -/
def Item.again (i : Item) (j : Nat) : Entry :=
  let g := i.granted.getLsbD j
  { mkEntry i i.lines j false 0 0 with got1 := g, got2 := g }

/-- What WAITTO and FLTCTL hold during replay (R485, R399); an unlisted value held back is the same. -/
def heldWord (a : Nat) : DWord :=
  if a = rJr 0x3C then 0#64 else if a % 0x10000 = 8 then 1#64 else 1000#64

/-- Every open entry of a bundle placed again in its original lane (R399), counted (DEDUCED, log entry 84). -/
def Block.reissue (s : Block) (i : Item) : Block :=
  let l := if i.ring.val = 8 then 1 else 0
  let qs := i.open_
  let s := qs.foldl (fun s q =>
    let k := qKey i.core.val q.2 l
    s.setQueue k (s.queue k ++ [i.again q.1])) s
  let s := s.mapItem i.id (fun it => Item.settle { it with phase := .dispatched, outstanding := qs.length, placing := false })
  { s with
    reissued := s.reissued || !qs.isEmpty
    heldBack := s.heldBack.set heldWord (rJr 0x3C) (s.heldBack.get heldWord (rJr 0x3C) + BitVec.ofNat 64 qs.length) }

/-- The verdict on an incomplete bundle: FAULTED, VOIDED, or its open entries re-issued; an undispatched one is first
checked as at dispatch (DEDUCED, log entry 88). -/
def Block.judgeBundle (s : Block) (i : Item) : Block :=
  let m := hdr i.line0 41 36
  let fresh := i.phase == .accepted
  let l := if i.ring.val = 8 then 1 else 0
  if i.faulted then s.mapItem i.id Item.over
  else match (if fresh then itemCheck i.lines m 6 else none) with
  | some (j, q, f) => ((s.swapIf i.core.val i).dispatchFault i (i.site l q j false 0 0) f).mapItem i.id Item.over
  | none =>
    if i.open_.all (fun q => s.eligible i.core.val q.2 (i.again q.1)) then
      (if fresh then s.swapIf i.core.val i else s).reissue i
    else s.mapItem i.id (fun it => { it.over with voided := true })

/-- The verdict on one item (R398). -/
def Block.judge (s : Block) (i : Item) : Block :=
  let l := if i.ring.val = 8 then 1 else 0
  let s := s.freeItem i
  let i := { i with freed := true }
  if i.phase = .complete then s.mapItem i.id (fun _ => s.judgeDone i)
  else match i.kind with
  | .bundle => s.judgeBundle i
  | .loopCall => s.mapItem i.id (fun it => { it.over with voided := !it.faulted })
  | k =>
    let s := if i.phase = .accepted then
        (let s := s.swapIf i.core.val i
         match itemLevelBit i.line0 0 with
         | some b => s.dispatchFault i (i.site l 7 6 false 0 0) (0x02, b)
         | none => s)
      else s
    if k = .fence then
      (s.mapItem i.id (fun it => { it with phase := .dispatched })).onRing i.ring.val (fun q =>
        { q with fence := some (q.fence.getD i.id) })
    else s.mapItem i.id Item.over

/-! ### Restoring the seal (R395 steps 2-4) -/

/-- A value of a sealed register as it comes back: of LMSTAT only ACTIVE, VALID_A and VALID_B (R390). -/
def sealedValue (a : Nat) (v : DWord) : DWord :=
  if 0x100000 ≤ a ∧ a < 0x180000 ∧ a % 0x10000 = 0x84 then v &&& 7#64 else v

/-- Sealed registers restored; those of the event log where the night left a gap. -/
def Block.restoreRegs (s : Block) (t : Tab DWord) : Block :=
  let gap := bit (s.rn (rAl 0)) 0
  let take := fun a => sealedReg a || (gap && evlogReg a)
  let s := { s with regs := s.regs.filter (fun x => !(take x.1)) }
  t.foldl (fun s x => if take x.1 then s.setReg x.1 (sealedValue x.1 x.2) else s) s

/-- Descriptor entries validated again (R61). -/
def Block.revalidate (s : Block) : Block :=
  s.descs.foldl (fun s x => match x.2 with
    | none => s
    | some d =>
      let c := x.1 / 512
      let h := x.1 % 512
      let r := s.descReason c h d.toNat
      if r = 0 then s
      else (s.setDesc c h none).logEvent 0xA0 (unitCore c) (c + h <<< 16 + r <<< 32)) s

/-- WAITTO and FLTCTL of every core held back until COMMIT: waits end within a millisecond and cores continue after
faults meanwhile (R485, R399). -/
def Block.holdBack (s : Block) : Block :=
  (List.range 8).foldl (fun s c =>
    [0x2300, 0x2304, 8].foldl (fun s o =>
      { s.setReg (rC c o) (heldWord (rC c o)) with heldBack := s.heldBack.set heldWord (rC c o) (s.reg (rC c o)) }) s) s

/-- A partition that was ATTACHED or PENDING becomes ORPHANED, with its token (R395 step 4). -/
def Block.orphanAtDawn (s : Block) (k : Nat) : Block := if s.attState k % 2 = 1 then s.setAttState k 2 else s

/-- Cores of BOUND partitions run (DEDUCED, log entry 83). -/
def Block.runBound (s : Block) : Block :=
  (List.range 8).foldl (fun s c => match s.coreOwner c with
    | some k => if s.partState k = 1 ∧ s.domOn c then s.setFld (rC c 4) 1 0 0 else s
    | none => s) s

/-- Rings without the FENCE items they held. -/
def restingRings (t : Tab RingSt) : Tab RingSt :=
  t.foldl (fun t q => Tab.set idleRing t q.1 { q.2 with fence := none }) []

/-- The journal restored from a seal (R395 steps 2 to 4) (DEDUCED, log entry 85). -/
def Block.restore (s : Block) (x : Sealed) : Block :=
  let s := if bit (s.rn (rAl 0)) 0 then { s with evlog := x.evlog } else s
  let s := s.restoreRegs x.regs
  let s := { s with
    lines := x.lines, rings := restingRings x.rings, items := x.items
    descs := x.descs, loopMem := x.loopMem, baselines := x.baselines, attach := x.attach
    ledger := x.places.foldl (fun (t : Tab Byte) (b : Nat × Byte) => t.set byteZero b.1 b.2) s.ledger }
  let s := (s.runBound).revalidate
  let s := (List.range 8).foldl Block.orphanAtDawn s
  (List.finRange 9).foldl (fun s r => if s.ringOpen r.val then s.settleRing r else s) s

/-- Every item in ring order (R399). -/
def Block.itemsByRing (s : Block) : List Item := (List.range 9).flatMap (fun r => s.ringItems r)

/-- No seal of the session just ended (R400, R485): FIRST or BROKEN, and the partitions that NOR records as BOUND come up
bound and DETACHED. -/
def Block.noJournal (s : Block) : Block :=
  let s := if s.rn (rJr 0x90) = 0 then s.setRn (rJr 0x28) 1
    else ((s.setRn (rJr 0x28) 2).orReg (rJr 8) 0x300).journalEvent
  (List.range 8).foldl (fun s k =>
    if s.partState k = 1 then
      (((s.partCores k).foldl Block.bindCore s).setRn (rHi (0x500 + 4 * k)) 0)
    else s) s

/-- `DAWN_REPLAY` (R395 steps 1 to 6, R397-R400, R485): the journal is restored, every item has its verdict, and the
entries to be re-issued stand in their lanes. -/
def execDawnReplay (st : State) : Host.Outcome State Fault Refusal := st.act fun s =>
  .next (s.inStep 7 (fun s =>
    if s.replayed then s
    else
      let s := match s.found with
        | none => s.noJournal.holdBack
        | some x =>
          let s := (s.restore x.body).holdBack
          s.itemsByRing.foldl Block.judge s
      { s with replayed := true }))

/-! ### Commit (R487, R395 step 7) -/

/-- FENCE items whose orders are met complete, oldest first (R164). -/
def Block.endFences (s : Block) : Block :=
  s.items.foldl (fun s i =>
    if i.kind = .fence ∧ s.fenceDone i then
      (s.mapItem i.id (fun it => { it with phase := .complete })).onRing i.ring.val (fun q => { q with fence := none })
    else s) s

/-- Items of a status. -/
def Block.statusCount (s : Block) (n : Nat) : Nat := (s.items.filter (fun i => i.status == n)).length

/-- Whether replay has ended: no entry left, no item open but FENCE items. -/
def Block.replayOver (s : Block) : Bool :=
  s.replayed && s.queues.isEmpty && s.items.all (fun i => i.phase == .complete || i.kind == .fence)

/-- Step 7 of replay: records posted, counts, result and event. -/
def Block.endReplay (s : Block) : Block :=
  let s := s.endFences
  let n := s.items.length
  let cnt := [0, 1, 2].map s.statusCount
  let s := (List.range 9).foldl (fun s r => if s.ringOpen r then s.postAll r n else s) s
  let s := (cnt.zipIdx).foldl (fun s x => s.setRn (rJr (0x30 + 4 * x.2)) x.1) s
  s.journalEvent

/-- Dawn ends (R487, R370) (DEDUCED, log entry 113). -/
def Block.endDawn (s : Block) : Block :=
  let s := s.setRn (rMc 0x14) ((s.cycle - s.dawnAt) / 1500)
  let s := [0x20, 0x28, 0x30, 0x38, 0x1C].foldl (fun s o => s.setRn (rAl o) 0) s
  let s : Block := { s with
    life := .service, reissued := false, found := none, intact := 0, heldBack := []
    orderEvents := if bit (s.rn (rSo 0)) 0 then s.orderEvents else [] }
  let s : Block := (s.setStep 9).setFld (rJr 0) 2 0 0
  let s : Block := s.onBeat (fun b => { b with fresh := true, planned := false })
  if s.beat.rearm = 3 then s else s.loseBeat

/-- `DAWN_COMMIT` (R487): once SEAL_READY stands, the five strings are tested and replay is over. -/
def execDawnCommit (st : State) : Host.Outcome State Fault Refusal := st.act fun s =>
  .next (s.inStep 7 (fun s =>
    if !s.replayOver || s.fld (rJr 0) 3 3 == 0 || s.stringsTested.length != 5 then s
    else
      let s := if s.found.isSome then s.endReplay else s
      let s := s.setReg (rJr 0x90) (s.reg (rJr 0x90) + 1#64)
      let s := s.heldBack.foldl (fun s x => s.setReg x.1 x.2) s
      s.endDawn))

/-! ### The seal area and the hold-up bank (R391, R401) -/

/-- `SEAL_AREA_ERASED` (R391, R418). -/
def execSealAreaErased (st : State) : Host.Outcome State Fault Refusal := st.act fun s =>
  .next (if 3 ≤ s.dawnStep ∧ s.dawnStep ≤ 8 ∧ s.fld (rJr 0) 3 3 = 0 then
      let broken := s.rn (rJr 0x90) != 0 && s.found.isNone
      let s := { s.setFld (rJr 0) 3 3 1 with seals := s.seals.set noSeal (s.fld (rJr 0) 4 4) none }
      if broken then s else s.setFld (rJr 8) 1 1 1
    else s)

/-- Energies default. -/
def noEnergy (_ : Nat) : Nat := 0

/-- Number of ones among the low n bits. -/
def onesIn (x n : Nat) : Nat := ((List.range n).filter (fun i => bit x i)).length

/-- `HOLDUP_TEST` (R401, R386): one string's partial discharge, at Dawn and once an hour. `energy` is in 10 mJ. A bank
that the fifth test of a Dawn finds unhealthy lapses then (DEDUCED, log entry 90). -/
def execHoldupTest (string : Fin 5) (pass : Bool) (energy : BitVec 16) (st : State) :
    Host.Outcome State Fault Refusal := st.act fun s =>
  let i := string.val
  .next <| if !(s.life == .service || (decide (4 ≤ s.dawnStep) && decide (s.dawnStep ≤ 8))) then s
  else
    let was := bit (s.rn (rJr 0x18)) i
    let full := decide (s.stringsTested.length = 5)
    let s : Block := { s with
      stringsTested := if s.life == Life.dawn && !(s.stringsTested.contains i) then s.stringsTested ++ [i] else s.stringsTested
      stringEnergy := s.stringEnergy.set noEnergy i energy.toNat }
    let total := ((List.range 5).map (s.stringEnergy.get noEnergy)).foldl (· + ·) 0
    let s := (s.setFld (rJr 0x18) i i (b2n (!pass))).setFld (rJr 0x18) 21 6 (min total 0xFFFF)
    let healthy := decide (onesIn (s.rn (rJr 0x18)) 5 ≤ 1) && decide (1200 ≤ total)
    let s := s.setFld (rJr 0x18) 5 5 (b2n healthy)
    let s := if healthy then s.setFld (rJr 8) 0 0 1
      else if s.fld (rJr 8) 0 0 = 0 ∧ decide (s.stringsTested.length = 5) ∧ !full then s.lapsed
      else s.lapse 0
    if pass then s else if was then s.holdupEvent else s.holdupEvent.failPart (.string i)

end Sys2Proof.Machine
end

