-- ==== Sys2Proof/Machine/Plan.lean ====
section
/-!
DEFINITION. Plans: images, the commands of PLCTL, faults and settling (16_sequencer_cores.md, R461-R468).
-/
namespace Sys2Proof.Machine

/-! ### State of a plan -/

/-- PLSTAT.STATE: 0 IDLE, 1 LOADED, 2 RUNNING, 3 HALTED, 4 FAULTED, 5 STOPPED. -/
def Block.planState (s : Block) (q : Nat) : Nat := s.fld (rQ q 8) 2 0
/-- PLSTAT.STATE set. -/
def Block.setPlanState (s : Block) (q v : Nat) : Block := s.setFld (rQ q 8) 2 0 v
/-- PLSTAT.BUSY. -/
def Block.planBusy (s : Block) (q : Nat) : Bool := s.fld (rQ q 8) 3 3 == 1

/-- The open rings that sequencer q writes. -/
def Block.planRings (s : Block) (q : Nat) : List Nat :=
  (List.range 9).filter (fun r => s.ringOpen r && s.ringWriter r == 16 + q)

/-- Ledger stores in flight become visible (R449) (DESIGN CHOICE, log entry 96). -/
def Block.showStores (s : Block) (q : Nat) : Block :=
  { s with ledger := (s.seq q).stores.foldl (fun (t : Tab Byte) (b : Nat × Byte) => t.set byteZero b.1 b.2) s.ledger
           }.onSeq q (fun x => { x with stores := [] })

/-- A plan leaves RUNNING: stores in flight land, a WAITEV is abandoned, and its rings settle (R463, R449). -/
def Block.leaveRunning (s : Block) (q st : Nat) : Block :=
  let s := ((s.setPlanState q st).showStores q).onSeq q (fun x => { x with wait := none })
  (s.planRings q).foldl Block.settlePlanRing s

/-- A plan fault (R463, R467): FAULTED, FCODE and FDETAIL, with PC on the instruction. -/
def Block.planFault (s : Block) (q code detail : Nat) : Block :=
  let s := ((s.setFld (rQ q 8) 15 8 code).setRn (rQ q 0x18) (detail % 2 ^ 32)).leaveRunning q 4
  s.seqEvent q 6 code 0 0

/-! ### Starting (R451, R459, R464) -/

/-- Windows, PUTN, PC and the events of a plan that begins at an address. -/
def Block.beginPlan (s : Block) (q pc : Nat) : Block :=
  let s := (((s.setRn (rQ q 0x10) (1 <<< 11)).setRn (rQ q 0x14) 0x20000).setFld (rQ q 8) 16 16 0).setRn (rQ q 0xC) pc
  let s := (s.planRings q).foldl (fun s r =>
    (s.setRn (rPutn q r) (s.wpos r)).onSeq q (fun x => { x with
      seenHead := x.seenHead.set noneSeen r (s.rn (rRing r 0x14))
      seenCredit := x.seenCredit.set noneSeen r (s.rn (rRg r 0)) })) s
  s.setPlanState q 2

/-- START (R462). -/
def Block.planStart (s : Block) (q : Nat) : Block :=
  let s := (List.range 8).foldl (fun s g => s.setRn (rQ q (0x20 + 4 * g)) 0) s
  (s.beginPlan q (s.seq q).entry).seqEvent q 2 0 0 0

/-- RESTART (R462). -/
def Block.planRestart (s : Block) (q : Nat) : Block := (s.beginPlan q (s.seq q).restart).seqEvent q 3 0 0 0

/-- STOP at this instruction boundary (R462, R463). -/
def Block.planStop (s : Block) (q : Nat) : Block := (s.leaveRunning q 5).seqEvent q 5 0 0 0

/-- Plan memory and stack of zeros (R462). -/
def Block.wipePlan (s : Block) (q : Nat) : Block :=
  { s with
    planMem := s.planMem.dropRange (q * 32768) ((q + 1) * 32768)
    stackMem := s.stackMem.dropRange (q * 65536) ((q + 1) * 65536) }

/-- UNLOAD (R462). -/
def Block.planUnload (s : Block) (q : Nat) : Block := (s.wipePlan q).setPlanState q 0

/-! ### Refusals (R462) -/

/-- A command refused: REASON, and an event. -/
def Block.planRefuse (s : Block) (q reason : Nat) : Block :=
  (s.setFld (rQ q 8) 7 4 reason).seqEvent q 8 reason 0 0

/-- The sibling of a sequencer (R465). -/
def sibling (q : Nat) : Nat := q ^^^ 1

/-- States that accept a command, by its bit of PLCTL. -/
def planAccepts : Nat → List Nat
  | 0 => [0, 1, 3, 4, 5]
  | 1 => [1]
  | 2 => [1, 3, 4, 5]
  | 3 => [2]
  | 4 => [4, 5]
  | _ => [1, 3, 4, 5]

/-- Whether the sequencer's core is in no BOUND partition, or its SEQ domain is off. -/
def Block.planHomeless (s : Block) (q : Nat) : Bool :=
  !(s.domOn (24 + q)) || (match s.seqOwner q with
    | some k => s.partState k != 1
    | none => true)

/-- Whether the sibling cannot take a plan over. -/
def Block.siblingBad (s : Block) (q : Nat) : Bool :=
  let t := sibling q
  s.planState t != 0 || !(s.planRings t).isEmpty || !(s.domOn (24 + t))

/-- Whether n bytes from PLSRC lie in the partition's allocation. -/
def Block.imageInside (s : Block) (q n : Nat) : Bool :=
  match s.seqOwner q with
  | some k => s.inLedAlloc k (s.rn (rQ q 4)) n
  | none => false

/-- Why the command of bit b is refused when it is written, 0 where it is not; a LOAD's image is judged when it is
read. -/
def Block.planReason (s : Block) (q b : Nat) : Nat :=
  if s.planBusy q || !((planAccepts b).contains (s.planState q)) then 1
  else if b = 0 ∧ (s.rn (rQ q 4) % 64 ≠ 0 ∨ s.imageInside q 64 = false) then 2
  else if s.planHomeless q then 5
  else if b = 4 ∧ s.siblingBad q = true then 6
  else 0

/-- A command of PLCTL. -/
def Block.planCommand (s : Block) (q b : Nat) : Block :=
  let r := s.planReason q b
  if r ≠ 0 then s.planRefuse q r
  else match b with
  | 0 => (s.setFld (rQ q 8) 3 3 1).onSeq q (fun x => { x with job := some .loading })
  | 1 => s.planStart q
  | 2 => s.planRestart q
  | 3 => s.planStop q
  | 4 => (s.setFld (rQ q 8) 3 3 1).onSeq q (fun x => { x with job := some .moving })
  | _ => s.planUnload q

/-- The write of PLCTL: more than one command is refused (R466). -/
def Block.writePlctl (s : Block) (q v : Nat) : Option Block :=
  match (List.range 6).filter (fun b => bit v b) with
  | [] => some s
  | [b] => some (s.planCommand q b)
  | _ => none

/-! ### Images (R461) -/

/-- Field of n bytes at offset o of an image. -/
def imageField (im : List Byte) (o n : Nat) : Nat := ofBytes ((im.drop o).take n)

/-- Whether the header is wrong: MAGIC, VERSION, a length, an address or a reserved byte (REASON 0x3). -/
def headerBad (im : List Byte) : Bool :=
  let code := imageField im 8 4
  let entry := imageField im 12 4
  let restart := imageField im 16 4
  let splim := imageField im 20 4
  let data := imageField im 24 4
  imageField im 0 4 != 0x504C4E31 || imageField im 4 2 != 1 || imageField im 6 2 != 0 ||
    decide (code < 4) || decide (32768 < code) || code % 4 != 0 || entry % 4 != 0 || decide (code ≤ entry) ||
    restart % 4 != 0 || decide (code ≤ restart) || decide (splim < 0x10000) || decide (0x1FFC0 < splim) ||
    splim % 64 != 0 || decide (splim < 0x10000 + data) || imageField im 28 32 != 0

/-- Whether PCHK is wrong (REASON 0x4). -/
def pchkBad (im : List Byte) : Bool :=
  let body := (im.drop 64).take (imageField im 8 4 + imageField im 24 4)
  imageField im 60 4 != (crc32c (im.take 60 ++ body)).toNat

/-- Why the image at PLSRC does not load, 0 where it does. -/
def Block.imageReason (s : Block) (q : Nat) : Nat :=
  let a := s.rn (rQ q 4)
  let h := s.ledRead a 64
  let n := 64 + imageField h 8 4 + imageField h 24 4
  if a % 64 ≠ 0 ∨ s.imageInside q n = false then 2
  else if headerBad h then 3
  else if pchkBad (s.ledRead a n) then 4
  else if s.planHomeless q then 5
  else 0

/-- An image written to plan memory and stack, measured, and LOADED (R462, R432). -/
def Block.loadImage (s : Block) (q : Nat) : Block :=
  let a := s.rn (rQ q 4)
  let h := s.ledRead a 64
  let code := imageField h 8 4
  let data := imageField h 24 4
  let im := s.ledRead a (64 + code + data)
  let digest := Config.sha384 im
  let s := s.wipePlan q
  let s := { s with
    planMem := writeBytes s.planMem (q * 32768) ((im.drop 64).take code)
    stackMem := writeBytes s.stackMem (q * 65536) ((im.drop (64 + code)).take data) }
  let s := s.onSeq q (fun x => { x with
    entry := imageField h 12 4, restart := imageField h 16 4, splim := imageField h 20 4, codelen := code
    digest := digest })
  let s := match s.seqOwner q with
    | some k => s.measure k 1 q 0 digest
    | none => s
  (s.setPlanState q 1).seqEvent q 1 0 0 0

/-- `PLAN_LOAD` (R462). -/
def execPlanLoad (req : Requester) (seq : SeqId) (st : State) : Host.Outcome State Fault Refusal := st.act fun s =>
  .next (s.guarded req (rQ seq.val 0) 1 (fun s => s.writePlctl seq.val 1))

/-- A plan command in progress ends. -/
def Block.endPlanJob (s : Block) (q : Nat) : Block :=
  (s.setFld (rQ q 8) 3 3 0).onSeq q (fun x => { x with job := none })

/-- `PLAN_LOAD_DONE` (R462): the image is read and checked; on failure nothing changes but REASON (DEDUCED, log entry
95) (DEDUCED, log entry 95). -/
def execPlanLoadDone (seq : SeqId) (st : State) : Host.Outcome State Fault Refusal := st.act fun s =>
  let q := seq.val
  .next (if (s.seq q).job = some .loading ∧ s.domOn (24 + q) = true ∧ s.life = .service then
      let s := s.endPlanJob q
      let r := s.imageReason q
      if r = 0 then s.loadImage q else s.planRefuse q r
    else s)

/-- `PLAN_START` (R462). -/
def execPlanStart (req : Requester) (seq : SeqId) (st : State) : Host.Outcome State Fault Refusal := st.act fun s =>
  .next (s.guarded req (rQ seq.val 0) 2 (fun s => s.writePlctl seq.val 2))

/-- `PLAN_RESTART` (R462). -/
def execPlanRestart (req : Requester) (seq : SeqId) (st : State) : Host.Outcome State Fault Refusal := st.act fun s =>
  .next (s.guarded req (rQ seq.val 0) 4 (fun s => s.writePlctl seq.val 4))

/-- `PLAN_STOP` (R462). -/
def execPlanStop (req : Requester) (seq : SeqId) (st : State) : Host.Outcome State Fault Refusal := st.act fun s =>
  .next (s.guarded req (rQ seq.val 0) 8 (fun s => s.writePlctl seq.val 8))

/-- `PLAN_MOVE` (R465). -/
def execPlanMove (req : Requester) (seq : SeqId) (st : State) : Host.Outcome State Fault Refusal := st.act fun s =>
  .next (s.guarded req (rQ seq.val 0) 16 (fun s => s.writePlctl seq.val 16))

/-- `PLAN_UNLOAD` (R462). -/
def execPlanUnload (req : Requester) (seq : SeqId) (st : State) : Host.Outcome State Fault Refusal := st.act fun s =>
  .next (s.guarded req (rQ seq.val 0) 32 (fun s => s.writePlctl seq.val 32))

/-! ### Moving (R465) -/

/-- The entries of a byte memory in [lo, lo + n) copied to hi on. -/
def copyBytes (t : Tab Byte) (lo hi n : Nat) : Tab Byte :=
  (t.filter (fun x => decide (lo ≤ x.1) && decide (x.1 < lo + n))).foldl
    (fun (u : Tab Byte) (x : Nat × Byte) => u.set byteZero (hi + (x.1 - lo)) x.2) (t.dropRange hi (hi + n))

/-- The plan of q copied to its sibling, its rings handed over, q IDLE with its memories zeroed, and the sibling
started at RESTART (DEDUCED, log entry 97). -/
def Block.movePlan (s : Block) (q : Nat) : Block :=
  let t := sibling q
  let s := { s with
    planMem := copyBytes s.planMem (q * 32768) (t * 32768) 32768
    stackMem := copyBytes s.stackMem (q * 65536) (t * 65536) 65536 }
  let s := (List.range 8).foldl (fun s g => s.setRn (rQ t (0x20 + 4 * g)) (s.rn (rQ q (0x20 + 4 * g)))) s
  let x := s.seq q
  let s := s.onSeq t (fun y => { y with
    entry := x.entry, restart := x.restart, splim := x.splim, codelen := x.codelen, digest := x.digest })
  let s := match s.seqOwner t with
    | some k => s.measure k 1 t 0 x.digest
    | none => s
  let s := (s.planRings q).foldl (fun s r =>
    (s.setFld (rRing r 0) 8 4 (16 + t)).setRn (rPutn t r) (s.rn (rPutn q r))) s
  let s := ((s.wipePlan q).setPlanState q 0).seqEvent q 7 0 0 t
  s.planRestart t

/-- `PLAN_MOVE_DONE` (R465): an uncorrectable word met while copying refuses the move (REASON 0x7). -/
def execPlanMoveDone (seq : SeqId) (st : State) : Host.Outcome State Fault Refusal := st.act fun s =>
  let q := seq.val
  .next (if (s.seq q).job = some .moving ∧ s.life = .service then
      let s := s.endPlanJob q
      match s.sramRead 6 q 0 65536 with
      | (s, some _) => s.planRefuse q 7
      | (s, none) => if s.siblingBad q then s.planRefuse q 6 else s.movePlan q
    else s)

end Sys2Proof.Machine
end

