-- ==== Sys2Proof/Machine/Orders.lean ====
section
/-!
DEFINITION. Alarms and the RTC, the standing-order table, the log's clear and firmware update
(14_integrity_and_recovery.md, R402-R411, R416, R419; 18_dawn.md, R491-R493; 19_electrical_and_mechanical.md, R505).
-/
namespace Sys2Proof.Machine

/-! ### Alarms (R402, R403, R505) -/

/-- A source at rest. -/
def quietSource (_ : Nat) : AlarmSource := {}

/-- Alarm source n. -/
def Block.source (s : Block) (n : Nat) : AlarmSource := s.sources.get quietSource n

/-- Whether the 48 V input is present. -/
def Block.supplied (s : Block) : Bool := s.life != .night && s.life != .dark

/-- AL.FIRST of a source that has asserted (R403). -/
def Block.noteFirst (s : Block) (n : Nat) : Block :=
  let a := rAl (0x18 + 8 * n)
  if bit (s.rn a) 63 then s else s.setRn a (s.rtcNow + 2 ^ 63)

/-- An entry written to the alarm ring; a full ring loses its oldest (R403). -/
def Block.pushAlarm (s : Block) (x : Alarm) : Block :=
  if s.alarms.length < 64 then { s with alarms := s.alarms ++ [x] }
  else { s.setRn (rAl 0x1C) (min 0xFFFF (s.rn (rAl 0x1C) + 1)) with alarms := s.alarms.drop 1 ++ [x] }

/-- An assertion: logged while the supply is present, else entered in the ring (R402); a tamper alarm is remembered. -/
def Block.assertAlarm (s : Block) (n reading : Nat) : Block :=
  let x : Alarm := { ticks := s.rtcNow, source := n, reading := reading }
  let s := s.noteFirst n
  if s.supplied then
    let s := if n = 1 then s.orReg (rAl 0) 4 else s
    s.logEvent 0x70 0 x.bytes
  else s.pushAlarm x

/-- A sample of source n (R402, R505): it asserts at the second of two asserted samples, once it has stood deasserted
for a second since it last latched, and cell low no sooner than a day after (DEDUCED, log entry 91). -/
def Block.sampleSource (s : Block) (n : Nat) (asserted : Bool) (reading : Nat) : Block :=
  let x := s.source n
  let rested := x.everOff || x.latched.isNone || decide (x.offSince + usCycles 1000000 ≤ s.cycle)
  let dayOver := n != 4 || (match x.latched with
    | none => true
    | some t => decide (t + usCycles 86400000000 ≤ s.cycle))
  let put := fun (s : Block) (x : AlarmSource) => { s with sources := s.sources.set quietSource n x }
  if !asserted then
    put s { x with last := false, on := false, offSince := if x.last then s.cycle else x.offSince }
  else if !x.last then put s { x with last := true, everOff := rested }
  else if !x.on && x.everOff && dayOver then
    (put s { x with on := true, everOff := false, latched := some s.cycle }).assertAlarm n reading
  else s

/-- `ALARM_SAMPLE` (R505): tamper is source 1 and leak source 2. -/
def execAlarmSample (tamper : Bool) (leak : Bool) (st : State) : Host.Outcome State Fault Refusal := st.act fun s =>
  .next (if s.life = .dark then s else (s.sampleSource 1 tamper 0).sampleSource 2 leak 0)

/-- `CELL_MEASURE` (R505, R402): temperature is source 3 and voltage source 4. -/
def execCellMeasure (millivolts : BitVec 12) (celsius : BitVec 8) (st : State) : Host.Outcome State Fault Refusal := st.act fun s =>
  let t := celsius.toInt
  let mv := millivolts.toNat
  .next (if s.life = .dark then s
    else
      let s := s.setRn (rAl 0x18) (mv + celsius.toNat <<< 12)
      (s.sampleSource 3 (decide (t < -20) || decide (70 < t)) celsius.toNat).sampleSource 4 (decide (mv < 2600)) (mv / 20))

/-- The write of AL.RTCSET (R403, R419). -/
def Block.writeRtcset (s : Block) (v : Nat) : Option Block :=
  some ({ s with rtcBase := v % 2 ^ 48, rtcAt := s.cycle }.orReg (rAl 0) 2)

/-- `RTCSET` (R403). -/
def execRtcset (req : Requester) (ticks : BitVec 48) (st : State) : Host.Outcome State Fault Refusal := st.act fun s =>
  .next (s.guarded req (rAl 0x10) ticks.toNat (fun s => s.writeRtcset ticks.toNat))

/-! ### The standing-order table (R408-R411) -/

/-- Word w of order i, counted from 0. -/
def Block.orderWord (s : Block) (i w : Nat) : Nat := s.rn (rSo (0x100 + 16 * i + 4 * w))
/-- CLASS. -/
def Block.orderClass (s : Block) (i : Nat) : Nat := bits (s.orderWord i 0) 15 0
/-- UNIT. -/
def Block.orderUnit (s : Block) (i : Nat) : Nat := bits (s.orderWord i 0) 31 16
/-- ACTION. -/
def Block.orderAction (s : Block) (i : Nat) : Nat := bits (s.orderWord i 1) 7 0
/-- ARG. -/
def Block.orderArg (s : Block) (i : Nat) : Nat := bits (s.orderWord i 1) 15 8
/-- MAXCOUNT. -/
def Block.orderMax (s : Block) (i : Nat) : Nat := bits (s.orderWord i 1) 31 16

/-- The UNIT kind an action requires; none takes any (R409). -/
def actionKind : Nat → Option Nat
  | 1 => some 1 | 2 => some 1 | 3 => some 2 | 4 => some 2 | 5 => some 2 | 7 => some 5 | 8 => some 4 | 9 => some 5
  | _ => none

/-- Whether an enabled order keeps the table from being armed (R411). -/
def Block.orderBad (s : Block) (i : Nat) : Bool :=
  let act := s.orderAction i
  let arg := s.orderArg i
  let kindBad := match actionKind act with
    | some k => s.orderUnit i / 4096 != k
    | none => false
  let argBad := if act = 3 ∨ act = 4 then arg = 0 ∨ 16 < arg else if act = 6 then 2 < arg else arg ≠ 0
  s.orderClass i != 0 && (act == 0 || decide (9 < act) || kindBad || decide argBad || s.orderMax i == 0)

/-- The table and ARM saved to NOR (R411). -/
def Block.saveOrders (s : Block) : Block :=
  { s with
    norOrders := (List.range 128).foldl (fun (t : Tab DWord) i => t.set noWordAt i (s.reg (rSo (0x100 + 4 * i)))) []
    norArm := bit (s.rn (rSo 0)) 0 }

/-- The write of SO.CTL (R411): ARM = 1 over a bad table is refused, and BADENT names the first offender (DEDUCED, log
entry 92). -/
def Block.writeSoctl (s : Block) (v : Nat) : Option Block :=
  match (if bit v 0 then (List.range 32).find? s.orderBad else none) with
  | some i => some ((s.setFld (rSo 0) 7 2 (i + 1)).writeReject (rSo 0) v)
  | none =>
    let s := if bit v 0 then s.setFld (rSo 0) 7 2 0 else s
    let s := s.setFld (rSo 0) 0 0 (v % 2)
    some (if bit v 1 then s.saveOrders else s)

/-- The write of a table word (R411). -/
def Block.writeOrder (s : Block) (i w v : Nat) : Option Block :=
  if bit (s.rn (rSo 0)) 0 then none
  else some ((s.setRn (rSo (0x100 + 16 * i + 4 * w)) (v % 2 ^ 32)).setRn (rSo (0x400 + 4 * i)) 0)

/-- `SO_ARM` (R411). -/
def execSoArm (req : Requester) (arm : Bool) (st : State) : Host.Outcome State Fault Refusal := st.act fun s =>
  .next (s.guarded req (rSo 0) (b2n arm) (fun s => s.writeSoctl (b2n arm)))

/-- `SO_SAVE` (R411). -/
def execSoSave (req : Requester) (st : State) : Host.Outcome State Fault Refusal := st.act fun s =>
  let v := 2 + s.rn (rSo 0) % 2
  .next (s.guarded req (rSo 0) v (fun s => s.writeSoctl v))

/-! ### The log (R416) -/

/-- The write of EL.LOSTCLR. -/
def Block.writeLostclr (s : Block) (v : Nat) : Option Block := some (if bit v 0 then s.setRn (rEl 8) 0 else s)

/-- `EL_LOSTCLR` (R416). -/
def execElLostclr (req : Requester) (st : State) : Host.Outcome State Fault Refusal := st.act fun s =>
  .next (s.guarded req (rEl 0xC) 1 (fun s => s.writeLostclr 1))

/-! ### Firmware and the spare map (R491-R493) -/

/-- The write of FWCTL (R493): GO is refused while BUSY = 1. -/
def Block.writeFwctl (s : Block) (v : Nat) : Option Block :=
  if bit v 2 = false then some s
  else if s.fld (rMc 0x24) 0 0 = 1 then none
  else some { s.setFld (rMc 0x24) 0 0 1 with fwJob := some (v % 4) }

/-- `FW_UPDATE` (R493). -/
def execFwUpdate (req : Requester) (image : BitVec 2) (st : State) : Host.Outcome State Fault Refusal := st.act fun s =>
  let v := image.toNat + 4
  .next (s.guarded req (rMc 0x20) v (fun s => s.writeFwctl v))

/-- `FW_UPDATE_DONE` (R493): an accepted image is written into the copy that the last Dawn did not start. -/
def execFwUpdateDone (result : BitVec 3) (st : State) : Host.Outcome State Fault Refusal := st.act fun s =>
  let n := result.toNat
  if n = 0 ∨ 4 < n then .fault (.illFormed "result of a firmware update")
  else .next <| match s.fwJob with
  | none => s
  | some i =>
    if s.life ≠ .service then s
    else
      let s := { s.setFld (rMc 0x24) 3 0 (2 * n) with fwJob := none }
      if n ≠ 1 then s
      else
        let c := 1 - s.fwStarted.get noVersion i
        { s.setFld (rMc 0x24) 4 4 1 with
          fwCopies := s.fwCopies.set noVersion (2 * i + c) s.fwNext, fwNext := s.fwNext + 1 }

/-- The write of SPAREMAP (R491). -/
def Block.writeSparemap (s : Block) (v : Nat) : Option Block :=
  let p := bits v 35 32
  if bit v 36 = false then some s
  else if (s.spareMap.get noSpare p).isNone then none
  else some { s.orReg (rMc 0x30) (2 ^ (16 + p)) with
    clrPend := if s.clrPend.contains p then s.clrPend else s.clrPend ++ [p] }

/-- `SPAREMAP_CLEAR` (R491). -/
def execSparemapClear (req : Requester) (pillar : PillarId) (st : State) : Host.Outcome State Fault Refusal := st.act fun s =>
  let v := pillar.val <<< 32 + 2 ^ 36
  .next (s.guarded req (rMc 0x30) v (fun s => s.writeSparemap v))

end Sys2Proof.Machine
end

