-- ==== Sys2Proof/Machine/Sync.lean ====
section
/-!
DEFINITION. The sync engine, timeouts and the counter registers (10_synchronisation.md).
-/
namespace Sys2Proof.Machine

/-- CTR of a sync slot (R260). -/
def Entry.ctr (en : Entry) : Nat := en.f0 48 36
/-- AMT of a sync slot (R260). -/
def Entry.amt (en : Entry) : Nat := en.f0 63 49 + 1

/-- The engine index of SYN. -/
def eSyn : Nat := 6

/-- `Y_SIGNAL`: adds AMT to CTR, then the common signal (R260, R266, R269). -/
def execYSignal (core : CoreId) (lane : Lane) (st : State) : Host.Outcome State Fault Refusal := st.act fun s =>
  let c := core.val
  let l := lane.num
  .next <| match s.gate c eSyn l 0x00 1 (fun en => [⟨en.ctr, 3, 0, 0⟩]) with
  | .error s => s
  | .ok (s, i, en) =>
    let v := s.ctrValue en.ctr
    match s.signal (entrySource c eSyn l en) (s.foreignTo c en.ctr) 0 en.ctr en.amt with
    | (s, .overflow) => s.faultEntry c eSyn l i en 0x71 (en.ctr + v <<< 16 + en.amt <<< 32)
    | (s, .mode) => s.faultEntry c eSyn l i en 0x74 (en.ctr + 1 <<< 13)
    | (s, _) => s.endEntry c eSyn l i en

/-- `Y_WAIT`: waits until VALUE ≥ AMT and subtracts AMT (R260, R263 step 3). -/
def execYWait (core : CoreId) (lane : Lane) (st : State) : Host.Outcome State Fault Refusal := st.act fun s =>
  let c := core.val
  let l := lane.num
  .next <| match s.gate c eSyn l 0x01 1 (fun en => [⟨en.ctr, 3, 0, en.amt⟩]) with
  | .error s => s
  | .ok (s, i, en) =>
    if en.got2 then s.endEntry c eSyn l i en
    else if en.amt ≤ s.ctrValue en.ctr then
      let s := s.setCtrValue en.ctr (s.ctrValue en.ctr - en.amt)
      (s.mapItem en.item (Item.grant en.slot)).endEntry c eSyn l i en
    else s.beginWait c eSyn l i en.ctr en.amt false

/-- `Y_TAKE`: subtracts AMT without waiting, or faults (R260, R268). -/
def execYTake (core : CoreId) (lane : Lane) (st : State) : Host.Outcome State Fault Refusal := st.act fun s =>
  let c := core.val
  let l := lane.num
  .next <| match s.gate c eSyn l 0x02 1 (fun en => [⟨en.ctr, 3, 0, en.amt⟩]) with
  | .error s => s
  | .ok (s, i, en) =>
    let v := s.ctrValue en.ctr
    if v < en.amt then s.faultEntry c eSyn l i en 0x72 (en.ctr + v <<< 16 + en.amt <<< 32)
    else (s.setCtrValue en.ctr (v - en.amt)).endEntry c eSyn l i en

/-- One arrival at a barrier: ARRIVED rises, and the last party's arrival ends the round, flipping SENSE and releasing
the round's waiters (R274, R276). -/
def Block.arrive (s : Block) (n : Nat) (x : SigSource) : Block :=
  let s := s.setRn (rCtr n + 8) (sigRecord x 1)
  if s.ctrArrived n + 1 = s.ctrParties n then
    let s := s.setFld (rCtr n) 23 16 0
    (s.setFld (rCtr n) 24 24 (b2n (!(s.ctrSense n)))).grantAll n
  else s.setFld (rCtr n) 23 16 (s.ctrArrived n + 1)

/-- `Y_BAR`: arrives, records the sense, and completes once SENSE has flipped (R274). -/
def execYBar (core : CoreId) (lane : Lane) (st : State) : Host.Outcome State Fault Refusal := st.act fun s =>
  let c := core.val
  let l := lane.num
  .next <| match s.gate c eSyn l 0x03 1 (fun en => [⟨en.ctr, 3, 1, 0⟩]) with
  | .error s => s
  | .ok (s, i, en) =>
    if en.got2 then s.endEntry c eSyn l i en
    else
      let sense := s.ctrSense en.ctr
      let s := s.mapEntry (qKey c eSyn l) i (fun en => { en with got2 := true, sense := sense })
      let s := s.mapItem en.item (Item.grant en.slot)
      let s := s.arrive en.ctr (entrySource c eSyn l en)
      if s.ctrSense en.ctr ≠ sense then s.endEntry c eSyn l i { en with got2 := true }
      else s.beginWait c eSyn l i en.ctr 1 true

/-- `WAIT_TIMEOUT`: the waiting head of a queue reaches its limit and faults, consuming nothing (R278, R284) (DESIGN
CHOICE, log entry 43). -/
def execWaitTimeout (core : CoreId) (engine : Engine) (lane : Lane) (st : State) : Host.Outcome State Fault Refusal := st.act fun s =>
  let c := core.val
  let e := engine.num
  let l := lane.num
  .next <| match headPos (s.queue (qKey c e l)) with
  | none => s
  | some i =>
    match (s.queue (qKey c e l))[i]? with
    | none => s
    | some en =>
      match en.wait with
      | none => s
      | some w => s.faultEntry c e l i en 0x70 (w.ctr + (b2n w.phase2) <<< 13 + w.limit <<< 16)

/-- A requester as a signal source (R276); the MC has no kind of its own and is shown as none. -/
def reqSource : Requester → SigSource
  | .port p => { kind := 2, unit := p.num }
  | .seq q => { kind := 3, unit := q.val }
  | .mc => { kind := 0, unit := 0 }

/-- Whether a counter is foreign to a requester (R271). -/
def Block.foreignReq (s : Block) (r : Requester) (n : Nat) : Bool :=
  match r with
  | .mc => false
  | .seq q => (match s.seqOwner q.val, s.ctrOwner n with
    | some a, some b => a != b
    | _, _ => true)
  | .port p => (match s.ctrOwner n with
    | some k => !(s.reachedOn k p.num)
    | none => true)

/-- The write of SY.HSIG (R283). -/
def Block.hsig (s : Block) (r : Requester) (v : Nat) : Option Block :=
  let n := bits v 12 0
  let amount := bits v 31 16
  if amount = 0 ∨ ctrDefined n = false then none
  else some (s.signalLogged (reqSource r) (s.foreignReq r n) 0 n amount)

/-- `HSIG_WRITE` (R283, R270). -/
def execHsigWrite (req : Requester) (value : BitVec 32) (st : State) : Host.Outcome State Fault Refusal := st.act fun s =>
  .next (s.guarded req (rSy 0x10000) value.toNat (fun s => s.hsig req value.toNat))

/-- Whether a core counter's core is RUNNING (R281). -/
def Block.ctrBusy (s : Block) (n : Nat) : Bool := decide (n < 0x1000) && s.fld (rC (n / 64) 4) 1 0 == 0

/-- The write of a counter's VALUE (R281): only while it is idle, and the baseline stays (R259). -/
def Block.writeCtrVal (s : Block) (n v : Nat) : Option Block :=
  if s.nwait n ≠ 0 ∨ s.ctrMode n ≠ 0 ∨ s.ctrCap n < v % 2 ^ 16 ∨ s.ctrBusy n then none
  else some (s.setCtrValue n (v % 2 ^ 16))

/-- `CTR_VAL_WRITE` (R281). -/
def execCtrValWrite (req : Requester) (ctr : BitVec 13) (value : BitVec 32) (st : State) :
    Host.Outcome State Fault Refusal := st.act fun s =>
  .next (if ctrDefined ctr.toNat then
      s.guarded req (rCtr ctr.toNat) value.toNat (fun s => s.writeCtrVal ctr.toNat value.toNat)
    else s)

/-- The write of a counter's CFG (R281): the refusals of its table, and the baseline of R259. -/
def Block.writeCtrCfg (s : Block) (n v : Nat) : Option Block :=
  let mode := bits v 0 0
  let cap := bits v 16 1
  let parties := bits v 24 17
  if (mode = 0 ∧ (cap = 0 ∨ parties ≠ 0)) ∨ (mode = 1 ∧ (parties = 0 ∨ cap ≠ 0)) ∨
      (mode = 0 ∧ cap < s.ctrValue n) ∨ s.nwait n ≠ 0 ∨ s.ctrArrived n ≠ 0 ∨ s.ctrBusy n then none
  else
    let s := s.setRn (rCtr n + 4) (v % 2 ^ 25)
    let s := if mode = 1 then s.setFld (rCtr n) 24 16 0 else s
    let b := if mode = 1 then 0#16 else BitVec.ofNat 16 (s.ctrValue n)
    some { s with baselines := s.baselines.set noBaseline n b }

/-- `CTR_CFG_WRITE` (R281, R259). -/
def execCtrCfgWrite (req : Requester) (ctr : BitVec 13) (value : BitVec 32) (st : State) :
    Host.Outcome State Fault Refusal := st.act fun s =>
  .next (if ctrDefined ctr.toNat then
      s.guarded req (rCtr ctr.toNat + 4) value.toNat (fun s => s.writeCtrCfg ctr.toNat value.toNat)
    else s)

end Sys2Proof.Machine
end

