-- ==== Sys2Proof/Machine/Peer.lean ====
section
/-!
DEFINITION. Peer modules: remote signals sent, and the four kinds of message received (R85, R272, R273, R352-R354,
R438, R439).
-/
namespace Sys2Proof.Machine

/-! ### Y.RSIG -/

/-- MODULE of a Y.RSIG slot (R260). -/
def Entry.module_ (en : Entry) : Nat := en.f0 51 49
/-- AMT of a Y.RSIG slot (R260). -/
def Entry.rsigAmt (en : Entry) : Nat := en.f0 63 52 + 1

/-- The member check of a Y.RSIG (R272). -/
def Block.rsigUses (s : Block) (c : Nat) (en : Entry) : List CtrUse :=
  match s.coreOwner c with
  | none => [⟨en.ctr, 4, 2, 0⟩]
  | some k => if s.jobMember k en.module_ then [] else [⟨en.ctr, 4, 2, 0⟩]

/-- `Y_RSIG`: a remote signal issued on the core's path to MODULE; it waits at the head while the path is down (R260,
R272, R273, R440) (DEDUCED, log entry 49). -/
def execYRsig (core : CoreId) (lane : Lane) (st : State) : Host.Outcome State Fault Refusal := st.act fun s =>
  let c := core.val
  let l := lane.num
  .next <| match s.gate c eSyn l 0x04 1 (fun en => s.rsigUses c en) with
  | .error s => s
  | .ok (s, i, en) =>
    match s.coreOwner c with
    | none => s
    | some k =>
      match s.jobKeyFault k with
      | some d => s.faultEntry c eSyn l i en 0xB0 d
      | none =>
        if s.canSend k en.module_ then
          let s := s.peerSend k c ⟨3, en.module_, rsigCore c en.ctr, 0, [en.ctr, en.rsigAmt], [], 0, [], 0⟩
          s.endEntry c eSyn l i en
        else s.mapEntry (qKey c eSyn l) i (fun en => { en with sense := true })

/-! ### Receiving (R353, R438, R439) -/

/-- Key of a receiving counter: index, source member, path. -/
def rxKey (k i m path : Nat) : Nat := ((4 * k + i) * 8 + m) * 8 + path

/-- Whether a message of a kind is genuine: from a valid member by its PBR identifier, in the member mask of an index
that is held, with the tag of that key and a counter above the last one accepted. -/
def Block.peerGenuine (s : Block) (k kind : Nat) (m : PeerMsg) : Bool :=
  let i := m.key.val
  let v := s.rn (rHi (0x710 + 4 * m.source.val))
  let st := s.jobState k i
  bit v 12 && bits v 11 0 == m.pbrid.toNat && (st == 1 || st == 2) &&
    bit (s.rn (rJob k (0x20 + 4 * i))) m.source.val &&
    m.tag == Config.peerTag (s.jobKeys.get noKey (4 * k + i)) kind { m with tag := 0#128 } &&
    decide (s.rxCtr.get noCount (rxKey k i m.source.val m.path.val) < m.counter.toNat)

/-- A message discarded as VIO_PEER. Its place in BAR4 is no operand of the command: a free value (DESIGN CHOICE, log entry 20). -/
def Block.peerDiscard (s : Block) (p : Nat) : Block :=
  let (x, s) := s.draw
  s.violation p 0x09 3 (x % 2 ^ 24)

/-- A message received: its partition and the state that has counted it, or the state that has discarded it. -/
def Block.peerAccept (s : Block) (p kind : Nat) (m : PeerMsg) : Except Block (Block × Nat) :=
  if s.life != .service || !(s.dlUp p) then .error s
  else if !(s.peerUp) || s.fld (rHi 0x700) 1 1 != p then .error (s.peerDiscard p)
  else match s.coreOwner m.core.val with
  | none => .error (s.peerDiscard p)
  | some k =>
    if !(s.peerGenuine k kind m) then .error (s.peerDiscard p)
    else
      let key := rxKey k m.key.val m.source.val m.path.val
      let s := { s with rxCtr := s.rxCtr.set noCount key m.counter.toNat }
      .ok (if m.counter.toNat = 2 ^ 32 - 1 then s.exhaust k m.key.val else s, k)

/-- The descriptor of the block a message names, none where the owning module refuses the transfer (R85); a window refuses
a write (R74). -/
def Block.peerBlock (s : Block) (k : Nat) (store : Bool) (m : PeerMsg) : Option Nat :=
  match s.desc? m.core.val m.handle.toNat with
  | none => none
  | some d =>
    let d := d.toNat
    let last := List.zipWith (fun a n => ((a + n : Nat) : Int) - 1) m.coords m.sizes
    if s.coreOwner m.core.val ≠ some k ∨ dSpace d = 4 ∨ (dFormat d).code ≠ m.format.toNat ∨ m.coords.length ≠ 4 ∨
        m.sizes.length ≠ 4 ∨ m.sizes.any (· == 0) ∨ ¬ inside (dSizes d) last ∨ (store ∧ dWindow d) then none
    else some d

/-- The coordinates of a message's box, dimension 0 fastest. -/
def msgBox (m : PeerMsg) : List (List Nat) := (boxCoords m.sizes).map (List.zipWith (· + ·) m.coords)

/-- Element e of a payload packed under a format. -/
def payloadElem (f : Fmt) (bs : List Byte) (e : Nat) : Nat :=
  if f.size = 4 then nibOf ((bs[e / 2]?).getD 0#8).toNat (e % 2 == 1)
  else ofBytes ((bs.drop (e * f.size / 8)).take (f.size / 8))

/-- The elements of a peer write put at their places, in order. -/
def Mover.peerPut (x : Mover) (k d : Nat) (bs : List Byte) : Nat → List (List Nat) → Mover
  | _, [] => x
  | e, cs :: t =>
    (x.storeOne k (dFormat d) (e != 0) (placeOf d cs) (payloadElem (dFormat d) bs e)).peerPut k d bs (e + 1) t

/-- Host writes of the peer unit sent on the port they belong to. One nibble is merged into a byte that the host holds:
its other nibble is free (DESIGN CHOICE, log entry 20). -/
def Block.sendWrites (s : Block) (k : Nat) : List HostWrite → Block
  | [] => s
  | w :: t =>
    match s.portNow k w.port, w.half with
    | none, _ => s.sendWrites k t
    | some p, none => ({ s with hostOut := s.hostOut ++ [HostMsg.write p w.addr w.data] }).sendWrites k t
    | some p, some hi =>
      let (x, s) := s.draw
      let b := putNibble (BitVec.ofNat 8 x) hi (nibOf ((w.data.headD 0#8).toNat) hi)
      ({ s with hostOut := s.hostOut ++ [HostMsg.write p w.addr [b]] }).sendWrites k t

/-- The peer unit's answer to a message: read data for the core that sent it; with no payload it says that the module
refuses the message's block (R85, R352; DEDUCED, log entries 16 and 50). -/
def Block.peerReply (s : Block) (k : Nat) (m : PeerMsg) (bs : List Byte) : Block :=
  if s.canSend k m.source.val then
    s.peerSend k m.core.val ⟨2, m.source.val, m.path.val, 0, m.coords, m.sizes, m.request, bs, m.format.toNat⟩
  else s

/-- `PEER_WRITE`: the elements are written at once, so the writes of a path are visible in the order of their
counters; a block that R85 refuses is left as it was, and the sender is told (R354) (DEDUCED, log entry 50). -/
def execPeerWrite (port : Port) (msg : PeerMsg) (st : State) : Host.Outcome State Fault Refusal := st.act fun s =>
  .next <| match s.peerAccept port.num 0 msg with
  | .error s => s
  | .ok (s, k) =>
    match s.peerBlock k true msg with
    | none => s.peerReply k msg []
    | some d =>
      if msg.payload.length ≠ ceilDiv ((msgBox msg).length * (dFormat d).size) 8 then s.peerReply k msg []
      else
        let x := ({ s := s, wins := s.hostWins k (bbNeed true (dFormat d)) } : Mover).peerPut k d msg.payload 0 (msgBox msg)
        (applyCols x.s 0 x.cols).1.sendWrites k x.hwrites

/-- One element of a block read for a peer; a host byte is not the module's own: its value is free. -/
def Mover.peerGet (x : Mover) (f : Fmt) (p : Place) : Mover × Except Bad Nat :=
  match p with
  | .sp key hi _ => x.nearRead f ⟨some key, hi, false⟩
  | .led a hi _ =>
    (match x.s.ledScan a (max 1 (f.size / 8)) with
     | (s, some w) => ({ x with s := s }, .error ⟨0xA0, some w⟩)
     | (s, none) => ({ x with s := s }, .ok (elemRead s.ledger f a hi)))
  | .dram g row byte hi _ =>
    (match x.column g row (byte / 32) with
     | (x, .ok col) => (x, .ok (colElem col f byte hi))
     | (x, .error b) => (x, .error b))
  | .host _ _ _ =>
    let (v, s) := x.s.draw
    ({ x with s := s }, .ok (v % 2 ^ f.size))
  | _ => (x, .ok 0)

/-- The payload of a peer read, none where an element cannot be read. -/
def Mover.peerGather (x : Mover) (d : Nat) : Nat → List Byte → List (List Nat) → Mover × Option (List Byte)
  | _, bs, [] => (x, some bs)
  | e, bs, cs :: t =>
    match x.peerGet (dFormat d) (placeOf d cs) with
    | (x, .ok v) => x.peerGather d (e + 1) (packElem (dFormat d) e bs v) t
    | (x, .error _) => (x, none)

/-- `PEER_READ_REQUEST`: the peer unit reads the block and answers with read data; a refusal is read data with no
payload (R85, R352, DEDUCED, log entry 16). -/
def execPeerReadRequest (port : Port) (msg : PeerMsg) (st : State) : Host.Outcome State Fault Refusal := st.act fun s =>
  .next <| match s.peerAccept port.num 1 msg with
  | .error s => s
  | .ok (s, k) =>
    match s.peerBlock k false msg with
    | none => s.peerReply k msg []
    | some d =>
      let (x, r) := ({ s := s } : Mover).peerGather d 0 [] (msgBox msg)
      x.s.peerReply k msg (r.getD [])

/-- Whether an entry waits for the answer to a peer message: a read, or a write that a peer may refuse. -/
def Entry.peerAsks (id : Nat) (en : Entry) : Bool :=
  en.stage == .issued && (en.preads ++ en.pwrites).any (fun r => r.request == id)

/-- A peer's answer taken by the transfer of core c that asked, in one of the lanes of LDE and STE. -/
def Block.peerAnswer (s : Block) (k c : Nat) (id : Nat) (bs : List Byte) : List (Bool × Nat) → Block
  | [] => s
  | (store, l) :: t =>
    let q := qKey c (eXfer store) l
    match (s.queue q).findIdx? (Entry.peerAsks id) with
    | none => s.peerAnswer k c id bs t
    | some i =>
      match (s.queue q)[i]? with
      | none => s
      | some en =>
        match (en.preads ++ en.pwrites).find? (fun r => r.request == id) with
        | none => s
        | some r =>
          if bs.isEmpty then s.failXfer c l i store en (fltOwner r.block)
          else if store then s
          else (s.land en.esize bs r.elems).goOn k c l i store
            { en with preads := en.preads.filter (fun r => r.request != id) }

/-- `PEER_READ_DATA`: the data of a read request lands in the transfer that asked for it; no data is a refusal
(R352, R85). -/
def execPeerReadData (port : Port) (msg : PeerMsg) (st : State) : Host.Outcome State Fault Refusal := st.act fun s =>
  .next <| match s.peerAccept port.num 2 msg with
  | .error s => s
  | .ok (s, k) =>
    s.peerAnswer k msg.core.val msg.request msg.payload [(false, 0), (false, 1), (true, 0), (true, 1)]

/-- `PEER_REMOTE_SIGNAL`: applied as it arrives, since every earlier write of its path is visible already
(R271, R273, R354). -/
def execPeerRemoteSignal (port : Port) (msg : PeerMsg) (st : State) : Host.Outcome State Fault Refusal := st.act fun s =>
  .next <| match s.peerAccept port.num 3 msg with
  | .error s => s
  | .ok (s, k) =>
    let n := (msg.coords[0]?).getD 0
    let amount := (msg.coords[1]?).getD 1
    s.signalLogged { kind := 4, unit := msg.source.val } (s.ctrOwner n != some k) 0 n amount

end Sys2Proof.Machine
end

