-- ==== Sys2Proof/Machine/Scalar.lean ====
section
/-!
DEFINITION. The scalar engine (07_scalar_load_store.md, R180-R185; R57-R59).
-/
namespace Sys2Proof.Machine

/-- Register s_i; s0 reads as 0 (R180, R204). -/
def Block.sreg (s : Block) (c i : Nat) : DWord := if i = 0 then 0#64 else s.reg (rC c (0xD00 + 8 * i))

/-- Register s_i written; a write of s0 is discarded (R180). -/
def Block.setSreg (s : Block) (c i : Nat) (v : DWord) : Block :=
  if i = 0 then s else s.setReg (rC c (0xD00 + 8 * i)) v

/-- RD or RS (R181). -/
def Entry.rd (en : Entry) : Nat := en.f0 40 36
/-- RA of forms R, I and M (R181). -/
def Entry.ra (en : Entry) : Nat := en.f0 45 41
/-- RB of form R (R181). -/
def Entry.rb (en : Entry) : Nat := en.f0 50 46

/-- An entry of form R: s[RD] := f s[RA] s[RB] (R182). -/
def Block.scaR (s : Block) (c l op : Nat) (f : DWord → DWord → DWord) : Block :=
  match s.gate c 0 l op 1 noUses with
  | .error s => s
  | .ok (s, i, en) => (s.setSreg c en.rd (f (s.sreg c en.ra) (s.sreg c en.rb))).endEntry c 0 l i en

/-- An entry of form I: s[RD] := f s[RA] IMM (R182). -/
def Block.scaI (s : Block) (c l op : Nat) (f : DWord → DWord → DWord) : Block :=
  match s.gate c 0 l op 1 noUses with
  | .error s => s
  | .ok (s, i, en) => (s.setSreg c en.rd (f (s.sreg c en.ra) en.w1)).endEntry c 0 l i en

/-- Shift left by b[5:0]. -/
def aluShl (a b : DWord) : DWord := a <<< (b.toNat % 64)
/-- Logical shift right by b[5:0]. -/
def aluShr (a b : DWord) : DWord := a >>> (b.toNat % 64)
/-- Arithmetic shift right by b[5:0]. -/
def aluSra (a b : DWord) : DWord := a.sshiftRight (b.toNat % 64)
/-- Signed minimum. -/
def aluMin (a b : DWord) : DWord := if a.slt b then a else b
/-- Signed maximum. -/
def aluMax (a b : DWord) : DWord := if a.slt b then b else a
/-- Unsigned minimum. -/
def aluMinu (a b : DWord) : DWord := if a.ult b then a else b
/-- Unsigned maximum. -/
def aluMaxu (a b : DWord) : DWord := if a.ult b then b else a
/-- 1 if a < b signed. -/
def aluSlt (a b : DWord) : DWord := if a.slt b then 1#64 else 0#64
/-- 1 if a < b unsigned. -/
def aluSltu (a b : DWord) : DWord := if a.ult b then 1#64 else 0#64
/-- 1 if a = b. -/
def aluSeq (a b : DWord) : DWord := if a = b then 1#64 else 0#64

/-- `S_ADD` (R182): sum of s[RA] and s[RB]. -/
def execSAdd (core : CoreId) (lane : Lane) (st : State) : Host.Outcome State Fault Refusal := st.act fun s =>
  .next (s.scaR core.val lane.num 0x00 (fun a b => a + b))

/-- `S_SUB` (R182): difference of s[RA] and s[RB]. -/
def execSSub (core : CoreId) (lane : Lane) (st : State) : Host.Outcome State Fault Refusal := st.act fun s =>
  .next (s.scaR core.val lane.num 0x01 (fun a b => a - b))

/-- `S_MUL` (R182): low 64 bits of the product of s[RA] and s[RB]. -/
def execSMul (core : CoreId) (lane : Lane) (st : State) : Host.Outcome State Fault Refusal := st.act fun s =>
  .next (s.scaR core.val lane.num 0x02 (fun a b => a * b))

/-- `S_AND` (R182): bitwise and of s[RA] and s[RB]. -/
def execSAnd (core : CoreId) (lane : Lane) (st : State) : Host.Outcome State Fault Refusal := st.act fun s =>
  .next (s.scaR core.val lane.num 0x03 (fun a b => a &&& b))

/-- `S_OR` (R182): bitwise or of s[RA] and s[RB]. -/
def execSOr (core : CoreId) (lane : Lane) (st : State) : Host.Outcome State Fault Refusal := st.act fun s =>
  .next (s.scaR core.val lane.num 0x04 (fun a b => a ||| b))

/-- `S_XOR` (R182): bitwise exclusive or of s[RA] and s[RB]. -/
def execSXor (core : CoreId) (lane : Lane) (st : State) : Host.Outcome State Fault Refusal := st.act fun s =>
  .next (s.scaR core.val lane.num 0x05 (fun a b => a ^^^ b))

/-- `S_SHL` (R182): left shift of s[RA] and s[RB]. -/
def execSShl (core : CoreId) (lane : Lane) (st : State) : Host.Outcome State Fault Refusal := st.act fun s =>
  .next (s.scaR core.val lane.num 0x06 (aluShl))

/-- `S_SHR` (R182): logical right shift of s[RA] and s[RB]. -/
def execSShr (core : CoreId) (lane : Lane) (st : State) : Host.Outcome State Fault Refusal := st.act fun s =>
  .next (s.scaR core.val lane.num 0x07 (aluShr))

/-- `S_SRA` (R182): arithmetic right shift of s[RA] and s[RB]. -/
def execSSra (core : CoreId) (lane : Lane) (st : State) : Host.Outcome State Fault Refusal := st.act fun s =>
  .next (s.scaR core.val lane.num 0x08 (aluSra))

/-- `S_MIN` (R182): signed minimum of s[RA] and s[RB]. -/
def execSMin (core : CoreId) (lane : Lane) (st : State) : Host.Outcome State Fault Refusal := st.act fun s =>
  .next (s.scaR core.val lane.num 0x09 (aluMin))

/-- `S_MAX` (R182): signed maximum of s[RA] and s[RB]. -/
def execSMax (core : CoreId) (lane : Lane) (st : State) : Host.Outcome State Fault Refusal := st.act fun s =>
  .next (s.scaR core.val lane.num 0x0A (aluMax))

/-- `S_MINU` (R182): unsigned minimum of s[RA] and s[RB]. -/
def execSMinu (core : CoreId) (lane : Lane) (st : State) : Host.Outcome State Fault Refusal := st.act fun s =>
  .next (s.scaR core.val lane.num 0x0B (aluMinu))

/-- `S_MAXU` (R182): unsigned maximum of s[RA] and s[RB]. -/
def execSMaxu (core : CoreId) (lane : Lane) (st : State) : Host.Outcome State Fault Refusal := st.act fun s =>
  .next (s.scaR core.val lane.num 0x0C (aluMaxu))

/-- `S_SLT` (R182): signed less-than of s[RA] and s[RB]. -/
def execSSlt (core : CoreId) (lane : Lane) (st : State) : Host.Outcome State Fault Refusal := st.act fun s =>
  .next (s.scaR core.val lane.num 0x0D (aluSlt))

/-- `S_SLTU` (R182): unsigned less-than of s[RA] and s[RB]. -/
def execSSltu (core : CoreId) (lane : Lane) (st : State) : Host.Outcome State Fault Refusal := st.act fun s =>
  .next (s.scaR core.val lane.num 0x0E (aluSltu))

/-- `S_SEQ` (R182): equality of s[RA] and s[RB]. -/
def execSSeq (core : CoreId) (lane : Lane) (st : State) : Host.Outcome State Fault Refusal := st.act fun s =>
  .next (s.scaR core.val lane.num 0x0F (aluSeq))

/-- `S_ADDI` (R182): sum of s[RA] and IMM. -/
def execSAddi (core : CoreId) (lane : Lane) (st : State) : Host.Outcome State Fault Refusal := st.act fun s =>
  .next (s.scaI core.val lane.num 0x10 (fun a b => a + b))

/-- `S_SUBI` (R182): difference of s[RA] and IMM. -/
def execSSubi (core : CoreId) (lane : Lane) (st : State) : Host.Outcome State Fault Refusal := st.act fun s =>
  .next (s.scaI core.val lane.num 0x11 (fun a b => a - b))

/-- `S_MULI` (R182): low 64 bits of the product of s[RA] and IMM. -/
def execSMuli (core : CoreId) (lane : Lane) (st : State) : Host.Outcome State Fault Refusal := st.act fun s =>
  .next (s.scaI core.val lane.num 0x12 (fun a b => a * b))

/-- `S_ANDI` (R182): bitwise and of s[RA] and IMM. -/
def execSAndi (core : CoreId) (lane : Lane) (st : State) : Host.Outcome State Fault Refusal := st.act fun s =>
  .next (s.scaI core.val lane.num 0x13 (fun a b => a &&& b))

/-- `S_ORI` (R182): bitwise or of s[RA] and IMM. -/
def execSOri (core : CoreId) (lane : Lane) (st : State) : Host.Outcome State Fault Refusal := st.act fun s =>
  .next (s.scaI core.val lane.num 0x14 (fun a b => a ||| b))

/-- `S_XORI` (R182): bitwise exclusive or of s[RA] and IMM. -/
def execSXori (core : CoreId) (lane : Lane) (st : State) : Host.Outcome State Fault Refusal := st.act fun s =>
  .next (s.scaI core.val lane.num 0x15 (fun a b => a ^^^ b))

/-- `S_SHLI` (R182): left shift of s[RA] and IMM. -/
def execSShli (core : CoreId) (lane : Lane) (st : State) : Host.Outcome State Fault Refusal := st.act fun s =>
  .next (s.scaI core.val lane.num 0x16 (aluShl))

/-- `S_SHRI` (R182): logical right shift of s[RA] and IMM. -/
def execSShri (core : CoreId) (lane : Lane) (st : State) : Host.Outcome State Fault Refusal := st.act fun s =>
  .next (s.scaI core.val lane.num 0x17 (aluShr))

/-- `S_SRAI` (R182): arithmetic right shift of s[RA] and IMM. -/
def execSSrai (core : CoreId) (lane : Lane) (st : State) : Host.Outcome State Fault Refusal := st.act fun s =>
  .next (s.scaI core.val lane.num 0x18 (aluSra))

/-- `S_MINI` (R182): signed minimum of s[RA] and IMM. -/
def execSMini (core : CoreId) (lane : Lane) (st : State) : Host.Outcome State Fault Refusal := st.act fun s =>
  .next (s.scaI core.val lane.num 0x19 (aluMin))

/-- `S_MAXI` (R182): signed maximum of s[RA] and IMM. -/
def execSMaxi (core : CoreId) (lane : Lane) (st : State) : Host.Outcome State Fault Refusal := st.act fun s =>
  .next (s.scaI core.val lane.num 0x1A (aluMax))

/-- `S_MINUI` (R182): unsigned minimum of s[RA] and IMM. -/
def execSMinui (core : CoreId) (lane : Lane) (st : State) : Host.Outcome State Fault Refusal := st.act fun s =>
  .next (s.scaI core.val lane.num 0x1B (aluMinu))

/-- `S_MAXUI` (R182): unsigned maximum of s[RA] and IMM. -/
def execSMaxui (core : CoreId) (lane : Lane) (st : State) : Host.Outcome State Fault Refusal := st.act fun s =>
  .next (s.scaI core.val lane.num 0x1C (aluMaxu))

/-- `S_SLTI` (R182): signed less-than of s[RA] and IMM. -/
def execSSlti (core : CoreId) (lane : Lane) (st : State) : Host.Outcome State Fault Refusal := st.act fun s =>
  .next (s.scaI core.val lane.num 0x1D (aluSlt))

/-- `S_SLTUI` (R182): unsigned less-than of s[RA] and IMM. -/
def execSSltui (core : CoreId) (lane : Lane) (st : State) : Host.Outcome State Fault Refusal := st.act fun s =>
  .next (s.scaI core.val lane.num 0x1E (aluSltu))

/-- `S_SEQI` (R182): equality of s[RA] and IMM. -/
def execSSeqi (core : CoreId) (lane : Lane) (st : State) : Host.Outcome State Fault Refusal := st.act fun s =>
  .next (s.scaI core.val lane.num 0x1F (aluSeq))

/-- Access size in bytes of form M (R181). -/
def Entry.msize (en : Entry) : Nat := 2 ^ en.f0 47 46
/-- SX of form M (R181). -/
def Entry.sx (en : Entry) : Bool := en.f0 48 48 == 1
/-- A of form M (R182). -/
def Entry.maddr (en : Entry) (s : Block) (c : Nat) : Nat := ((s.sreg c en.ra).toNat + en.f1 25 0) % 2 ^ 26

/-- Whether an access of n bytes at A breaks R183. -/
def badMaddr (a n : Nat) : Bool := a % n != 0 || decide (spTop < a + n - 1)

/-- `S_LD` (R182, R183): an uncorrectable word it reads faults it (R406). -/
def execSLd (core : CoreId) (lane : Lane) (st : State) : Host.Outcome State Fault Refusal := st.act fun s =>
  let c := core.val
  let l := lane.num
  .next <| match s.gate c 0 l 0x20 1 noUses with
  | .error s => s
  | .ok (s, i, en) =>
    let a := en.maddr s c
    let n := en.msize
    if badMaddr a n then s.faultEntry c 0 l i en 0x50 a
    else match s.sramRead 0 c a n with
      | (s, some w) => s.faultEntry c 0 l i en 0xA0 w
      | (s, none) =>
        let x := ofBytes (s.spRead c a n)
        let v := if en.sx then toTwos 64 (sext (8 * n) x) else x
        (s.setSreg c en.rd (BitVec.ofNat 64 v)).endEntry c 0 l i en

/-- `S_ST` (R182, R183). -/
def execSSt (core : CoreId) (lane : Lane) (st : State) : Host.Outcome State Fault Refusal := st.act fun s =>
  let c := core.val
  let l := lane.num
  .next <| match s.gate c 0 l 0x21 1 noUses with
  | .error s => s
  | .ok (s, i, en) =>
    let a := en.maddr s c
    let n := en.msize
    if badMaddr a n then s.faultEntry c 0 l i en 0x50 a
    else (s.spWrite c a (leBytes (s.sreg c en.rd).toNat n)).endEntry c 0 l i en

/-- HANDLE of forms D and C (R181). -/
def Entry.dhandle (en : Entry) : Nat := en.f0 44 36

/-- `S_DESC`: reads and validates 32 bytes at A and replaces the entry, or leaves it as it was and faults (R58, R183). -/
def execSDesc (core : CoreId) (lane : Lane) (st : State) : Host.Outcome State Fault Refusal := st.act fun s =>
  let c := core.val
  let l := lane.num
  .next <| match s.gate c 0 l 0x30 1 noUses with
  | .error s => s
  | .ok (s, i, en) =>
    let a := ((s.sreg c (en.f0 49 45)).toNat + en.f1 25 0) % 2 ^ 26
    if a % 32 ≠ 0 ∨ 0x27FFFE0 < a then s.faultEntry c 0 l i en 0x31 a
    else match s.sramRead 0 c a 32 with
      | (s, some w) => s.faultEntry c 0 l i en 0xA0 w
      | (s, none) =>
        let d := ofBytes (s.spRead c a 32)
        let r := s.descReason c en.dhandle d
        if r ≠ 0 then s.faultEntry c 0 l i en 0x30 r
        else (s.setDesc c en.dhandle (some (BitVec.ofNat 256 d))).endEntry c 0 l i en

/-- `S_DCLR`: makes the entry invalid; entry 0 and an invalid entry are left as they are (R182, R183). -/
def execSDclr (core : CoreId) (lane : Lane) (st : State) : Host.Outcome State Fault Refusal := st.act fun s =>
  let c := core.val
  let l := lane.num
  .next <| match s.gate c 0 l 0x31 1 noUses with
  | .error s => s
  | .ok (s, i, en) => (if en.dhandle = 0 then s else s.setDesc c en.dhandle none).endEntry c 0 l i en

end Sys2Proof.Machine
end

