-- ==== Sys2Proof/Machine/Write.lean ====
section
/-!
DEFINITION. What a write of each register does, and BAR0 writes of every size (R7, R516-R519; the register tables of
every chapter); the standing orders that write registers (R409, R410).
-/
namespace Sys2Proof.Machine

/-! ### Registers with no behaviour of their own (R7) -/

/-- RW fields set and W1C bits cleared. -/
def Block.plainWrite (s : Block) (a v : Nat) : Option Block :=
  match regInfo a with
  | none => none
  | some i =>
    let old := s.reg a
    let rw := BitVec.ofNat 64 i.rw
    let x := BitVec.ofNat 64 v
    some (s.setReg a (((old &&& ~~~rw) ||| (x &&& rw)) &&& ~~~(x &&& BitVec.ofNat 64 i.w1c)))

/-- A plain write unless a value is reserved or a rule refuses it. -/
def Block.plainUnless (s : Block) (bad : Bool) (a v : Nat) : Option Block := if bad then none else s.plainWrite a v

/-! ### Blocks -/

/-- MC (R492). -/
def Block.writeMc (s : Block) (o v : Nat) : Option Block :=
  match o with
  | 0x18 => s.writeResetctl v
  | 0x20 => s.writeFwctl v
  | 0x30 => s.writeSparemap v
  | _ => s.plainWrite (rMc o) v

/-- EV (R382-R384). -/
def Block.writeEv (s : Block) (o v : Nat) : Option Block :=
  if o = 4 then s.plainUnless (v % 4 == 3) (rEv o) v
  else if o = 8 then s.writeBeatctl v
  else if inRow o 0x60 4 4 then s.writeHsched ((o - 0x60) / 4) v
  else if o = 0x70 then s.writeSchedctl v
  else if o = 0xB4 then s.writeFlow v
  else if inRow o 0x100 4 3 then s.writeDomctl ((o - 0x100) / 4) v
  else s.plainWrite (rEv o) v

/-- SO (R411). -/
def Block.writeSo (s : Block) (o v : Nat) : Option Block :=
  if o = 0 then s.writeSoctl v
  else if inRow o 0x100 4 128 then s.writeOrder ((o - 0x100) / 16) ((o - 0x100) % 16 / 4) v
  else s.plainWrite (rSo o) v

/-- WBSEAL (R437): refused while a command runs, while a slot is OPEN, or where the range leaves the allocation. -/
def Block.writeWbseal (s : Block) (k v : Nat) : Option Block :=
  let n := bits v 17 9 * 0x10000
  s.plainUnless (s.wbBusy k || s.rn (rWb k 0x1C) != 0 || (n != 0 && !(s.inLedAlloc k (bits v 8 0 * 0x10000) n)))
    (rWb k 0x20) v

/-- SB.WB.k (R437, R445). -/
def Block.writeWb (s : Block) (k o v : Nat) : Option Block :=
  match o with
  | 0 => s.writeWbctl k v
  | 4 => s.plainUnless (s.wbBusy k || bits v 24 0 % 64 != 0) (rWb k o) v
  | 8 => s.plainUnless (s.wbBusy k || bits v 24 0 % 64 != 0) (rWb k o) v
  | 0xC => s.plainUnless (s.wbBusy k || bits v 24 0 % 64 != 0) (rWb k o) v
  | 0x20 => s.writeWbseal k v
  | _ => s.plainWrite (rWb k o) v

/-- SB (R444, R445). -/
def Block.writeSb (s : Block) (o v : Nat) : Option Block :=
  if o < 0x200 then
    let k := o / 0x40
    (match o % 0x40 with
     | 8 => s.plainWrite (rSb o) v
     | 4 => s.plainUnless (s.partState k != 0 || decide (64 < bits v 12 6)) (rSb o) v
     | _ => s.plainUnless (s.partState k != 0) (rSb o) v)
  else if o = 0x200 then s.writePctl v
  else if o = 0x400 then s.plainUnless (bit v 2 && bit (s.rn (rSb 0x400)) 0) (rSb o) v
  else if o = 0x410 then s.writeZctl v
  else if 0x1000 ≤ o ∧ o < 0x1200 then s.writeWb ((o - 0x1000) / 0x40) (o % 0x40) v
  else if 0x2000 ≤ o ∧ o < 0x2200 ∧ o % 0x40 = 0 then s.writeJobctl ((o - 0x2000) / 0x40) v
  else s.plainWrite (rSb o) v

/-- LEDALLOC (R355, R437): refused while the partition has an open ring, and where the range leaves the general region,
overlaps another allocation or leaves out the sealed range; an empty range is none. -/
def Block.writeLedalloc (s : Block) (k v : Nat) : Option Block :=
  let b := bits v 8 0
  let n := bits v 17 9
  let r := (b * 0x10000, n * 0x10000)
  let (sb, sn) := s.sealedRange k
  let opened := (List.range 9).any (fun r => s.ringOpen r && s.ringPart r == k)
  let placed := n != 0 && (decide (b < 104) || decide (512 < b + n) ||
    (List.range 8).any (fun j => j != k && rangesMeet r (s.ledAlloc j)))
  let bare := sn != 0 && !(decide (r.1 ≤ sb) && decide (sb + sn ≤ r.1 + r.2))
  s.plainUnless (opened || placed || bare) (rHi (0x400 + 4 * k)) v

/-- The registers of ring r in the HI block: all but RCTL, CTAIL and RREL are refused while it is open (R356), those whose
fields are all RO among them (DEDUCED, log entry 133). -/
def Block.writeHiRing (s : Block) (r o v : Nat) : Option Block :=
  let a := rRing r o
  match o with
  | 0x04 => s.writeRctl r v
  | 0x18 => s.writeCtail r v
  | 0x28 => s.writeRrel r v
  | 0x00 =>
    let w := bits v 8 4
    s.plainUnless (s.ringOpen r || (w != 0 && decide (w < 16)) || bits v 10 9 == 3 || decide (bits v 15 12 < 8)) a v
  | 0x20 => s.plainUnless (s.ringOpen r || v % 64 != 0) a v
  | 0x30 => s.plainUnless (s.ringOpen r || v % 64 != 0) a v
  | 0x38 => s.plainUnless (s.ringOpen r || v % 16 != 0) a v
  | _ => s.plainUnless (s.ringOpen r) a v

/-- HI (R355-R357). -/
def Block.writeHi (s : Block) (r : Requester) (o v : Nat) : Option Block :=
  let peerOn := s.fld (rHi 0x700) 0 0 == 1
  if 0x1000 ≤ o then s.writeHiRing ((o - 0x1000) / 0x80) (o % 0x80) v
  else if inRow o 0x400 4 8 then s.writeLedalloc ((o - 0x400) / 4) v
  else if inRow o 0x500 4 8 then s.writeAtt ((o - 0x500) / 4) v
  else if inRow o 0x710 4 8 then s.plainUnless peerOn (rHi o) v
  else match o with
    | 0x148 => s.writeVioclr v
    | 0x540 => s.writeReatt r v
    | 0x700 => s.plainUnless (peerOn && bit v 0) (rHi o) v
    | _ => s.plainWrite (rHi o) v

/-- BB (R198): BASE only while PERM is 0, PORT 0b11 reserved, and no enabled window with LIMIT below BASE. -/
def Block.writeBb (s : Block) (o v : Nat) : Option Block :=
  let lim := s.rn (rBb (o + 8))
  if o % 16 = 0 then s.plainUnless (bits lim 53 52 != 0) (rBb o) v
  else s.plainUnless (bits v 55 54 == 3 || (bits v 53 52 != 0 && decide (bits v 51 12 < bits (s.rn (rBb (o - 8))) 51 12)))
    (rBb o) v

/-- A counter's registers at offset o from its first (R281). -/
def Block.writeCtr (s : Block) (n o v : Nat) : Option Block :=
  match o with
  | 0 => s.writeCtrVal n v
  | 4 => s.writeCtrCfg n v
  | _ => some s

/-- RG (R155, R177). -/
def Block.writeRg (s : Block) (r o v : Nat) : Option Block :=
  if o = 0xC then some (if bit v 0 then s.discardAsm r else s) else s.plainWrite (rRg r o) v

/-- A sequencer's block (R466). -/
def Block.writeSeq (s : Block) (q o v : Nat) : Option Block :=
  if o = 0 then s.writePlctl q v else s.plainWrite (rQ q o) v

/-- A core's block (R176, R166, R168, R179, R48, R56, R46, R204, R230, R254, R281, R282). -/
def Block.writeC (s : Block) (c o v : Nat) : Option Block :=
  let a := rC c o
  if inRow o 0x20 4 7 then s.plainUnless (bits v 19 10 == 0 || decide (s.fld a 9 0 < bits v 19 10)) a v
  else if 0x2000 ≤ o ∧ o < 0x2300 then s.writeCtr (64 * c + (o - 0x2000) / 16) (o % 16) v
  else match o with
    | 0x000 => s.writeCorectl c v
    | 0x008 => s.plainUnless (decide (2 ≤ v % 4)) a v
    | 0x080 => s.writeLmctl c v
    | 0x08C => s.lmStore c v
    | 0xA08 => s.writeSrseed c 0 v
    | 0xA0C => s.writeSrseed c 1 v
    | 0xC00 => s.plainUnless (v % 2 ^ 16 == 0) a v
    | 0xE04 => s.writeVrseed c 0 v
    | 0xE08 => s.writeVrseed c 1 v
    | 0xF00 => s.writeSfuCtl c v
    | 0xF04 => s.plainUnless (bits v 25 0 % 32 != 0 || decide (0x27FCFC0 < bits v 25 0)) a v
    | 0x2300 => s.plainUnless (v % 2 ^ 20 == 0) a v
    | 0x2304 => s.plainUnless (v % 2 ^ 20 == 0) a v
    | _ => s.plainWrite a v

/-- A delay register (R304, R312): only in DELAY, and group 32 has no receive delay. -/
def Block.writeDly (s : Block) (p o v : Nat) : Option Block :=
  s.plainUnless (s.fld (rP p 0) 2 0 != 1 || (o % 0x100 == 0x80 && bits v 13 8 != 0)) (rP p o) v

/-- BLUERR of the selected unit (R114). -/
def Block.writeBluerr (s : Block) (p v : Nat) : Option Block :=
  some (s.mapBlu (s.bluSel p) (fun u => { u with err := u.err &&& ~~~(BitVec.ofNat 7 v) }))

/-- A pillar controller's block (R312-R314, R113, R114); what a retried die answers comes from outside. -/
def Block.writeP (s : Block) (r : Requester) (p o v : Nat) : Option Block :=
  let a := rP p o
  if inRow o 0x80 4 9 then s.plainUnless (bits v 15 0 == 0 || decide (bits v 15 0 < bits v 31 16)) a v
  else if 0x2000 ≤ o then s.writeDly p o v
  else match o with
    | 0x060 => let (x, t) := s.draw; t.writeDiectl p v (x % 2 == 1)
    | 0x070 => s.plainUnless (bits v 10 1 == 0) a v
    | 0x0A8 => s.plainUnless (v % 16 == 0 || decide (12 ≤ v % 16)) a v
    | 0x0B0 => s.plainUnless (bits v 20 5 == 0) a v
    | 0x100 => s.plainUnless (decide (9 ≤ v % 16) || bits v 8 4 == 0) a v
    | 0x104 => s.writeRefstat p v
    | 0x128 => s.plainUnless (v % 8 == 0) a v
    | 0x180 => s.writeDlyctl p v
    | 0x190 => s.writeSparectl r p v
    | 0xC00 => s.plainUnless (bit v 12 && bits v 11 8 != 0) a v
    | 0xC08 => s.writeBluerr p v
    | 0xC18 => s.writeBluCntClr p v
    | _ => s.plainWrite a v

/-- What an accepted-or-refused write of the register at a BAR0 offset does; none refuses it (R7). -/
def Block.writeReg (s : Block) (r : Requester) (a v : Nat) : Option Block :=
  if a < 0x10000 then s.writeMc a v
  else if a < 0x20000 then s.writeEv (a - 0x10000) v
  else if a < 0x30000 then (if a = rJr 4 then s.writeJctl v else s.plainWrite a v)
  else if a < 0x40000 then (if a = rAl 0x10 then s.writeRtcset v else s.plainWrite a v)
  else if a < 0x50000 then s.writeSo (a - 0x40000) v
  else if a < 0x60000 then s.writeSb (a - 0x50000) v
  else if a < 0x70000 then s.writeHi r (a - 0x60000) v
  else if a < 0x80000 then s.writeBb (a - 0x70000) v
  else if a < 0x90000 then s.writeCtr (0x1000 + (a - 0x80000) / 16) (a % 16) v
  else if a < 0xA0000 then (if a = rSy 0x10000 then s.hsig r v else s.plainWrite a v)
  else if a < 0xB0000 then s.writeRg ((a - 0xA0000) / 0x1000) (a % 0x1000) v
  else if a < 0x100000 then s.writeSeq ((a - 0xB0000) / 0x1000) (a % 0x1000) v
  else if a < 0x200000 then s.writeC ((a - 0x100000) / 0x10000) (a % 0x10000) v
  else if a < 0x400000 then s.writeP r ((a - 0x200000) / 0x10000) (a % 0x10000) v
  else if a = rEl 0xC then s.writeLostclr v
  else s.plainWrite a v

/-- Whether a requester may write a register (R426); ZCTL goes by the partition it names (R442). -/
def Block.mayWrite (s : Block) (r : Requester) (a v : Nat) : Bool :=
  if a = rSb 0x410 then s.mayZeroise r (bits v 2 0) else s.reqMay r a true

/-- A whole register written by a requester. -/
def Block.busWrite (s : Block) (r : Requester) (a v : Nat) : Block :=
  s.guardedBy r (s.mayWrite r a v) a v (fun s => s.writeReg r a v)

/-! ### Sizes and halves (R516, R517) -/

/-- The low half of a 64-bit register is held for the requester, if it may write it. -/
def Block.holdLow (s : Block) (r : Requester) (a v : Nat) : Block :=
  if !(s.reqPresent r) then s
  else
    let s := s.dropHeld r
    if (s.life == .dawn && r != .mc) || !(s.mayWrite r a v) || s.blockOff a then s.busWrite r a v
    else
      let l := s.latches.get noLatch (reqKey r)
      { s with latches := s.latches.set noLatch (reqKey r) { l with heldAt := some a, held := BitVec.ofNat 32 v } }

/-- The high half of the 64-bit register at a: with the held low half, or with the current value of its RW fields. -/
def Block.joinHigh (s : Block) (r : Requester) (a v : Nat) : Block :=
  let l := s.latches.get noLatch (reqKey r)
  let rw := match regInfo a with
    | some i => i.rw
    | none => 0
  let (lo, s) := if l.heldAt = some a then
      (l.held.toNat, { s with latches := s.latches.set noLatch (reqKey r) { l with heldAt := none, held := 0 } })
    else ((s.rn a &&& rw) % 2 ^ 32, s)
  s.busWrite r a (lo + v <<< 32)

/-- A 32-bit write at an aligned offset. -/
def Block.write32 (s : Block) (r : Requester) (a v : Nat) : Block :=
  let v := v % 2 ^ 32
  if wideAt a then s.holdLow r a v
  else if 4 ≤ a ∧ wideAt (a - 4) = true then s.joinHigh r (a - 4) v
  else s.busWrite r a v

/-- A 64-bit write that is two 32-bit accesses in one cycle: a status bit that the access to the low word sets stays set
though the access to the high word clears it (R8, R516). -/
def Block.writeBoth (s : Block) (r : Requester) (a v : Nat) : Block :=
  let t := s.write32 r a v
  let u := t.write32 r (a + 4) (v >>> 32)
  let w1c := match regInfo (a + 4) with
    | some i => i.w1c
    | none => 0
  let rose := t.reg (a + 4) &&& ~~~(s.reg (a + 4)) &&& BitVec.ofNat 64 w1c
  if rose = 0 then u else u.setReg (a + 4) (u.reg (a + 4) ||| rose)

/-- `REGISTER_WRITE` (R7, R516-R518): a BAR0 write of n bytes. -/
def execRegisterWrite (req : Requester) (off : BitVec 26) (bytes : Nat) (value : BitVec 64) (st : State) :
    Host.Outcome State Fault Refusal := st.act fun s =>
  let a := off.toNat
  let v := value.toNat
  .next <| if bytes = 4 ∧ a % 4 = 0 then s.write32 req a v
  else if bytes = 8 ∧ a % 8 = 0 then
    (if wideAt a then s.busWrite req a v else s.writeBoth req a v)
  else if s.reqPresent req then (s.dropHeld req).writeReject a v
  else s

/-! ### Standing orders fire (R409, R410) -/

/-- A write of an order with its result: 1 where it was taken, 2 where it was refused with WRITE_REJECT (R7, R410). -/
def Block.orderWrite (r : Block × List Nat) (w : Block → Block) : Block × List Nat :=
  let s := r.1
  let t := w s
  let n := t.rn (rEl 0)
  let last := (t.evlog.get noEvent ((n + 2 ^ 32 - 1) % 2 ^ 32 % 16384)).toNat
  (t, r.2 ++ [if n != s.rn (rEl 0) && bits last 47 32 == 2 then 2 else 1])

/-- The writes of an order's action, made by the MC as ordinary writes, with the result of each (DESIGN CHOICE, log
entry 94). -/
def Block.orderWrites (s : Block) (i : Nat) : Block × List Nat :=
  let u := bits (s.orderUnit i) 11 0
  let arg := s.orderArg i
  let p := u / 32
  let d := u % 32
  let put := fun (a v : Nat) (r : Block × List Nat) => Block.orderWrite r (fun s => s.busWrite .mc a v)
  let spare := fun mode : Nat =>
    if 16 ≤ d then Block.orderWrite (s, []) (fun s => s.writeReject (rP p 0x190) (d + arg <<< 6 + 1 <<< 11))
    else put (rP p 0x190) (d + mode <<< 4 + arg <<< 6 + 1 <<< 11) (s, [])
  match s.orderAction i with
  | 1 => put (rC u 0) 2 (s, [])
  | 2 => put (rC u 0) 4 (if s.fld (rC u 4) 1 0 = 0 then put (rC u 0) 1 (s, []) else (s, []))
  | 3 => spare 0
  | 4 => spare 1
  | 5 => put (rP p 0x60) (d + 32) (s, [])
  | 6 => if arg % 4 < s.fld (rEv 4) 1 0 then put (rEv 4) (arg % 4) (s, []) else (s, [])
  | 7 => put (rSb 0x410) (u + 8) (s, [])
  | 8 => put (rQ u 0) 16 (s, [])
  | 9 => put (rHi (0x500 + 4 * u)) 8 (s, [])
  | _ => (s, [])

/-- When an order has not fired. -/
def neverFired (_ : Nat) : Option Nat := none

/-- Whether order i fires for an event (R410). -/
def Block.orderMatches (s : Block) (e : LoggedEvent) (i : Nat) : Bool :=
  s.orderClass i != 0 && s.orderClass i == e.cls && (s.orderUnit i == 0xFFFF || s.orderUnit i == e.unit) &&
    decide (s.rn (rSo (0x400 + 4 * i)) < s.orderMax i) && (match s.orderAt.get neverFired i with
    | none => true
    | some t => decide (t + usCycles (1000 * s.orderWord i 2) ≤ s.cycle))

/-- `ORDER_FIRE` (R410): the MC considers the oldest event it has still to consider (DEDUCED, log entry 93). The ORDER
event names the order, its ACTION and the result of each write, a byte each (R415; DESIGN CHOICE, log entry 21). -/
def execOrderFire (st : State) : Host.Outcome State Fault Refusal := st.act fun s =>
  .next <| if s.life ≠ .service then s
  else match s.orderEvents with
  | [] => s
  | e :: rest =>
    let s := { s with orderEvents := rest }
    match (if bit (s.rn (rSo 0)) 0 then (List.range 32).find? (s.orderMatches e) else none) with
    | none => s
    | some i =>
      let s := { s.bump32 (rSo (0x400 + 4 * i)) 1 with orderAt := s.orderAt.set neverFired i (some s.cycle) }
      let act := s.orderAction i
      let (s, rs) := s.orderWrites i
      s.logWords 0x81 0 ((i + 1, 1) :: (act, 1) :: rs.map (fun x => (x, 1)))

end Sys2Proof.Machine
end

