-- ==== Sys2Proof/Machine/Read.lean ====
section
/-!
DEFINITION. What a read of a BAR0 register returns: the stored register, and the fields that the register tables
define by the rest of the state (R7, R62, R113, R114, R144, R155, R166, R168, R176, R230, R254, R281, R282, R413,
R416, R419, R494, R516-R520).
-/
namespace Sys2Proof.Machine

/-! ### Core blocks -/

/-- WAITON of engine e in lane l (R282). -/
def Block.waitOn (s : Block) (c e l : Nat) : Nat :=
  match s.head? (qKey c e l) with
  | some en => (match en.wait with
    | some w => w.ctr + 2 ^ 13 + (b2n w.phase2) <<< 14 + w.need <<< 15
    | none => 0)
  | none => 0

/-- QWAIT of CORESTAT, in place (R176). -/
def Block.qwait (s : Block) (c : Nat) : Nat :=
  ((List.range 7).map (fun e => (b2n (s.headWaits (qKey c e 0))) <<< (3 + e))).foldl (· + ·) 0

/-- Whether an entry of a queue has issued and not completed. -/
def Block.running (s : Block) (c e l : Nat) : Bool := (s.issued? (qKey c e l)).isSome

/-- BUSY, SUSPENDED and URG_BUSY of an engine (R221, R227, R230) (DEDUCED, log entry 105). -/
def Block.busyBits (s : Block) (c e : Nat) : Nat :=
  let n := s.running c e 0
  let u := s.running c e 1
  b2n (n && !u) + (b2n (n && u)) <<< 1 + (b2n u) <<< 2

/-- Tickets that core c holds in a lane (R144). -/
def Block.coreTickets (s : Block) (c l : Nat) : Nat :=
  (s.ops.filter (fun p => match p.2 with
    | some o => o.core == c && o.lane == l
    | none => false)).length

/-- Bit i of a 32-bit mask is 1 where a test holds of b + i. -/
def maskOf (b : Nat) (p : Nat → Bool) : Nat := ((List.range 32).map (fun i => (b2n (p (b + i))) <<< i)).foldl (· + ·) 0

/-- Whether slot n is VALID. -/
def Block.slotValid (s : Block) (c n : Nat) : Bool := (s.sfuSlot c n).code == 2

/-- TABLE_ID of a VALID slot (R236, R254). -/
def Block.tableId (s : Block) (c n : Nat) : Nat :=
  if s.slotValid c n then ofBytes (((s.sfuSlot c n).image.drop 48).take 4) else 0

/-- Word w of descriptor entry h (R62). -/
def Block.descWord (s : Block) (c h w : Nat) : Nat :=
  match s.desc? c h with
  | some d => bits d.toNat (32 * w + 31) (32 * w)
  | none => 0

/-- A core's block at offset o. -/
def Block.viewC (s : Block) (c o : Nat) : Nat :=
  let v := s.rn (rC c o)
  if inRow o 0x20 4 7 then v + (s.queue (qKey c ((o - 0x20) / 4) 0)).length <<< 20
  else if inRow o 0x2310 4 7 then s.waitOn c ((o - 0x2310) / 4) 0
  else if inRow o 0x2330 4 7 then s.waitOn c ((o - 0x2330) / 4) 1
  else if inRow o 0x4000 4 4096 then s.descWord c ((o - 0x4000) / 32) ((o - 0x4000) / 4 % 8)
  else if inRow o 0x8000 4 16 then maskOf (8 * (o - 0x8000)) (fun h => (s.desc? c h).isSome)
  else if inRow o 0xF0C 4 2 then maskOf (8 * (o - 0xF0C)) (s.slotValid c)
  else if inRow o 0xF40 4 64 then s.tableId c ((o - 0xF40) / 4)
  else if 0x2000 ≤ o ∧ o < 0x2300 ∧ o % 16 = 0 then v + (s.nwait (64 * c + (o - 0x2000) / 16)) <<< 25
  else match o with
    | 0x004 => v + s.qwait c
    | 0x084 => v + (b2n (s.swapWaits c)) <<< 16 + (b2n (s.call? c).isSome) <<< 17
    | 0xB00 => v + s.coreTickets c 0 + (s.coreTickets c 1) <<< 12 + (b2n (s.litWait c)) <<< 20
    | 0xE00 => s.busyBits c eVec
    | 0xE0C => b2n (s.domOn (8 + c)) + (s.busyBits c eMtx) <<< 1
    | _ => v

/-! ### Pillar controllers -/

/-- Whether some BLU of a die has a nonzero BLUERR (R114). -/
def Block.dieErr (s : Block) (p d : Nat) : Bool := s.blus.any (fun x => x.1 / 256 == 17 * p + d && x.2.err != 0#7)

/-- BLUST of a unit (R494). -/
def Block.blust (s : Block) (k : Nat) : Nat :=
  let u := s.blu k
  if u.tested then 1 + (b2n u.passed) <<< 1 + u.firstFail <<< 2
  else if s.testedDies.contains (k / 256) then 3 else 0

/-- BLUSTAT of a unit (R88, R114). -/
def Block.blustat (s : Block) (p k : Nat) : Nat :=
  let u := s.blu k
  let st := if s.offline p (k / 256 % 17) then 0 else u.st
  st + (b2n u.uop.isSome) <<< 3 + (b2n u.lit) <<< 4 + (b2n u.ckptValid) <<< 5 +
    (match (if st ≤ 1 then none else u.op) with
     | some o => o.ticket <<< 6
     | none => 0)

/-- A pillar controller's block at offset o; the BLU window shows the selected unit (R113). -/
def Block.viewP (s : Block) (p o : Nat) : Nat :=
  let v := s.rn (rP p o)
  let k := s.bluSel p
  let u := s.blu k
  match o with
  | 0xC04 => s.blustat p k
  | 0xC08 => u.err.toNat
  | 0xC0C => u.ce
  | 0xC10 => u.ue
  | 0xC14 => u.rescnt
  | 0xC1C => u.last
  | 0xC20 => ((List.range 17).map (fun d => (b2n (s.dieErr p d)) <<< d)).foldl (· + ·) 0
  | 0xC34 => s.blust k
  | _ => v

/-! ### The other blocks -/

/-- RG.r.RINGSTAT (R155). -/
def Block.viewRg (s : Block) (r o : Nat) : Nat :=
  let v := s.rn (rRg r o)
  if o = 8 then v + (b2n (s.ring r).asm.isSome) <<< 4 + (b2n (r == 8 && s.urgentFull)) <<< 5 else v

/-- PILLARS of MC.SVC: the controllers in SERVICE (R413). -/
def Block.pillarsUp (s : Block) : List Nat := (List.range 16).filter (fun p => s.fld (rP p 0) 2 0 == 3)

/-- Whether a sequencer is stopped by a double-window fault (R386, R413) (DEDUCED, log entry 104). -/
def Block.seqDead (s : Block) (q : Nat) : Bool := s.fld (rQ q 8) 2 0 == 4 && s.fld (rQ q 8) 15 8 == 0xC4

/-- MC.SVC (R413): self-test's answers are stored, the rest shows what works now. -/
def Block.svc (s : Block) : Nat :=
  let v := s.rn (rMc 0x40)
  let cores := bits v 9 2
  let seqs := ((List.range 16).map (fun q => (b2n (bit v (10 + q) && !(s.seqDead q))) <<< q)).foldl (· + ·) 0
  let ps := s.pillarsUp
  let l1 := (s.dlUp 0 || s.dlUp 1) && cores != 0 && seqs != 0 && bit v 44
  let l2 := l1 && ps.any (fun p => (List.range 17).any (fun d => s.dieState p d == 0 || s.dieState p d == 4))
  (if l2 then 3 else if l1 then 2 else 1) + cores <<< 2 + seqs <<< 10 +
    ((ps.map (fun p => 2 ^ p)).foldl (· + ·) 0) <<< 26 + (b2n (s.dlUp 0)) <<< 42 + (b2n (s.dlUp 1)) <<< 43 +
    (b2n (bit v 44)) <<< 44

/-- SB.ADMIN: the open administrator session (R444). -/
def Block.sbAdmin (s : Block) : Nat :=
  b2n (bit (s.rn (rSb 0x300)) 0) + (match s.sessions.find? (fun x => s.isAdmin x) with
    | some x => 2 + x.port.num <<< 2
    | none => 0)

/-- The register that starts at a BAR0 offset of a block that is on. -/
def Block.viewOn (s : Block) (a : Nat) : Nat :=
  if a = rMc 0x40 then s.svc
  else if a = rHi 0x600 then s.now % 2 ^ 64
  else if a = rEv 0x90 then s.litNow + (s.fld (rEv 0x90) 31 15) <<< 15
  else if a = rAl 8 then s.rtcNow
  else if a = rSb 0x300 then s.sbAdmin
  else if 0x80000 ≤ a ∧ a < 0x90000 ∧ a % 16 = 0 then s.rn a + (s.nwait (0x1000 + (a - 0x80000) / 16)) <<< 25
  else if 0xA0000 ≤ a ∧ a < 0xA9000 then s.viewRg ((a - 0xA0000) / 0x1000) (a % 0x1000)
  else if 0x100000 ≤ a ∧ a < 0x180000 then s.viewC ((a - 0x100000) / 0x10000) (a % 0x10000)
  else if 0x200000 ≤ a ∧ a < 0x300000 then s.viewP ((a - 0x200000) / 0x10000) (a % 0x10000)
  else if 0x500000 ≤ a ∧ a < 0x600000 then
    bits (s.evlog.get noEvent ((a - 0x500000) / 64)).toNat (8 * (a % 64) + 31) (8 * (a % 64))
  else s.rn a

/-- What a block that is off answers (R520). -/
def viewOff (a : Nat) : Nat :=
  if 0x100000 ≤ a ∧ a < 0x180000 then (if a % 0x10000 = 4 then 3 else 0)
  else if 0x200000 ≤ a ∧ a < 0x300000 then (if inRow (a % 0x10000) 0x10 4 17 then 5 else 0)
  else 0

/-- The blocks that answer reads while Dawn lasts: MC, EV, JR, AL and EL (R479). -/
def seenInDawn (a : Nat) : Bool := decide (a < 0x40000) || decide (0x400000 ≤ a)

/-- What a read of the register that starts at a BAR0 offset returns: reserved space and WO fields read as 0 (R7,
R518), and every register does while Dawn lasts but those R479 names (DEDUCED, log entry 110). -/
def Block.view (s : Block) (a : Nat) : Nat :=
  match regInfo a with
  | none => 0
  | some i =>
    if s.life == .dawn && !(seenInDawn a) then 0
    else if s.blockOff a then viewOff a else s.viewOn a &&& (2 ^ 64 - 1 - (i.wo - (i.wo &&& i.rw)))

/-- An aligned 32-bit read: a low half latches the high half for its requester, whose next read of the high half
returns it (R516, R517). -/
def Block.read32 (s : Block) (r : Requester) (a : Nat) : Block × Nat :=
  let s := s.dropHeld r
  let l := s.latches.get noLatch (reqKey r)
  let put := fun x : Latch => { s with latches := s.latches.set noLatch (reqKey r) x }
  if wideAt a then
    let v := s.view a
    (put { l with readAt := some a, readHi := BitVec.ofNat 32 (v >>> 32) }, v % 2 ^ 32)
  else if 4 ≤ a ∧ wideAt (a - 4) = true then
    (if l.readAt = some (a - 4) then (put { l with readAt := none, readHi := 0 }, l.readHi.toNat)
     else (s, s.view (a - 4) >>> 32))
  else (s, s.view a % 2 ^ 32)

/-! ### Pins that show the state (R496, R502) -/

/-- Pattern of a bracket LED. -/
inductive Led where
  | off | slow | fast | steady
deriving DecidableEq, Repr

/-- The green LED: off without supply, 1 Hz (slow) in Dawn, steady at L2, else 4 Hz (fast). -/
def Block.greenLed (s : Block) : Led :=
  if s.life = .night ∨ s.life = .dark then .off
  else if s.life = .dawn then .slow
  else if bits s.svc 1 0 = 3 then .steady else .fast

/-- The amber LED: 4 Hz (fast) at FW_FAIL, 1 Hz (slow) in Twilight, steady under a trip or with LAPSED set; without
supply neither LED lights (DEDUCED, log entry 111). -/
def Block.amberLed (s : Block) : Led :=
  if s.life = .night ∨ s.life = .dark then .off
  else if s.fld (rMc 0x10) 3 0 = 10 then .fast
  else if s.fld (rJr 0) 2 0 = 1 ∨ s.fld (rJr 0) 2 0 = 2 then .slow
  else if s.fld (rEv 0xB8) 0 0 = 1 ∨ s.fld (rJr 8) 8 8 = 1 then .steady else .off

/-- TRIP#, asserted while TRIP = 1 and released without supply. -/
def Block.tripPin (s : Block) : Bool :=
  s.fld (rEv 0xB8) 0 0 == 1 && s.life != .night && s.life != .dark

end Sys2Proof.Machine
end

