-- ==== Sys2Proof/Machine/Seq.lean ====
section
/-!
DEFINITION. The instructions of the sequencer cores (16_sequencer_cores.md, R447-R460).

Every row runs the instruction at PC if that is the row's; a word that is no valid instruction, or a PC that cannot be
fetched from, faults the plan whichever row is commanded.
-/
namespace Sys2Proof.Machine

/-! ### Registers and windows (R450, R451) -/

/-- A window register that nothing has written. -/
def winZero (_ : Nat) : Word := 0#32

/-- PC. -/
def Block.seqPc (s : Block) (q : Nat) : Nat := s.rn (rQ q 0xC)
/-- FDEPTH. -/
def Block.fdepth (s : Block) (q : Nat) : Nat := s.fld (rQ q 0x10) 10 0
/-- RES. -/
def Block.resFrames (s : Block) (q : Nat) : Nat := s.fld (rQ q 0x10) 13 11
/-- SPILLED. -/
def Block.spilled (s : Block) (q : Nat) : Nat := s.fld (rQ q 0x10) 24 14
/-- SP, the spill pointer. -/
def Block.spillPtr (s : Block) (q : Nat) : Nat := s.rn (rQ q 0x14)
/-- TRAP. -/
def Block.inTrap (s : Block) (q : Nat) : Bool := s.fld (rQ q 8) 16 16 == 1

/-- FDEPTH, RES and SPILLED set. -/
def Block.setWin (s : Block) (q fdepth res spilled : Nat) : Block :=
  s.setRn (rQ q 0x10) (fdepth % 2048 + (res % 8) <<< 11 + (spilled % 2048) <<< 14)

/-- Register n of the frame of depth d, whose window is W(d mod 7). -/
def Block.winReg (s : Block) (q d n : Nat) : Word := (s.seq q).win.get winZero (16 * (d % 7) + n)

/-- Register n of the frame of depth d set. -/
def Block.setWinReg (s : Block) (q d n : Nat) (v : Word) : Block :=
  s.onSeq q (fun x => { x with win := x.win.set winZero (16 * (d % 7) + n) v })

/-- The register a specifier names: 0-7 the globals, 16-31 the current window (R450). -/
def Block.seqReg (s : Block) (q n : Nat) : Word :=
  if n < 8 then BitVec.ofNat 32 (s.rn (rQ q (0x20 + 4 * n))) else s.winReg q (s.fdepth q) (n - 16)

/-- The register a specifier names set. -/
def Block.setSeqReg (s : Block) (q n : Nat) (v : Word) : Block :=
  if n < 8 then s.setRn (rQ q (0x20 + 4 * n)) v.toNat else s.setWinReg q (s.fdepth q) (n - 16) v

/-- Registers wn0-wn3 of the frame of depth d copied to the frame of depth e. -/
def Block.passArgs (s : Block) (q d e : Nat) : Block :=
  (List.range 4).foldl (fun s n => s.setWinReg q e n (s.winReg q d n)) s

/-! ### Instruction words (R454-R456) -/

/-- Opcode. -/
def wOp (w : Nat) : Nat := w % 256
/-- RD of forms R, I and U. -/
def wRd (w : Nat) : Nat := bits w 12 8
/-- RA of forms R and I. -/
def wRa (w : Nat) : Nat := bits w 17 13
/-- RB of form R. -/
def wRb (w : Nat) : Nat := bits w 22 18
/-- IMM of form I, sign-extended. -/
def wImm (w : Nat) : Word := BitVec.ofInt 32 (sext 14 (bits w 31 18))
/-- 4 × OFF of form B. -/
def wOffB (w : Nat) : Int := 4 * sext 14 (bits w 31 18)
/-- 4 × OFF of form J. -/
def wOffJ (w : Nat) : Int := 4 * sext 24 (bits w 31 8)

/-- PC + 4 × OFF. -/
def target (pc : Nat) (off : Int) : Nat := toTwos 32 ((pc : Int) + off)

/-- A specifier that names no register (R450). -/
def noSpec (n : Nat) : Bool := decide (8 ≤ n) && decide (n < 16)

/-- Whether an opcode is in the table of R455. -/
def opDefined (op : Nat) : Bool :=
  decide (op ≤ 0xA) || (decide (0x10 ≤ op) && decide (op ≤ 0x1A)) || op == 0x20 ||
    (decide (0x28 ≤ op) && decide (op ≤ 0x2B)) || (decide (0x30 ≤ op) && decide (op ≤ 0x35)) ||
    (decide (0x38 ≤ op) && decide (op ≤ 0x3B)) || (decide (0x40 ≤ op) && decide (op ≤ 0x47))

/-- Whether a field that the opcode does not use is not 0, or a specifier names no register (R454, R456). -/
def wordReserved (w : Nat) : Bool :=
  let op := wOp w
  let d := noSpec (wRd w)
  let a := noSpec (wRa w)
  let b := noSpec (wRb w)
  if op ≤ 0xA ∨ op = 0x40 ∨ op = 0x43 then d || a || b || bits w 31 23 != 0
  else if 0x15 ≤ op ∧ op ≤ 0x17 then d || a || bits w 31 23 != 0
  else if op ≤ 0x1A then d || a
  else if op = 0x20 then d
  else if op ≤ 0x2B then d || a
  else if op ≤ 0x35 then d || a
  else if op ≤ 0x39 then false
  else if op = 0x3A then a || wRd w != 0 || bits w 31 18 != 0
  else if op = 0x41 then a || b || wRd w != 0 || bits w 31 23 != 0
  else if op = 0x44 ∨ op = 0x45 then d || bits w 31 13 != 0
  else bits w 31 8 != 0

/-! ### Issue -/

/-- Whether sequencer q executes: its domain is on, its plan is RUNNING and stands in no WAITEV, and the module serves
or has not reached the quiesce point of a Twilight (R393, R462) (DEDUCED, log entry 106). -/
def Block.seqActive (s : Block) (q : Nat) : Bool :=
  s.domOn (24 + q) && s.planState q == 2 && (match s.life with
    | .service => true
    | .twilight => (match s.twilight with
      | some t => !t.quiesced
      | none => false)
    | _ => false)

/-- The word at PC, where it can be fetched (R448) (DEDUCED, log entry 103). -/
def Block.seqWord (s : Block) (q : Nat) : Option Nat :=
  let pc := s.seqPc q
  if pc < 0x8000 ∧ pc % 4 = 0 then some (ofBytes (readBytes s.planMem (32768 * q + pc) 4)) else none

/-- One instruction executed, and PC moved (R466). -/
def Block.seqGoto (s : Block) (q pc : Nat) : Block := (s.bump48 (rQ q 0x70) 1).setRn (rQ q 0xC) pc

/-- One instruction executed, and PC on the next (DESIGN CHOICE, log entry 98). -/
def Block.seqNext (s : Block) (q : Nat) : Block := s.seqGoto q ((s.seqPc q + 4) % 2 ^ 32)

/-- Whether an opcode moves windows: CALL, CALLR or RET. -/
def opWindows (op : Nat) : Bool := op == 0x39 || op == 0x3A || op == 0x3B

/-- A double-window fault: a failed part (R453, R386). Its DETAIL is the word at PC where that is the commanded
instruction; else the spec does not say which word the handler ran, and it is a free value. -/
def Block.doubleFault (s : Block) (q op : Nat) : Block :=
  let (d, s) := match s.seqWord q with
    | some w => if wOp w = op then (w, s) else s.draw
    | none => s.draw
  (s.planFault q 0xC4 d).failPart (.seq q)

/-- The instruction at PC runs if its opcode is `op`. While TRAP = 1 the base firmware's handler runs and no plan
instruction does; a CALL, CALLR or RET is then a double-window fault (R453). -/
def Block.seqIssue (s : Block) (q op : Nat) (act : Block → Nat → Block) : Block :=
  if !(s.seqActive q) || (s.seq q).wait.isSome then s
  else if s.inTrap q then (if opWindows op then s.doubleFault q op else s)
  else match s.seqWord q with
  | none => s.planFault q 0xC2 (s.seqPc q)
  | some w =>
    if !(opDefined (wOp w)) || wOp w == 0x47 then s.planFault q 0xC0 w
    else if wordReserved w then s.planFault q 0xC1 w
    else if wOp w = op then act s w
    else s

/-! ### Arithmetic (R455) -/

/-- RD := RA op RB. -/
def Block.seqOpR (s : Block) (q op : Nat) (f : Word → Word → Word) : Block :=
  s.seqIssue q op (fun s w => (s.setSeqReg q (wRd w) (f (s.seqReg q (wRa w)) (s.seqReg q (wRb w)))).seqNext q)

/-- RD := RA op IMM. -/
def Block.seqOpI (s : Block) (q op : Nat) (f : Word → Word → Word) : Block :=
  s.seqIssue q op (fun s w => (s.setSeqReg q (wRd w) (f (s.seqReg q (wRa w)) (wImm w))).seqNext q)

/-- A shift left by bits [4:0] of its amount. -/
def seqShl (a b : Word) : Word := a <<< (b.toNat % 32)
/-- A logical shift right. -/
def seqShr (a b : Word) : Word := a >>> (b.toNat % 32)
/-- An arithmetic shift right. -/
def seqSra (a b : Word) : Word := a.sshiftRight (b.toNat % 32)
/-- 1 where a is below b as signed numbers. -/
def seqSlt (a b : Word) : Word := if a.slt b then 1#32 else 0#32
/-- 1 where a is below b as unsigned numbers. -/
def seqSltu (a b : Word) : Word := if a.ult b then 1#32 else 0#32

/-- `ADD` (R455). -/
def execSeqAdd (seq : SeqId) (st : State) : Host.Outcome State Fault Refusal := st.act fun s =>
  .next (s.seqOpR seq.val 0x00 (fun a b => a + b))
/-- `SUB` (R455). -/
def execSeqSub (seq : SeqId) (st : State) : Host.Outcome State Fault Refusal := st.act fun s =>
  .next (s.seqOpR seq.val 0x01 (fun a b => a - b))
/-- `AND` (R455). -/
def execSeqAnd (seq : SeqId) (st : State) : Host.Outcome State Fault Refusal := st.act fun s =>
  .next (s.seqOpR seq.val 0x02 (fun a b => a &&& b))
/-- `OR` (R455). -/
def execSeqOr (seq : SeqId) (st : State) : Host.Outcome State Fault Refusal := st.act fun s =>
  .next (s.seqOpR seq.val 0x03 (fun a b => a ||| b))
/-- `XOR` (R455). -/
def execSeqXor (seq : SeqId) (st : State) : Host.Outcome State Fault Refusal := st.act fun s =>
  .next (s.seqOpR seq.val 0x04 (fun a b => a ^^^ b))
/-- `SHL` (R455). -/
def execSeqShl (seq : SeqId) (st : State) : Host.Outcome State Fault Refusal := st.act fun s =>
  .next (s.seqOpR seq.val 0x05 seqShl)
/-- `SHR` (R455). -/
def execSeqShr (seq : SeqId) (st : State) : Host.Outcome State Fault Refusal := st.act fun s =>
  .next (s.seqOpR seq.val 0x06 seqShr)
/-- `SRA` (R455). -/
def execSeqSra (seq : SeqId) (st : State) : Host.Outcome State Fault Refusal := st.act fun s =>
  .next (s.seqOpR seq.val 0x07 seqSra)
/-- `MUL` (R455): the low 32 bits. -/
def execSeqMul (seq : SeqId) (st : State) : Host.Outcome State Fault Refusal := st.act fun s =>
  .next (s.seqOpR seq.val 0x08 (fun a b => a * b))
/-- `SLT` (R455). -/
def execSeqSlt (seq : SeqId) (st : State) : Host.Outcome State Fault Refusal := st.act fun s =>
  .next (s.seqOpR seq.val 0x09 seqSlt)
/-- `SLTU` (R455). -/
def execSeqSltu (seq : SeqId) (st : State) : Host.Outcome State Fault Refusal := st.act fun s =>
  .next (s.seqOpR seq.val 0x0A seqSltu)

/-- `ADDI` (R455). -/
def execSeqAddi (seq : SeqId) (st : State) : Host.Outcome State Fault Refusal := st.act fun s =>
  .next (s.seqOpI seq.val 0x10 (fun a b => a + b))
/-- `SUBI` (R455). -/
def execSeqSubi (seq : SeqId) (st : State) : Host.Outcome State Fault Refusal := st.act fun s =>
  .next (s.seqOpI seq.val 0x11 (fun a b => a - b))
/-- `ANDI` (R455). -/
def execSeqAndi (seq : SeqId) (st : State) : Host.Outcome State Fault Refusal := st.act fun s =>
  .next (s.seqOpI seq.val 0x12 (fun a b => a &&& b))
/-- `ORI` (R455). -/
def execSeqOri (seq : SeqId) (st : State) : Host.Outcome State Fault Refusal := st.act fun s =>
  .next (s.seqOpI seq.val 0x13 (fun a b => a ||| b))
/-- `XORI` (R455). -/
def execSeqXori (seq : SeqId) (st : State) : Host.Outcome State Fault Refusal := st.act fun s =>
  .next (s.seqOpI seq.val 0x14 (fun a b => a ^^^ b))
/-- `SHLI` (R455). -/
def execSeqShli (seq : SeqId) (st : State) : Host.Outcome State Fault Refusal := st.act fun s =>
  .next (s.seqOpI seq.val 0x15 seqShl)
/-- `SHRI` (R455). -/
def execSeqShri (seq : SeqId) (st : State) : Host.Outcome State Fault Refusal := st.act fun s =>
  .next (s.seqOpI seq.val 0x16 seqShr)
/-- `SRAI` (R455). -/
def execSeqSrai (seq : SeqId) (st : State) : Host.Outcome State Fault Refusal := st.act fun s =>
  .next (s.seqOpI seq.val 0x17 seqSra)
/-- `MULI` (R455). -/
def execSeqMuli (seq : SeqId) (st : State) : Host.Outcome State Fault Refusal := st.act fun s =>
  .next (s.seqOpI seq.val 0x18 (fun a b => a * b))
/-- `SLTI` (R455). -/
def execSeqSlti (seq : SeqId) (st : State) : Host.Outcome State Fault Refusal := st.act fun s =>
  .next (s.seqOpI seq.val 0x19 seqSlt)
/-- `SLTUI` (R455). -/
def execSeqSltui (seq : SeqId) (st : State) : Host.Outcome State Fault Refusal := st.act fun s =>
  .next (s.seqOpI seq.val 0x1A seqSltu)

/-- `LUI` (R455). -/
def execSeqLui (seq : SeqId) (st : State) : Host.Outcome State Fault Refusal := st.act fun s =>
  .next (s.seqIssue seq.val 0x20 (fun s w =>
    (s.setSeqReg seq.val (wRd w) (BitVec.ofNat 32 (bits w 31 13 <<< 13))).seqNext seq.val))

/-! ### Loads and stores (R448, R449) -/

/-- A Ledger byte as the sequencer sees it: its own store in flight, else what is visible (R449). -/
def Block.seqLedByte (s : Block) (q a : Nat) : Byte :=
  match (s.seq q).stores.reverse.find? (fun b => b.1 == a) with
  | some b => b.2
  | none => s.ledger.get byteZero a

/-- `n` Ledger bytes as the sequencer sees them. -/
def Block.seqLedBytes (s : Block) (q a n : Nat) : List Byte := (List.range n).map (fun i => s.seqLedByte q (a + i))

/-- Whether the sequencer reaches n Ledger bytes at a: inside its partition's allocation and outside its sealed
range. -/
def Block.seqLedMay (s : Block) (q a n : Nat) : Bool :=
  match s.seqOwner q with
  | some k => s.inLedAlloc k a n && !(rangesMeet (a, n) (s.sealedRange k))
  | none => false

/-- Ledger offset of an address in the map of completion rings, for a place of a ring the sequencer writes. -/
def Block.seqPlace (s : Block) (q a : Nat) : Option Nat :=
  let r := (a - 0x20000000) / 0x100000
  let o := a % 0x100000
  if 0x20000000 ≤ a ∧ a < 0x20900000 ∧ (s.planRings q).contains r = true ∧ o < 32 * s.csize r then some ((s.cring r).1 + o)
  else none

/-- A load of n bytes: the code and DETAIL of its fault, or the value (R447, R448). -/
def Block.seqLoad (s : Block) (q a n : Nat) : Block × Except (Nat × Nat) Nat :=
  let bad : Except (Nat × Nat) Nat := .error (0xC2, a)
  if a % n ≠ 0 then (s, bad)
  else if a < 0x8000 then
    (if n = 4 then (s, .ok (ofBytes (readBytes s.planMem (32768 * q + a) 4))) else (s, bad))
  else if 0x10000 ≤ a ∧ a < 0x20000 then
    match s.sramRead 6 q (a - 0x10000) n with
    | (s, some d) => (s, .error (0xA0, d))
    | (s, none) => (s, .ok (ofBytes (readBytes s.stackMem (65536 * q + (a - 0x10000)) n)))
  else if 0x10000000 ≤ a ∧ a < 0x12000000 then
    (if s.seqLedMay q (a - 0x10000000) n then
      match s.ledScan (a - 0x10000000) n with
      | (s, some d) => (s, .error (0xA0, d))
      | (s, none) => (s, .ok (ofBytes (s.seqLedBytes q (a - 0x10000000) n)))
    else (s, bad))
  else if n ≠ 4 then (s, bad)
  else match s.seqPlace q a with
  | some o =>
    (match s.ledScan o n with
     | (s, some d) => (s, .error (0xA0, d))
     | (s, none) => (s, .ok (ofBytes (s.ledRead o n))))
  | none =>
    if h : q < 16 ∧ 0x40000000 ≤ a ∧ s.seqMay q (a - 0x40000000) = true then
      let (s, v) := s.read32 (.seq ⟨q, h.1⟩) (a - 0x40000000)
      (s, .ok v)
    else (s, bad)

/-- A store of n bytes: the code and DETAIL of its fault, or the state (R448, R449). -/
def Block.seqStore (s : Block) (q a n v : Nat) : Except (Nat × Nat) Block :=
  if a % n ≠ 0 then .error (0xC2, a)
  else if 0x10000 ≤ a ∧ a < 0x20000 then
    .ok { s with stackMem := writeBytes s.stackMem (65536 * q + (a - 0x10000)) (leBytes v n) }
  else if 0x10000000 ≤ a ∧ a < 0x12000000 ∧ s.seqLedMay q (a - 0x10000000) n = true then
    .ok (s.onSeq q (fun x => { x with
      stores := x.stores ++ ((List.range n).map (fun i => a - 0x10000000 + i)).zip (leBytes v n) }))
  else if h : n = 4 ∧ q < 16 ∧ 0x40000000 ≤ a ∧ s.seqMay q (a - 0x40000000) = true then
    .ok (s.write32 (.seq ⟨q, h.2.1⟩) (a - 0x40000000) v)
  else .error (0xC2, a)

/-- RA + IMM. -/
def Block.seqAddr (s : Block) (q w : Nat) : Nat := (s.seqReg q (wRa w) + wImm w).toNat

/-- RD := n bytes at RA + IMM, zero-extended. -/
def Block.seqLoadTo (s : Block) (q op n : Nat) : Block :=
  s.seqIssue q op (fun s w =>
    match s.seqLoad q (s.seqAddr q w) n with
    | (s, .ok v) => (s.setSeqReg q (wRd w) (BitVec.ofNat 32 v)).seqNext q
    | (s, .error x) => s.planFault q x.1 x.2)

/-- n bytes at RA + IMM := the low bytes of RD. -/
def Block.seqStoreFrom (s : Block) (q op n : Nat) : Block :=
  s.seqIssue q op (fun s w =>
    match s.seqStore q (s.seqAddr q w) n ((s.seqReg q (wRd w)).toNat % 2 ^ (8 * n)) with
    | .ok s => s.seqNext q
    | .error x => s.planFault q x.1 x.2)

/-- `LD.W` (R448, R455). -/
def execSeqLdW (seq : SeqId) (st : State) : Host.Outcome State Fault Refusal := st.act fun s =>
  .next (s.seqLoadTo seq.val 0x28 4)
/-- `ST.W` (R448, R455). -/
def execSeqStW (seq : SeqId) (st : State) : Host.Outcome State Fault Refusal := st.act fun s =>
  .next (s.seqStoreFrom seq.val 0x29 4)
/-- `LD.BU` (R448, R455). -/
def execSeqLdBu (seq : SeqId) (st : State) : Host.Outcome State Fault Refusal := st.act fun s =>
  .next (s.seqLoadTo seq.val 0x2A 1)
/-- `ST.B` (R448, R455). -/
def execSeqStB (seq : SeqId) (st : State) : Host.Outcome State Fault Refusal := st.act fun s =>
  .next (s.seqStoreFrom seq.val 0x2B 1)

/-- `SFENCE` (R449): every earlier Ledger store becomes visible. -/
def execSeqSfence (seq : SeqId) (st : State) : Host.Outcome State Fault Refusal := st.act fun s =>
  .next (s.seqIssue seq.val 0x42 (fun s _ => (s.showStores seq.val).seqNext seq.val))

/-! ### Branches, calls and returns (R451-R453, R455) -/

/-- A branch; RA and RB of form B stand where RD and RA of the other forms do. -/
def Block.seqBranch (s : Block) (q op : Nat) (taken : Word → Word → Bool) : Block :=
  s.seqIssue q op (fun s w =>
    if taken (s.seqReg q (wRd w)) (s.seqReg q (wRa w)) then s.seqGoto q (target (s.seqPc q) (wOffB w)) else s.seqNext q)

/-- `BEQ` (R455). -/
def execSeqBeq (seq : SeqId) (st : State) : Host.Outcome State Fault Refusal := st.act fun s =>
  .next (s.seqBranch seq.val 0x30 (fun a b => a == b))
/-- `BNE` (R455). -/
def execSeqBne (seq : SeqId) (st : State) : Host.Outcome State Fault Refusal := st.act fun s =>
  .next (s.seqBranch seq.val 0x31 (fun a b => a != b))
/-- `BLT` (R455). -/
def execSeqBlt (seq : SeqId) (st : State) : Host.Outcome State Fault Refusal := st.act fun s =>
  .next (s.seqBranch seq.val 0x32 (fun a b => a.slt b))
/-- `BGE` (R455). -/
def execSeqBge (seq : SeqId) (st : State) : Host.Outcome State Fault Refusal := st.act fun s =>
  .next (s.seqBranch seq.val 0x33 (fun a b => !(a.slt b)))
/-- `BLTU` (R455). -/
def execSeqBltu (seq : SeqId) (st : State) : Host.Outcome State Fault Refusal := st.act fun s =>
  .next (s.seqBranch seq.val 0x34 (fun a b => a.ult b))
/-- `BGEU` (R455). -/
def execSeqBgeu (seq : SeqId) (st : State) : Host.Outcome State Fault Refusal := st.act fun s =>
  .next (s.seqBranch seq.val 0x35 (fun a b => !(a.ult b)))
/-- `JMP` (R455). -/
def execSeqJmp (seq : SeqId) (st : State) : Host.Outcome State Fault Refusal := st.act fun s =>
  .next (s.seqIssue seq.val 0x38 (fun s w => s.seqGoto seq.val (target (s.seqPc seq.val) (wOffJ w))))

/-- TRAP set and the trap counted (R453) (DESIGN CHOICE, log entry 99). -/
def Block.enterTrap (s : Block) (q : Nat) : Block := (s.setFld (rQ q 8) 16 16 1).bump32 (rQ q 0x1C) 1

/-- The overflow trap (R451): the oldest resident frame is stored at SP − 64, wn0 lowest. -/
def Block.spillFrame (s : Block) (q : Nat) : Block :=
  let d := s.fdepth q - 6
  let sp := s.spillPtr q - 64
  let bs := (List.range 16).flatMap (fun n => leBytes (s.winReg q d n).toNat 4)
  let s := { s with stackMem := writeBytes s.stackMem (65536 * q + (sp - 0x10000)) bs }
  ((s.setRn (rQ q 0x14) sp).setWin q (s.fdepth q) 6 (s.spilled q + 1)).enterTrap q

/-- The underflow trap (R452): the caller's frame is loaded from SP. -/
def Block.fillFrame (s : Block) (q : Nat) : Block :=
  let d := s.fdepth q - 1
  let sp := s.spillPtr q
  match s.sramRead 6 q (sp - 0x10000) 64 with
  | (s, some x) => s.planFault q 0xA0 x
  | (s, none) =>
    let s := (List.range 16).foldl (fun s n => s.setWinReg q d n
      (BitVec.ofNat 32 (ofBytes (readBytes s.stackMem (65536 * q + (sp - 0x10000) + 4 * n) 4)))) s
    ((s.setRn (rQ q 0x14) (sp + 64)).setWin q (s.fdepth q) 2 (s.spilled q - 1)).enterTrap q

/-- CALL and CALLR (R451). -/
def Block.seqCall (s : Block) (q pc : Nat) : Block :=
  let d := s.fdepth q
  if s.resFrames q < 7 then
    let s := s.passArgs q d (d + 1)
    let s := s.setWinReg q (d + 1) 15 (BitVec.ofNat 32 (s.seqPc q + 4))
    (s.setWin q (d + 1) (s.resFrames q + 1) (s.spilled q)).seqGoto q pc
  else if (s.seq q).splim + 64 ≤ s.spillPtr q then s.spillFrame q
  else s.planFault q 0xC3 1

/-- RET (R452). -/
def Block.seqRet (s : Block) (q : Nat) : Block :=
  let d := s.fdepth q
  if 1 < s.resFrames q then
    let pc := (s.winReg q d 15).toNat
    let s := s.passArgs q d (d - 1)
    (s.setWin q (d - 1) (s.resFrames q - 1) (s.spilled q)).seqGoto q pc
  else if 0 < s.spilled q then s.fillFrame q
  else s.planFault q 0xC3 2

/-- What CALL does with its word. -/
def Block.runCall (s : Block) (q w : Nat) : Block := s.seqCall q (target (s.seqPc q) (wOffJ w))
/-- What CALLR does with its word. -/
def Block.runCallr (s : Block) (q w : Nat) : Block := s.seqCall q (s.seqReg q (wRa w)).toNat

/-- `CALL` (R451). -/
def execSeqCall (seq : SeqId) (st : State) : Host.Outcome State Fault Refusal := st.act fun s =>
  .next (s.seqIssue seq.val 0x39 (fun s w => s.runCall seq.val w))
/-- `CALLR` (R451). -/
def execSeqCallr (seq : SeqId) (st : State) : Host.Outcome State Fault Refusal := st.act fun s =>
  .next (s.seqIssue seq.val 0x3A (fun s w => s.runCallr seq.val w))
/-- `RET` (R452). -/
def execSeqRet (seq : SeqId) (st : State) : Host.Outcome State Fault Refusal := st.act fun s =>
  .next (s.seqIssue seq.val 0x3B (fun s _ => s.seqRet seq.val))

/-- The trapping instruction executed again: the CALL, CALLR or RET at PC (R453). -/
def Block.retryWindow (s : Block) (q : Nat) : Block :=
  match s.seqWord q with
  | none => s
  | some w =>
    if wOp w = 0x39 then s.runCall q w
    else if wOp w = 0x3A then s.runCallr q w
    else if wOp w = 0x3B then s.seqRet q
    else s

/-- `TRET` (R453, R456): clears TRAP and executes the trapping instruction again; FLT_SEQ_ILLEGAL while TRAP = 0. -/
def execSeqTret (seq : SeqId) (st : State) : Host.Outcome State Fault Refusal := st.act fun s =>
  let q := seq.val
  .next (if s.seqActive q && s.inTrap q then
      ((s.bump48 (rQ q 0x70) 1).setFld (rQ q 8) 16 16 0).retryWindow q
    else s.seqIssue q 0x47 (fun s _ => s))

/-! ### Rings, counters and events (R457-R459) -/

/-- The line PUT writes: bytes 0-59 at RB and their LCHK (R148, R457). -/
def putLine (bs : List Byte) : Line := BitVec.ofNat 512 (ofBytes (bs.take 60) + (crc32c (bs.take 60)).toNat <<< 480)

/-- PUT with its checks passed: 0 without credit, else the line is written (R457). In Twilight lines are discarded and
counted (R393). -/
def Block.putRing (s : Block) (q r rd : Nat) (bs : List Byte) : Block :=
  let w := s.rn (rPutn q r)
  if 8192 ≤ sub32 w (s.rn (rRg r 0)) then (s.setSeqReg q rd 0#32).seqNext q
  else
    let (t, s) := s.nextStamp
    let s := if s.life == .twilight then s.bump32 (rJr 0x40) 1 else s.setLine r (w % 8192) (some ⟨putLine bs, t⟩)
    ((s.setRn (rPutn q r) ((w + 1) % 2 ^ 32)).setSeqReg q rd 1#32).seqNext q

/-- `PUT` (R457) (DEDUCED, log entry 100). -/
def execSeqPut (seq : SeqId) (st : State) : Host.Outcome State Fault Refusal := st.act fun s =>
  let q := seq.val
  .next (s.seqIssue q 0x40 (fun s w =>
    let r := (s.seqReg q (wRa w)).toNat
    let a := (s.seqReg q (wRb w)).toNat
    if (s.planRings q).contains r = false then s.planFault q 0xC5 1
    else if a % 64 ≠ 0 ∨ a < 0x10000 ∨ 0x20000 ≤ a then s.planFault q 0xC5 2
    else match s.sramRead 6 q (a - 0x10000) 64 with
    | (s, some x) => s.planFault q 0xA0 x
    | (s, none) => s.putRing q r (wRd w) (readBytes s.stackMem (65536 * q + (a - 0x10000)) 64)))

/-- `SIG` (R458): a counter in no partition is foreign (R258) (DEDUCED, log entry 101). -/
def execSeqSig (seq : SeqId) (st : State) : Host.Outcome State Fault Refusal := st.act fun s =>
  let q := seq.val
  .next (s.seqIssue q 0x41 (fun s w =>
    let n := (s.seqReg q (wRa w)).toNat
    let amount := (s.seqReg q (wRb w)).toNat
    if amount = 0 ∨ 65535 < amount ∨ 8192 ≤ n then s.planFault q 0xC5 3
    else (s.signalLogged (reqSource (.seq seq)) (s.foreignReq (.seq seq) n) 0 n amount).seqNext q))

/-- `WAITEV` issues (R459): the sequencer then waits for `WAITEV_WAKE`. -/
def execSeqWaitev (seq : SeqId) (st : State) : Host.Outcome State Fault Refusal := st.act fun s =>
  let q := seq.val
  .next (s.seqIssue q 0x43 (fun s w =>
    let m := (s.seqReg q (wRa w)).toNat
    let n := (s.seqReg q (wRb w)).toNat
    if m = 0 ∨ (bit m 2 = true ∧ n = 0) then s.planFault q 0xC5 4
    else s.onSeq q (fun x => { x with wait := some ⟨m, n, s.cycle⟩ })))

/-- The pending events of a WAITEV (R459). -/
def Block.pendingEvents (s : Block) (q : Nat) (x : WaitEv) : Nat :=
  let rs := s.planRings q
  let heads := rs.any (fun r => (s.seq q).seenHead.get noneSeen r != s.rn (rRing r 0x14))
  let credits := rs.any (fun r => (s.seq q).seenCredit.get noneSeen r != s.rn (rRg r 0))
  b2n (bit x.mask 0 && heads) + (b2n (bit x.mask 1 && credits)) <<< 1 +
    (b2n (bit x.mask 2 && decide (x.since + x.cycles ≤ s.cycle))) <<< 2

/-- Events that WAITEV returned are pending no longer. -/
def Block.clearEvents (s : Block) (q e : Nat) : Block :=
  (s.planRings q).foldl (fun s r => s.onSeq q (fun x => { x with
    seenHead := if bit e 0 then x.seenHead.set noneSeen r (s.rn (rRing r 0x14)) else x.seenHead
    seenCredit := if bit e 1 then x.seenCredit.set noneSeen r (s.rn (rRg r 0)) else x.seenCredit })) s

/-- `WAITEV_WAKE` (R459): returns the pending selected events in RD and clears them, once there is one. -/
def execSeqWaitevWake (seq : SeqId) (st : State) : Host.Outcome State Fault Refusal := st.act fun s =>
  let q := seq.val
  .next (if !(s.seqActive q) then s
    else match (s.seq q).wait, s.seqWord q with
    | some x, some w =>
      let e := s.pendingEvents q x
      if e = 0 then s
      else
        let s := (s.clearEvents q e).onSeq q (fun x => { x with wait := none })
        (s.setSeqReg q (wRd w) (BitVec.ofNat 32 e)).seqNext q
    | _, _ => s)

/-- `TIME` (R455): latches the timestamp. -/
def execSeqTime (seq : SeqId) (st : State) : Host.Outcome State Fault Refusal := st.act fun s =>
  let q := seq.val
  .next (s.seqIssue q 0x44 (fun s w =>
    let s := s.onSeq q (fun x => { x with time := BitVec.ofNat 64 s.now })
    (s.setSeqReg q (wRd w) (BitVec.ofNat 32 s.now)).seqNext q))
/-- `TIMEH` (R455): the high half of the latched timestamp. -/
def execSeqTimeh (seq : SeqId) (st : State) : Host.Outcome State Fault Refusal := st.act fun s =>
  let q := seq.val
  .next (s.seqIssue q 0x45 (fun s w =>
    (s.setSeqReg q (wRd w) (BitVec.ofNat 32 ((s.seq q).time.toNat >>> 32))).seqNext q))
/-- `HALT` (R455, R463): PC stays on it (DEDUCED, log entry 102). -/
def execSeqHalt (seq : SeqId) (st : State) : Host.Outcome State Fault Refusal := st.act fun s =>
  let q := seq.val
  .next (s.seqIssue q 0x46 (fun s _ => ((s.bump48 (rQ q 0x70) 1).leaveRunning q 3).seqEvent q 4 0 0 0))

end Sys2Proof.Machine
end

