-- ==== Sys2Proof/Machine/Dispatch.lean ====
section
/-!
DEFINITION. What each command does: one direct call of its meaning per constructor.
-/
namespace Sys2Proof.Machine

/-- The effect of a command on everything but the queue of waiting commands. -/
def exec (i : Instr) (s : State) : Host.Outcome State Fault Refusal :=
  match i with
  | .ringLineWrite port off data => Sys2Proof.Machine.execRingLineWrite port off data s
  | .hostViolation port access => Sys2Proof.Machine.execHostViolation port access s
  | .resultWindowWrite port off data => Sys2Proof.Machine.execResultWindowWrite port off data s
  | .lineTake ring => Sys2Proof.Machine.execLineTake ring s
  | .creditRecordWrite ring => Sys2Proof.Machine.execCreditRecordWrite ring s
  | .dispatch core => Sys2Proof.Machine.execDispatch core s
  | .loopLineFetch core => Sys2Proof.Machine.execLoopLineFetch core s
  | .fenceItemComplete ring => Sys2Proof.Machine.execFenceItemComplete ring s
  | .completionPost ring => Sys2Proof.Machine.execCompletionPost ring s
  | .ringFlush req ring => Sys2Proof.Machine.execRingFlush req ring s
  | .coreStop req core => Sys2Proof.Machine.execCoreStop req core s
  | .coreResume req core => Sys2Proof.Machine.execCoreResume req core s
  | .qflush req core => Sys2Proof.Machine.execQflush req core s
  | .loopmemOpen req core halfB force => Sys2Proof.Machine.execLoopmemOpen req core halfB force s
  | .loopmemClose req core => Sys2Proof.Machine.execLoopmemClose req core s
  | .lmdataWrite req core value => Sys2Proof.Machine.execLmdataWrite req core value s
  | .registerWrite req off bytes value => Sys2Proof.Machine.execRegisterWrite req off bytes value s
  | .srseedWrite req core lane value => Sys2Proof.Machine.execSrseedWrite req core lane value s
  | .vrseedWrite req core lane value => Sys2Proof.Machine.execVrseedWrite req core lane value s
  | .sAdd core lane => Sys2Proof.Machine.execSAdd core lane s
  | .sSub core lane => Sys2Proof.Machine.execSSub core lane s
  | .sMul core lane => Sys2Proof.Machine.execSMul core lane s
  | .sAnd core lane => Sys2Proof.Machine.execSAnd core lane s
  | .sOr core lane => Sys2Proof.Machine.execSOr core lane s
  | .sXor core lane => Sys2Proof.Machine.execSXor core lane s
  | .sShl core lane => Sys2Proof.Machine.execSShl core lane s
  | .sShr core lane => Sys2Proof.Machine.execSShr core lane s
  | .sSra core lane => Sys2Proof.Machine.execSSra core lane s
  | .sMin core lane => Sys2Proof.Machine.execSMin core lane s
  | .sMax core lane => Sys2Proof.Machine.execSMax core lane s
  | .sMinu core lane => Sys2Proof.Machine.execSMinu core lane s
  | .sMaxu core lane => Sys2Proof.Machine.execSMaxu core lane s
  | .sSlt core lane => Sys2Proof.Machine.execSSlt core lane s
  | .sSltu core lane => Sys2Proof.Machine.execSSltu core lane s
  | .sSeq core lane => Sys2Proof.Machine.execSSeq core lane s
  | .sAddi core lane => Sys2Proof.Machine.execSAddi core lane s
  | .sSubi core lane => Sys2Proof.Machine.execSSubi core lane s
  | .sMuli core lane => Sys2Proof.Machine.execSMuli core lane s
  | .sAndi core lane => Sys2Proof.Machine.execSAndi core lane s
  | .sOri core lane => Sys2Proof.Machine.execSOri core lane s
  | .sXori core lane => Sys2Proof.Machine.execSXori core lane s
  | .sShli core lane => Sys2Proof.Machine.execSShli core lane s
  | .sShri core lane => Sys2Proof.Machine.execSShri core lane s
  | .sSrai core lane => Sys2Proof.Machine.execSSrai core lane s
  | .sMini core lane => Sys2Proof.Machine.execSMini core lane s
  | .sMaxi core lane => Sys2Proof.Machine.execSMaxi core lane s
  | .sMinui core lane => Sys2Proof.Machine.execSMinui core lane s
  | .sMaxui core lane => Sys2Proof.Machine.execSMaxui core lane s
  | .sSlti core lane => Sys2Proof.Machine.execSSlti core lane s
  | .sSltui core lane => Sys2Proof.Machine.execSSltui core lane s
  | .sSeqi core lane => Sys2Proof.Machine.execSSeqi core lane s
  | .sLd core lane => Sys2Proof.Machine.execSLd core lane s
  | .sSt core lane => Sys2Proof.Machine.execSSt core lane s
  | .sDesc core lane => Sys2Proof.Machine.execSDesc core lane s
  | .sDclr core lane => Sys2Proof.Machine.execSDclr core lane s
  | .ldBox core lane => Sys2Proof.Machine.execLdBox core lane s
  | .stBox core lane => Sys2Proof.Machine.execStBox core lane s
  | .ldGather core lane => Sys2Proof.Machine.execLdGather core lane s
  | .stScatter core lane => Sys2Proof.Machine.execStScatter core lane s
  | .ldIndex core lane => Sys2Proof.Machine.execLdIndex core lane s
  | .stIndex core lane => Sys2Proof.Machine.execStIndex core lane s
  | .ldLin core lane => Sys2Proof.Machine.execLdLin core lane s
  | .stLin core lane => Sys2Proof.Machine.execStLin core lane s
  | .ldScale core lane => Sys2Proof.Machine.execLdScale core lane s
  | .stScale core lane => Sys2Proof.Machine.execStScale core lane s
  | .stKvimport core lane => Sys2Proof.Machine.execStKvimport core lane s
  | .hostReadCompletion core store lane request result => Sys2Proof.Machine.execHostReadCompletion core store lane request result s
  | .transferHostTimeout core engine lane => Sys2Proof.Machine.execTransferHostTimeout core engine lane s
  | .transferComplete core store lane => Sys2Proof.Machine.execTransferComplete core store lane s
  | .vChain core lane => Sys2Proof.Machine.execVChain core lane s
  | .vReduce core lane => Sys2Proof.Machine.execVReduce core lane s
  | .vPerm core lane => Sys2Proof.Machine.execVPerm core lane s
  | .vShuf core lane => Sys2Proof.Machine.execVShuf core lane s
  | .vPack core lane => Sys2Proof.Machine.execVPack core lane s
  | .vUnpack core lane => Sys2Proof.Machine.execVUnpack core lane s
  | .vecEntryComplete core lane => Sys2Proof.Machine.execVecEntryComplete core lane s
  | .mMm core lane => Sys2Proof.Machine.execMMm core lane s
  | .mtxEntryComplete core lane => Sys2Proof.Machine.execMtxEntryComplete core lane s
  | .mtxTileWrite core lane => Sys2Proof.Machine.execMtxTileWrite core lane s
  | .ySignal core lane => Sys2Proof.Machine.execYSignal core lane s
  | .yWait core lane => Sys2Proof.Machine.execYWait core lane s
  | .yTake core lane => Sys2Proof.Machine.execYTake core lane s
  | .yBar core lane => Sys2Proof.Machine.execYBar core lane s
  | .yRsig core lane => Sys2Proof.Machine.execYRsig core lane s
  | .waitTimeout core engine lane => Sys2Proof.Machine.execWaitTimeout core engine lane s
  | .hsigWrite req value => Sys2Proof.Machine.execHsigWrite req value s
  | .ctrValWrite req ctr value => Sys2Proof.Machine.execCtrValWrite req ctr value s
  | .ctrCfgWrite req ctr value => Sys2Proof.Machine.execCtrCfgWrite req ctr value s
  | .bvGemv core lane => Sys2Proof.Machine.execBvGemv core lane s
  | .bvQk core lane => Sys2Proof.Machine.execBvQk core lane s
  | .bvPv core lane => Sys2Proof.Machine.execBvPv core lane s
  | .bvKvappend core lane => Sys2Proof.Machine.execBvKvappend core lane s
  | .brCopy core lane => Sys2Proof.Machine.execBrCopy core lane s
  | .brInit core lane => Sys2Proof.Machine.execBrInit core lane s
  | .brAnd core lane => Sys2Proof.Machine.execBrAnd core lane s
  | .brOr core lane => Sys2Proof.Machine.execBrOr core lane s
  | .brXor core lane => Sys2Proof.Machine.execBrXor core lane s
  | .brNot core lane => Sys2Proof.Machine.execBrNot core lane s
  | .bvFence core lane => Sys2Proof.Machine.execBvFence core lane s
  | .bvFenceComplete core lane => Sys2Proof.Machine.execBvFenceComplete core lane s
  | .drainEntryArrive gbid => Sys2Proof.Machine.execDrainEntryArrive gbid s
  | .bankOpReduced ticket => Sys2Proof.Machine.execBankOpReduced ticket s
  | .arm pillar word => Sys2Proof.Machine.execArm pillar word s
  | .armx pillar word => Sys2Proof.Machine.execArmx pillar word s
  | .feed pillar word data => Sys2Proof.Machine.execFeed pillar word data s
  | .run pillar word data upto => Sys2Proof.Machine.execRun pillar word data upto s
  | .rowEnd pillar die bank lane => Sys2Proof.Machine.execRowEnd pillar die bank lane s
  | .park pillar word => Sys2Proof.Machine.execPark pillar word s
  | .resume pillar word upto => Sys2Proof.Machine.execResume pillar word upto s
  | .drain pillar word => Sys2Proof.Machine.execDrain pillar word s
  | .abort pillar word => Sys2Proof.Machine.execAbort pillar word s
  | .stest pillar word pass => Sys2Proof.Machine.execStest pillar word pass s
  | .columnBoundaryStop pillar die bank => Sys2Proof.Machine.execColumnBoundaryStop pillar die bank s
  | .urgentRunStop pillar die bank => Sys2Proof.Machine.execUrgentRunStop pillar die bank s
  | .act pillar word => Sys2Proof.Machine.execAct pillar word s
  | .pre pillar word => Sys2Proof.Machine.execPre pillar word s
  | .rd pillar word => Sys2Proof.Machine.execRd pillar word s
  | .wr pillar word data check => Sys2Proof.Machine.execWr pillar word data check s
  | .refb pillar word => Sys2Proof.Machine.execRefb pillar word s
  | .select pillar word => Sys2Proof.Machine.execSelect pillar word s
  | .pde pillar word => Sys2Proof.Machine.execPde pillar word s
  | .pdx pillar word => Sys2Proof.Machine.execPdx pillar word s
  | .idrd pillar word => Sys2Proof.Machine.execIdrd pillar word s
  | .tmrd pillar word celsius => Sys2Proof.Machine.execTmrd pillar word celsius s
  | .rsync pillar word => Sys2Proof.Machine.execRsync pillar word s
  | .parityAlert pillar die spoilt => Sys2Proof.Machine.execParityAlert pillar die spoilt s
  | .rdTimeout pillar die => Sys2Proof.Machine.execRdTimeout pillar die s
  | .shadowEntryReturn pillar tag => Sys2Proof.Machine.execShadowEntryReturn pillar tag s
  | .refreshDebtTick pillar die bank => Sys2Proof.Machine.execRefreshDebtTick pillar die bank s
  | .dieTempPoll pillar temps => Sys2Proof.Machine.execDieTempPoll pillar temps s
  | .pageIdleTimeout pillar die bank rb1 => Sys2Proof.Machine.execPageIdleTimeout pillar die bank rb1 s
  | .dieGroupIdle pillar group => Sys2Proof.Machine.execDieGroupIdle pillar group s
  | .dlyctlApply req pillar => Sys2Proof.Machine.execDlyctlApply req pillar s
  | .delayApplied pillar answers => Sys2Proof.Machine.execDelayApplied pillar answers s
  | .dieRetry req pillar die answers => Sys2Proof.Machine.execDieRetry req pillar die answers s
  | .spareGo req pillar die mode share => Sys2Proof.Machine.execSpareGo req pillar die mode share s
  | .spareCancel req pillar => Sys2Proof.Machine.execSpareCancel req pillar s
  | .spareCopyPassEnd pillar => Sys2Proof.Machine.execSpareCopyPassEnd pillar s
  | .spareFinalEnd pillar => Sys2Proof.Machine.execSpareFinalEnd pillar s
  | .spareFillEnd pillar => Sys2Proof.Machine.execSpareFillEnd pillar s
  | .spareSwitch pillar => Sys2Proof.Machine.execSpareSwitch pillar s
  | .bluCntClr req pillar => Sys2Proof.Machine.execBluCntClr req pillar s
  | .refstatClear req pillar => Sys2Proof.Machine.execRefstatClear req pillar s
  | .sfuLoad req core slot sige sig => Sys2Proof.Machine.execSfuLoad req core slot sige sig s
  | .sfuClear req core slot sige sig => Sys2Proof.Machine.execSfuClear req core slot sige sig s
  | .sfuLoadDone core => Sys2Proof.Machine.execSfuLoadDone core s
  | .ringOpen req ring => Sys2Proof.Machine.execRingOpen req ring s
  | .ringClose req ring => Sys2Proof.Machine.execRingClose req ring s
  | .ctailWrite req ring value => Sys2Proof.Machine.execCtailWrite req ring value s
  | .rrelWrite req ring value => Sys2Proof.Machine.execRrelWrite req ring value s
  | .pathfenceMRead port => Sys2Proof.Machine.execPathfenceMRead port s
  | .pathfenceIRead port => Sys2Proof.Machine.execPathfenceIRead port s
  | .pathfenceDRead port => Sys2Proof.Machine.execPathfenceDRead port s
  | .detach req part => Sys2Proof.Machine.execDetach req part s
  | .reatt req token part => Sys2Proof.Machine.execReatt req token part s
  | .reattLockoutEnd part => Sys2Proof.Machine.execReattLockoutEnd part s
  | .vioclr req => Sys2Proof.Machine.execVioclr req s
  | .dlDown port => Sys2Proof.Machine.execDlDown port s
  | .linkUp port proto gen width => Sys2Proof.Machine.execLinkUp port proto gen width s
  | .hotReset port => Sys2Proof.Machine.execHotReset port s
  | .functionLevelReset port => Sys2Proof.Machine.execFunctionLevelReset port s
  | .perst port asserted => Sys2Proof.Machine.execPerst port asserted s
  | .ideIntegrityFailure port => Sys2Proof.Machine.execIdeIntegrityFailure port s
  | .peerWrite port msg => Sys2Proof.Machine.execPeerWrite port msg s
  | .peerReadRequest port msg => Sys2Proof.Machine.execPeerReadRequest port msg s
  | .peerReadData port msg => Sys2Proof.Machine.execPeerReadData port msg s
  | .peerRemoteSignal port msg => Sys2Proof.Machine.execPeerRemoteSignal port msg s
  | .keyExchange port requester mutualAuth => Sys2Proof.Machine.execKeyExchange port requester mutualAuth s
  | .getMeasurements port sid block => Sys2Proof.Machine.execGetMeasurements port sid block s
  | .sessionEnd port sid => Sys2Proof.Machine.execSessionEnd port sid s
  | .setAdmin port sid digest => Sys2Proof.Machine.execSetAdmin port sid digest s
  | .attach port sid part => Sys2Proof.Machine.execAttach port sid part s
  | .attestAck port sid part digest => Sys2Proof.Machine.execAttestAck port sid part digest s
  | .attestAckExpiry port sid part => Sys2Proof.Machine.execAttestAckExpiry port sid part s
  | .setJobKey port sid part index jobId members key => Sys2Proof.Machine.execSetJobKey port sid part index jobId members key s
  | .delJobKey port sid part index => Sys2Proof.Machine.execDelJobKey port sid part index s
  | .jobctlWrite req part value => Sys2Proof.Machine.execJobctlWrite req part value s
  | .partBind req part => Sys2Proof.Machine.execPartBind req part s
  | .partRelease req part => Sys2Proof.Machine.execPartRelease req part s
  | .partReleaseDone part => Sys2Proof.Machine.execPartReleaseDone part s
  | .zeroise req part => Sys2Proof.Machine.execZeroise req part s
  | .zeroiseDone part => Sys2Proof.Machine.execZeroiseDone part s
  | .bundleOpen req part slot => Sys2Proof.Machine.execBundleOpen req part slot s
  | .bundleOpenDone part => Sys2Proof.Machine.execBundleOpenDone part s
  | .bundleClose req part slot => Sys2Proof.Machine.execBundleClose req part slot s
  | .decrypt req part slot => Sys2Proof.Machine.execDecrypt req part slot s
  | .decryptDone part => Sys2Proof.Machine.execDecryptDone part s
  | .beatEdge cycles => Sys2Proof.Machine.execBeatEdge cycles s
  | .tickStart => Sys2Proof.Machine.execTickStart s
  | .beatLoss => Sys2Proof.Machine.execBeatLoss s
  | .beatRearm req => Sys2Proof.Machine.execBeatRearm req s
  | .scheduleFrame bytes => Sys2Proof.Machine.execScheduleFrame bytes s
  | .epochBroadcast bytes => Sys2Proof.Machine.execEpochBroadcast bytes s
  | .privateRead => Sys2Proof.Machine.execPrivateRead s
  | .entdaa address => Sys2Proof.Machine.execEntdaa address s
  | .schedctlCommit req host => Sys2Proof.Machine.execSchedctlCommit req host s
  | .domctlWrite req index value => Sys2Proof.Machine.execDomctlWrite req index value s
  | .domainReady => Sys2Proof.Machine.execDomainReady s
  | .hubSensorRead celsius => Sys2Proof.Machine.execHubSensorRead celsius s
  | .thermalTripEnd => Sys2Proof.Machine.execThermalTripEnd s
  | .criticalThermal => Sys2Proof.Machine.execCriticalThermal s
  | .coolantMeasure inlet outlet flow => Sys2Proof.Machine.execCoolantMeasure inlet outlet flow s
  | .supplyLow => Sys2Proof.Machine.execSupplyLow s
  | .jctlTwilight req confirm => Sys2Proof.Machine.execJctlTwilight req confirm s
  | .guarclr req => Sys2Proof.Machine.execGuarclr req s
  | .quiescePoint => Sys2Proof.Machine.execQuiescePoint s
  | .sealProgramStart => Sys2Proof.Machine.execSealProgramStart s
  | .sealCommit supplyGood duration energy => Sys2Proof.Machine.execSealCommit supplyGood duration energy s
  | .supplyQualified => Sys2Proof.Machine.execSupplyQualified s
  | .dawnBoot mcCopyA mcCopyB => Sys2Proof.Machine.execDawnBoot mcCopyA mcCopyB s
  | .dawnSecure firmware config table => Sys2Proof.Machine.execDawnSecure firmware config table s
  | .dawnAlarm => Sys2Proof.Machine.execDawnAlarm s
  | .dawnPower => Sys2Proof.Machine.execDawnPower s
  | .dawnDelay answers => Sys2Proof.Machine.execDawnDelay answers s
  | .dawnTest failing cores seqs ledger => Sys2Proof.Machine.execDawnTest failing cores seqs ledger s
  | .dawnReplay => Sys2Proof.Machine.execDawnReplay s
  | .dawnCommit => Sys2Proof.Machine.execDawnCommit s
  | .sealAreaErased => Sys2Proof.Machine.execSealAreaErased s
  | .holdupTest string pass energy => Sys2Proof.Machine.execHoldupTest string pass energy s
  | .alarmSample tamper leak => Sys2Proof.Machine.execAlarmSample tamper leak s
  | .cellMeasure millivolts celsius => Sys2Proof.Machine.execCellMeasure millivolts celsius s
  | .rtcset req ticks => Sys2Proof.Machine.execRtcset req ticks s
  | .orderFire => Sys2Proof.Machine.execOrderFire s
  | .soArm req arm => Sys2Proof.Machine.execSoArm req arm s
  | .soSave req => Sys2Proof.Machine.execSoSave req s
  | .elLostclr req => Sys2Proof.Machine.execElLostclr req s
  | .moduleReset req confirm => Sys2Proof.Machine.execModuleReset req confirm s
  | .fullReset req confirm => Sys2Proof.Machine.execFullReset req confirm s
  | .mrst microseconds => Sys2Proof.Machine.execMrst microseconds s
  | .fwUpdate req image => Sys2Proof.Machine.execFwUpdate req image s
  | .fwUpdateDone result => Sys2Proof.Machine.execFwUpdateDone result s
  | .sparemapClear req pillar => Sys2Proof.Machine.execSparemapClear req pillar s
  | .planLoad req seq => Sys2Proof.Machine.execPlanLoad req seq s
  | .planLoadDone seq => Sys2Proof.Machine.execPlanLoadDone seq s
  | .planStart req seq => Sys2Proof.Machine.execPlanStart req seq s
  | .planRestart req seq => Sys2Proof.Machine.execPlanRestart req seq s
  | .planStop req seq => Sys2Proof.Machine.execPlanStop req seq s
  | .planMove req seq => Sys2Proof.Machine.execPlanMove req seq s
  | .planMoveDone seq => Sys2Proof.Machine.execPlanMoveDone seq s
  | .planUnload req seq => Sys2Proof.Machine.execPlanUnload req seq s
  | .seqAdd seq => Sys2Proof.Machine.execSeqAdd seq s
  | .seqSub seq => Sys2Proof.Machine.execSeqSub seq s
  | .seqAnd seq => Sys2Proof.Machine.execSeqAnd seq s
  | .seqOr seq => Sys2Proof.Machine.execSeqOr seq s
  | .seqXor seq => Sys2Proof.Machine.execSeqXor seq s
  | .seqShl seq => Sys2Proof.Machine.execSeqShl seq s
  | .seqShr seq => Sys2Proof.Machine.execSeqShr seq s
  | .seqSra seq => Sys2Proof.Machine.execSeqSra seq s
  | .seqMul seq => Sys2Proof.Machine.execSeqMul seq s
  | .seqSlt seq => Sys2Proof.Machine.execSeqSlt seq s
  | .seqSltu seq => Sys2Proof.Machine.execSeqSltu seq s
  | .seqAddi seq => Sys2Proof.Machine.execSeqAddi seq s
  | .seqSubi seq => Sys2Proof.Machine.execSeqSubi seq s
  | .seqAndi seq => Sys2Proof.Machine.execSeqAndi seq s
  | .seqOri seq => Sys2Proof.Machine.execSeqOri seq s
  | .seqXori seq => Sys2Proof.Machine.execSeqXori seq s
  | .seqShli seq => Sys2Proof.Machine.execSeqShli seq s
  | .seqShri seq => Sys2Proof.Machine.execSeqShri seq s
  | .seqSrai seq => Sys2Proof.Machine.execSeqSrai seq s
  | .seqMuli seq => Sys2Proof.Machine.execSeqMuli seq s
  | .seqSlti seq => Sys2Proof.Machine.execSeqSlti seq s
  | .seqSltui seq => Sys2Proof.Machine.execSeqSltui seq s
  | .seqLui seq => Sys2Proof.Machine.execSeqLui seq s
  | .seqLdW seq => Sys2Proof.Machine.execSeqLdW seq s
  | .seqStW seq => Sys2Proof.Machine.execSeqStW seq s
  | .seqLdBu seq => Sys2Proof.Machine.execSeqLdBu seq s
  | .seqStB seq => Sys2Proof.Machine.execSeqStB seq s
  | .seqBeq seq => Sys2Proof.Machine.execSeqBeq seq s
  | .seqBne seq => Sys2Proof.Machine.execSeqBne seq s
  | .seqBlt seq => Sys2Proof.Machine.execSeqBlt seq s
  | .seqBge seq => Sys2Proof.Machine.execSeqBge seq s
  | .seqBltu seq => Sys2Proof.Machine.execSeqBltu seq s
  | .seqBgeu seq => Sys2Proof.Machine.execSeqBgeu seq s
  | .seqJmp seq => Sys2Proof.Machine.execSeqJmp seq s
  | .seqCall seq => Sys2Proof.Machine.execSeqCall seq s
  | .seqCallr seq => Sys2Proof.Machine.execSeqCallr seq s
  | .seqRet seq => Sys2Proof.Machine.execSeqRet seq s
  | .seqTret seq => Sys2Proof.Machine.execSeqTret seq s
  | .seqPut seq => Sys2Proof.Machine.execSeqPut seq s
  | .seqSig seq => Sys2Proof.Machine.execSeqSig seq s
  | .seqSfence seq => Sys2Proof.Machine.execSeqSfence seq s
  | .seqWaitev seq => Sys2Proof.Machine.execSeqWaitev seq s
  | .seqWaitevWake seq => Sys2Proof.Machine.execSeqWaitevWake seq s
  | .seqTime seq => Sys2Proof.Machine.execSeqTime seq s
  | .seqTimeh seq => Sys2Proof.Machine.execSeqTimeh seq s
  | .seqHalt seq => Sys2Proof.Machine.execSeqHalt seq s
  | .internalBeat => Sys2Proof.Machine.execInternalBeat s
  | .vinLowChange low millivolts => Sys2Proof.Machine.execVinLowChange low millivolts s
  | .mrstRelease => Sys2Proof.Machine.execMrstRelease s
  | .ideKeyManagement port sid key => Sys2Proof.Machine.execIdeKeyManagement port sid key s
  | .alwaysOnPowerLoss => Sys2Proof.Machine.execAlwaysOnPowerLoss s
  | .backupCellFitted => Sys2Proof.Machine.execBackupCellFitted s

end Sys2Proof.Machine
end

