-- ==== Sys2Proof/WellFormed.lean ====
section
/-!
DEFINITION. Which commands an agent of the spec can send. The rest are shapes the types admit and no agent makes: a
pillar word whose CMD is another row's, data of another length than the command's, a code the spec never reports.
-/
namespace Sys2Proof

/-- Whether the CMD field of a pillar word is the row's (R288). -/
def wordIs (w : BitVec 64) (cmd : Nat) : Bool := bits w.toNat 4 0 == cmd

/-- Columns of data that a RUN carries: one for an append of one column, up to 64 for a scan's (R288, R301). -/
def runColumns (w : BitVec 64) : Nat :=
  match bits w.toNat 27 26 with
  | 1 => if bits w.toNat 30 28 = 0 then 1 else 0
  | 2 => bits w.toNat 39 34 + 1
  | _ => 0

/-- Whether some agent of the spec can send the command: the checks of every row that has one, and no check elsewhere. -/
def WellFormed : Instr → Bool
  | .arm _ w => wordIs w 0x10
  | .armx _ w => wordIs w 0x18
  | .feed _ w data => wordIs w 0x11 && data.length == bits w.toNat 41 35 + 1
  | .run _ w data _ => wordIs w 0x12 && data.length == runColumns w
  | .park _ w => wordIs w 0x13
  | .resume _ w _ => wordIs w 0x14
  | .drain _ w => wordIs w 0x15
  | .abort _ w => wordIs w 0x16
  | .stest _ w _ => wordIs w 0x17
  | .act _ w => wordIs w.word 0x01
  | .pre _ w => wordIs w.word 0x02
  | .rd _ w => wordIs w.word 0x03 && w.src.ordinary
  | .wr _ w _ _ => wordIs w.word 0x04 && w.src.ordinary
  | .refb _ w => wordIs w 0x05
  | .select _ w => wordIs w 0x06
  | .pde _ w => wordIs w 0x07
  | .pdx _ w => wordIs w 0x08
  | .idrd _ w => wordIs w 0x09
  | .tmrd _ w _ => wordIs w 0x0A
  | .rsync _ w => wordIs w 0x0B
  | .dieTempPoll _ temps => temps.length == 17
  | .hubSensorRead celsius => celsius.length == 16
  | .dawnDelay answers => answers.length == 16 && answers.all (fun a => a.length == 17)
  | .delayApplied _ answers => answers.length == 17
  | .dawnTest failing _ _ _ => failing.all (fun x => decide (x.2.toNat ≤ 4))
  | .fwUpdateDone result => decide (1 ≤ result.toNat) && decide (result.toNat ≤ 4)
  | .vinLowChange low millivolts => low == decide (millivolts.toNat < 40000)
  | .ringLineWrite .. | .hostViolation .. | .resultWindowWrite .. | .lineTake .. | .creditRecordWrite ..
  | .dispatch .. | .loopLineFetch .. | .fenceItemComplete .. | .completionPost .. | .ringFlush .. | .coreStop ..
  | .coreResume .. | .qflush .. | .loopmemOpen .. | .loopmemClose .. | .lmdataWrite .. | .registerWrite ..
  | .srseedWrite .. | .vrseedWrite .. | .sAdd .. | .sSub .. | .sMul .. | .sAnd .. | .sOr .. | .sXor .. | .sShl ..
  | .sShr .. | .sSra .. | .sMin .. | .sMax .. | .sMinu .. | .sMaxu .. | .sSlt .. | .sSltu .. | .sSeq .. | .sAddi ..
  | .sSubi .. | .sMuli .. | .sAndi .. | .sOri .. | .sXori .. | .sShli .. | .sShri .. | .sSrai .. | .sMini ..
  | .sMaxi .. | .sMinui .. | .sMaxui .. | .sSlti .. | .sSltui .. | .sSeqi .. | .sLd .. | .sSt .. | .sDesc ..
  | .sDclr .. | .ldBox .. | .stBox .. | .ldGather .. | .stScatter .. | .ldIndex .. | .stIndex .. | .ldLin ..
  | .stLin .. | .ldScale .. | .stScale .. | .stKvimport .. | .hostReadCompletion .. | .transferHostTimeout ..
  | .transferComplete .. | .vChain .. | .vReduce .. | .vPerm .. | .vShuf .. | .vPack .. | .vUnpack ..
  | .vecEntryComplete .. | .mMm .. | .mtxEntryComplete .. | .mtxTileWrite .. | .ySignal .. | .yWait .. | .yTake ..
  | .yBar .. | .yRsig .. | .waitTimeout .. | .hsigWrite .. | .ctrValWrite .. | .ctrCfgWrite .. | .bvGemv ..
  | .bvQk .. | .bvPv .. | .bvKvappend .. | .brCopy .. | .brInit .. | .brAnd .. | .brOr .. | .brXor .. | .brNot ..
  | .bvFence .. | .bvFenceComplete .. | .drainEntryArrive .. | .bankOpReduced .. | .rowEnd ..
  | .columnBoundaryStop .. | .urgentRunStop .. | .parityAlert .. | .rdTimeout .. | .shadowEntryReturn ..
  | .refreshDebtTick .. | .pageIdleTimeout .. | .dieGroupIdle .. | .dlyctlApply ..
  | .dieRetry .. | .spareGo .. | .spareCancel .. | .spareCopyPassEnd .. | .spareFinalEnd .. | .spareFillEnd ..
  | .spareSwitch .. | .bluCntClr .. | .refstatClear .. | .sfuLoad .. | .sfuClear .. | .sfuLoadDone ..
  | .ringOpen .. | .ringClose .. | .ctailWrite .. | .rrelWrite .. | .pathfenceMRead .. | .pathfenceIRead ..
  | .pathfenceDRead .. | .detach .. | .reatt .. | .reattLockoutEnd .. | .vioclr .. | .dlDown .. | .linkUp ..
  | .hotReset .. | .functionLevelReset .. | .perst .. | .ideIntegrityFailure .. | .peerWrite ..
  | .peerReadRequest .. | .peerReadData .. | .peerRemoteSignal .. | .keyExchange .. | .getMeasurements ..
  | .sessionEnd .. | .setAdmin .. | .attach .. | .attestAck .. | .attestAckExpiry .. | .setJobKey ..
  | .delJobKey .. | .jobctlWrite .. | .partBind .. | .partRelease .. | .partReleaseDone .. | .zeroise ..
  | .zeroiseDone .. | .bundleOpen .. | .bundleOpenDone .. | .bundleClose .. | .decrypt .. | .decryptDone ..
  | .beatEdge .. | .tickStart | .beatLoss | .beatRearm .. | .scheduleFrame .. | .epochBroadcast .. | .privateRead
  | .entdaa .. | .schedctlCommit .. | .domctlWrite .. | .domainReady | .thermalTripEnd | .criticalThermal
  | .coolantMeasure .. | .supplyLow | .jctlTwilight .. | .guarclr .. | .quiescePoint | .sealProgramStart
  | .sealCommit .. | .supplyQualified | .dawnBoot .. | .dawnSecure .. | .dawnAlarm | .dawnPower | .dawnReplay
  | .dawnCommit | .sealAreaErased | .holdupTest .. | .alarmSample .. | .cellMeasure .. | .rtcset .. | .orderFire
  | .soArm .. | .soSave .. | .elLostclr .. | .moduleReset .. | .fullReset .. | .mrst .. | .fwUpdate ..
  | .sparemapClear .. | .planLoad .. | .planLoadDone .. | .planStart .. | .planRestart .. | .planStop ..
  | .planMove .. | .planMoveDone .. | .planUnload .. | .seqAdd .. | .seqSub .. | .seqAnd .. | .seqOr ..
  | .seqXor .. | .seqShl .. | .seqShr .. | .seqSra .. | .seqMul .. | .seqSlt .. | .seqSltu .. | .seqAddi ..
  | .seqSubi .. | .seqAndi .. | .seqOri .. | .seqXori .. | .seqShli .. | .seqShri .. | .seqSrai .. | .seqMuli ..
  | .seqSlti .. | .seqSltui .. | .seqLui .. | .seqLdW .. | .seqStW .. | .seqLdBu .. | .seqStB .. | .seqBeq ..
  | .seqBne .. | .seqBlt .. | .seqBge .. | .seqBltu .. | .seqBgeu .. | .seqJmp .. | .seqCall .. | .seqCallr ..
  | .seqRet .. | .seqTret .. | .seqPut .. | .seqSig .. | .seqSfence .. | .seqWaitev .. | .seqWaitevWake ..
  | .seqTime .. | .seqTimeh .. | .seqHalt .. | .internalBeat | .mrstRelease | .ideKeyManagement ..
  | .alwaysOnPowerLoss | .backupCellFitted => true

end Sys2Proof
end

