-- ==== Sys2Proof/Safety.lean ====
section
/-!
DEFINITION. What the claims about the block are stated with: when a command is due, what the block looks like once its
own effect begins, and what a command leaves alone.
-/
namespace Sys2Proof.Machine

/-! ### Commands that wait -/

/-- Every command that waits is one that an agent of the spec can send. -/
def QueueOk (s : State) : Prop := ∀ i ∈ s.pending, Sys2Proof.WellFormed i = true

/-- Every addressed memory is in its canonical form: the scratchpads, the Ledger and what Paths M and I
answer of it, the loop, plan and stack memories, the DRAM columns, and the loop memory that a seal holds. -/
structure MemoryOk (b : Block) : Prop where
  scratch : b.scratch.wf byteZero = true
  ledger : b.ledger.wf byteZero = true
  loopMem : b.loopMem.wf byteZero = true
  planMem : b.planMem.wf byteZero = true
  stackMem : b.stackMem.wf byteZero = true
  dram : b.dram.wf noCol = true
  pathM : b.pathM.wf byteZero = true
  pathI : b.pathI.wf byteZero = true
  sealed : ∀ x : Seal, ((∃ k, (k, some x) ∈ b.seals) ∨ b.sealing = some x ∨ b.found = some x) →
    x.body.loopMem.wf byteZero = true

/-- The answer of a command that leaves the block `b'` behind, whatever waits. -/
def Gives (i : Instr) (b b' : Block) : Prop :=
  ∀ q, Sys2Proof.Machine.exec i { pending := q, block := b } = .next { pending := q, block := b' }

/-! ### Entries at the head of an engine queue -/

/-- Entry `en` at position `i` is the head of engine e's lane l of core c, has opcode `op`, waits for nothing and passes
every check of its issue point (R262, R263): the urgent lane has no entry to issue before it (R17), there is room for it in
flight (R15, R203), and no descriptor word it names holds an error (R406). -/
structure AtIssue (b : Block) (c e l op maxOut : Nat) (extra : Entry → List CtrUse) (i : Nat) (en : Entry) : Prop where
  mayIssue : b.canIssue c l = true
  room : b.inFlight c e l < maxOut
  first : l = 0 → b.urgentFirst c e maxOut = false
  head : headPos (b.queue (qKey c e l)) = some i
  entry : (b.queue (qKey c e l))[i]? = some en
  opcode : en.opcode = op
  noWait : en.wait = none
  checks : en.checked = true ∨ b.ctrCheck c (en.commonUses ++ extra en) = none
  ready : en.waite = true → en.got1 = false → 1 ≤ b.ctrValue en.waitc
  clean : ∀ x ∈ b.sramBad, x.kind = 3 → x.unit = c → x.word / 4 ∉ (en.handles e).1 ++ (en.handles e).2

/-- The entry as its own effect begins: checked, and past its common wait if it has one (R263). -/
def Entry.issuing (en : Entry) : Entry := { en with checked := true, got1 := en.got1 || en.waite }

/-- The block as the effect of the entry at position i of a queue begins: its common wait, if it still has one, has been
granted (R263, R264). -/
def Block.issuing (b : Block) (k i : Nat) (en : Entry) : Block :=
  let b := b.mapEntry k i (fun en => { en with checked := true })
  if en.waite && !en.got1 then b.grantAt k i en ⟨en.waitc, 1, false, 0, 0⟩ else b

/-- What the end of an entry may touch at most, of everything but registers: the queues, the items and the event log. -/
def EntryFrame (b b' : Block) : Prop :=
  ∃ regs queues items evlog orderEvents, b' =
    { b with regs := regs, queues := queues, items := items, evlog := evlog, orderEvents := orderEvents }

/-- The registers that the common wait, the common signal and a fault of an entry may write: its two counters, the
record of the last signaller, the counts of blocked and failed signals, the event log's NEXT and LOST, and the core's
CORESTAT, FLTCOUNT and fault records (R173, R174, R264-R276). -/
def entryReg (c : Nat) (en : Entry) (a : Nat) : Prop :=
  a ∈ [rCtr en.waitc, rCtr en.sig, rCtr en.sig + 8, rSy 0x10004, rSy 0x10008, rEl 0, rEl 8, rC c 4, rC c 0xC] ∨
    (rC c 0xA0 ≤ a ∧ a < rC c 0x100)

/-- Every register outside a property reads as before. -/
structure RegsIn (p : Nat → Prop) (b b' : Block) : Prop where
  same : ∀ a, ¬p a → b'.reg a = b.reg a

/-- The entry has completed over a block `b` that already holds its own effect: what its wait, its signal or its fault
adds is in the queues, the items, the event log and the registers of `entryReg`, and nowhere else. -/
def EntryEnds (c : Nat) (en : Entry) (b b' : Block) : Prop :=
  EntryFrame b b' ∧ RegsIn (entryReg c en) b b'

/-! ### Register writes -/

/-- A register write that nothing stands against: its requester is there, Dawn refuses it not, the register exists
within the requester's reach, and its block is on (R426, R479, R518, R520). What the write then does is its
register's own rule. -/
structure Accepts (b : Block) (r : Requester) (a : Nat) : Prop where
  present : b.reqPresent r = true
  dawn : b.life = .dawn → r = .mc
  reach : b.reqMay r a true = true
  known : (regInfo a).isSome = true
  on : (b.dropHeld r).blockOff a = false

/-- The requester, register and value of a command that is a write of one register, where the value is the
command's own. -/
def namedWrite : Instr → Option (Requester × Nat × Nat)
  | .ringFlush r ring => some (r, rRg ring 0xC, 1)
  | .coreStop r c => some (r, rC c 0, 1)
  | .coreResume r c => some (r, rC c 0, 2)
  | .qflush r c => some (r, rC c 0, 4)
  | .loopmemOpen r c h f => some (r, rC c 0x80, b2n h + 2 * b2n f + 4)
  | .lmdataWrite r c v => some (r, rC c 0x8C, v.toNat)
  | .srseedWrite r c l v => some (r, rC c (0xA08 + 4 * l.num), v.toNat)
  | .vrseedWrite r c l v => some (r, rC c (0xE04 + 4 * l.num), v.toNat)
  | .hsigWrite r v => some (r, rSy 0x10000, v.toNat)
  | .ctrValWrite r n v => if ctrDefined n.toNat then some (r, rCtr n.toNat, v.toNat) else none
  | .ctrCfgWrite r n v => if ctrDefined n.toNat then some (r, rCtr n.toNat + 4, v.toNat) else none
  | .dlyctlApply r p => some (r, rP p 0x180, 1)
  | .spareGo r p d m x => some (r, rP p 0x190, d.toNat + m.toNat <<< 4 + x.toNat <<< 6 + 1 <<< 11)
  | .bluCntClr r p => some (r, rP p 0xC18, 1)
  | .refstatClear r p => some (r, rP p 0x104, 16)
  | .sfuLoad r c n e g => some (r, rC c 0xF00, n.toNat + 0x40 + (b2n e) <<< 8 + g.toNat <<< 9)
  | .sfuClear r c n e g => some (r, rC c 0xF00, n.toNat + 0x80 + (b2n e) <<< 8 + g.toNat <<< 9)
  | .ringOpen r ring => some (r, rRing ring 4, 1)
  | .ringClose r ring => some (r, rRing ring 4, 2)
  | .ctailWrite r ring v => some (r, rRing ring 0x18, v.toNat)
  | .rrelWrite r ring v => some (r, rRing ring 0x28, v.toNat)
  | .detach r k => some (r, rHi (0x500 + 4 * k), 8)
  | .reatt r t k => some (r, rHi 0x540, t.toNat + k.val <<< 48 + 2 ^ 63)
  | .vioclr r => some (r, rHi 0x148, 1)
  | .jobctlWrite r k v => some (r, rJob k 0, v.toNat)
  | .partBind r k => some (r, rSb 0x200, k + 8)
  | .partRelease r k => some (r, rSb 0x200, k + 16)
  | .zeroise r k => some (r, rSb 0x410, k + 8)
  | .bundleOpen r k n => some (r, rWb k 0, n.toNat + 0x10)
  | .bundleClose r k n => some (r, rWb k 0, n.toNat + 0x20)
  | .decrypt r k n => some (r, rWb k 0, n.toNat + 0x40)
  | .schedctlCommit r h => some (r, rEv 0x70, b2n h + 2)
  | .domctlWrite r i v => some (r, rEv (0x100 + 4 * i), v.toNat)
  | .jctlTwilight r x => some (r, rJr 4, 1 + x.toNat <<< 16)
  | .guarclr r => some (r, rJr 4, 2)
  | .rtcset r t => some (r, rAl 0x10, t.toNat)
  | .soArm r x => some (r, rSo 0, b2n x)
  | .elLostclr r => some (r, rEl 0xC, 1)
  | .moduleReset r x => some (r, rMc 0x18, 1 + x.toNat <<< 16)
  | .fullReset r x => some (r, rMc 0x18, 2 + x.toNat <<< 16)
  | .fwUpdate r i => some (r, rMc 0x20, i.toNat + 4)
  | .sparemapClear r p => some (r, rMc 0x30, p.val <<< 32 + 2 ^ 36)
  | .planLoad r q => some (r, rQ q 0, 1)
  | .planStart r q => some (r, rQ q 0, 2)
  | .planRestart r q => some (r, rQ q 0, 4)
  | .planStop r q => some (r, rQ q 0, 8)
  | .planMove r q => some (r, rQ q 0, 16)
  | .planUnload r q => some (r, rQ q 0, 32)
  | _ => none

/-- As `namedWrite`, with the commands that keep fields of the register as they stand or carry an answer besides. -/
def writeOf (b : Block) : Instr → Option (Requester × Nat × Nat)
  | .loopmemClose r c => some (r, rC c 0x80, b.rn (rC c 0x80) % 4 + 8)
  | .dieRetry r p d _ => some (r, rP p 0x60, d.toNat + 32)
  | .spareCancel r p => some (r, rP p 0x190, b.rn (rP p 0x190) % 2 ^ 11 + 1 <<< 12)
  | .beatRearm r => some (r, rEv 8, b.rn (rEv 8) + 2)
  | .soSave r => some (r, rSo 0, 2 + b.rn (rSo 0) % 2)
  | i => namedWrite i

/-- Registers that a write treats by their access codes alone (R7): CORESTAT, NUMCTL and NUMSTAT of a core, and AL.STAT. -/
def plainRegister (a : Nat) : Prop :=
  (∃ c : CoreId, a = rC c 4 ∨ a = rC c 0xA00 ∨ a = rC c 0xA04) ∨ a = rAl 0

/-- What R7 makes of a register's old value and a written one: RW bits take the new value, W1C bits that are written 1
clear, and every other bit stays. -/
def writtenValue (info : RegInfo) (old v : DWord) : DWord :=
  ((old &&& ~~~(BitVec.ofNat 64 info.rw)) ||| (v &&& BitVec.ofNat 64 info.rw)) &&& ~~~(v &&& BitVec.ofNat 64 info.w1c)

/-- What a refused write may touch: the requester's held half, the event log and its two registers. -/
def RefusalFrame (b b' : Block) : Prop :=
  (∃ latches regs evlog orderEvents, b' =
    { b with latches := latches, regs := regs, evlog := evlog, orderEvents := orderEvents }) ∧
  RegsIn (fun a => a = rEl 0 ∨ a = rEl 8) b b'

/-! ### The scalar rows (R182) -/

/-- Form R: the command, its OPCODE and what it writes of s[RA] and s[RB]. -/
def scalarRegisterRows : List ((CoreId → Lane → Instr) × Nat × (DWord → DWord → DWord)) :=
  [(.sAdd, 0x00, fun a b => a + b), (.sSub, 0x01, fun a b => a - b), (.sMul, 0x02, fun a b => a * b),
    (.sAnd, 0x03, fun a b => a &&& b), (.sOr, 0x04, fun a b => a ||| b), (.sXor, 0x05, fun a b => a ^^^ b),
    (.sShl, 0x06, fun a b => a <<< (b.toNat % 64)), (.sShr, 0x07, fun a b => a >>> (b.toNat % 64)),
    (.sSra, 0x08, fun a b => a.sshiftRight (b.toNat % 64)), (.sMin, 0x09, fun a b => if a.toInt ≤ b.toInt then a else b),
    (.sMax, 0x0A, fun a b => if a.toInt ≤ b.toInt then b else a),
    (.sMinu, 0x0B, fun a b => if a.toNat ≤ b.toNat then a else b),
    (.sMaxu, 0x0C, fun a b => if a.toNat ≤ b.toNat then b else a),
    (.sSlt, 0x0D, fun a b => if a.toInt < b.toInt then 1#64 else 0#64),
    (.sSltu, 0x0E, fun a b => if a.toNat < b.toNat then 1#64 else 0#64),
    (.sSeq, 0x0F, fun a b => if a = b then 1#64 else 0#64)]

/-- Form I: the command, its OPCODE and what it writes of s[RA] and IMM. -/
def scalarImmediateRows : List ((CoreId → Lane → Instr) × Nat × (DWord → DWord → DWord)) :=
  [(.sAddi, 0x10, fun a b => a + b), (.sSubi, 0x11, fun a b => a - b), (.sMuli, 0x12, fun a b => a * b),
    (.sAndi, 0x13, fun a b => a &&& b), (.sOri, 0x14, fun a b => a ||| b), (.sXori, 0x15, fun a b => a ^^^ b),
    (.sShli, 0x16, fun a b => a <<< (b.toNat % 64)), (.sShri, 0x17, fun a b => a >>> (b.toNat % 64)),
    (.sSrai, 0x18, fun a b => a.sshiftRight (b.toNat % 64)), (.sMini, 0x19, fun a b => if a.toInt ≤ b.toInt then a else b),
    (.sMaxi, 0x1A, fun a b => if a.toInt ≤ b.toInt then b else a),
    (.sMinui, 0x1B, fun a b => if a.toNat ≤ b.toNat then a else b),
    (.sMaxui, 0x1C, fun a b => if a.toNat ≤ b.toNat then b else a),
    (.sSlti, 0x1D, fun a b => if a.toInt < b.toInt then 1#64 else 0#64),
    (.sSltui, 0x1E, fun a b => if a.toNat < b.toNat then 1#64 else 0#64),
    (.sSeqi, 0x1F, fun a b => if a = b then 1#64 else 0#64)]

/-! ### The transfer rows (R186) -/

/-- LDE and STE: the command, whether it stores, its OPCODE and its checks and plan. -/
def transferRows : List ((CoreId → Lane → Instr) × Bool × Nat × (Block → Nat → Entry → Check Xfer)) :=
  [(.ldBox, false, 0x00, fun s c en => s.boxPlan c false en), (.ldGather, false, 0x01, fun s c en => s.listPlan c false en),
    (.ldIndex, false, 0x02, fun s c en => s.indexPlan c false en), (.ldLin, false, 0x03, fun s c en => s.linPlan c false en),
    (.ldScale, false, 0x04, fun s c en => s.scalePlan c false en), (.stBox, true, 0x00, fun s c en => s.boxPlan c true en),
    (.stScatter, true, 0x01, fun s c en => s.listPlan c true en), (.stIndex, true, 0x02, fun s c en => s.indexPlan c true en),
    (.stLin, true, 0x03, fun s c en => s.linPlan c true en), (.stScale, true, 0x04, fun s c en => s.scalePlan c true en),
    (.stKvimport, true, 0x05, fun s c en => s.kvPlan c en)]

/-- Whether a checked transfer of partition k can begin: it needs no peer, or the partition has a key (R440), and where it
is a store that draws, no earlier store of its lane has draws to come (R45, R46). -/
def Block.xferReady (b : Block) (k c l : Nat) (store : Bool) (x : Xfer) : Prop :=
  (x.peer = true → b.jobKeyFault k = none) ∧ (store = true → x.conv.draws = true → b.drawing c l = false)

/-! ### The vector rows (R207) -/

/-- VEC: the command, its OPCODE, and what its entry makes of the block once every check of R231 has passed, with the
source descriptors it has read, while no SRAM word holds an error. -/
def vectorRows : List ((CoreId → Lane → Instr) × Nat × (Block → Nat → Nat → Entry → Check (Block × List Nat))) :=
  [(.vChain, 0x00, fun s c l en => (s.chainCheck c l false en).map (fun ch =>
      (s.chainEffect c l en ch, ch.a.toList ++ ch.b.toList))),
    (.vReduce, 0x01, fun s c l en => (s.chainCheck c l true en).map (fun ch =>
      (s.reduceEffect c l en ch, ch.a.toList ++ ch.b.toList))),
    (.vPerm, 0x02, fun s c l en => (s.permCheck c l en).map (fun x => (s.permEffect c x.1 x.2.1 x.2.2, [x.1]))),
    (.vShuf, 0x03, fun s c l en => (s.shufCheck c l en).map (fun x => (s.shufEffect c x.1 x.2 en, [x.1]))),
    (.vPack, 0x04, fun s c l en => (s.packCheck c l true en).map (fun x =>
      (((runCoords (vSizes x.2)).foldl (fun s run => s.packRun c x.1 x.2 en.sc (en.f1 63 32) run) s).bump48
        (rC c 0xE10) (packGroups x.2), [x.1]))),
    (.vUnpack, 0x05, fun s c l en => (s.packCheck c l false en).map (fun x =>
      (((boxCoords (vSizes x.2)).foldl (fun t cs => t.unpackElem c x.1 x.2 en.sc (s.ovfSat c) cs) s).bump48
        (rC c 0xE10) (packGroups x.2), [x.1])))]

/-! ### The bank rows (R120) -/

/-- BNK: the command, its OPCODE and its checks. -/
def bankRows : List ((CoreId → Lane → Instr) × Nat × (Block → Nat → Nat → Entry → Check BankOp)) :=
  [(.bvGemv, 0x80, fun s c l en => s.gemvCheck c l en), (.bvQk, 0x81, fun s c l en => s.attnCheck c l en false),
    (.bvPv, 0x82, fun s c l en => s.attnCheck c l en true), (.bvKvappend, 0x83, fun s c l en => s.appendCheck c l en),
    (.brCopy, 0xA0, fun s c l en => s.utilCheck c l en), (.brInit, 0xA1, fun s c l en => s.utilCheck c l en),
    (.brAnd, 0xA2, fun s c l en => s.utilCheck c l en), (.brOr, 0xA3, fun s c l en => s.utilCheck c l en),
    (.brXor, 0xA4, fun s c l en => s.utilCheck c l en), (.brNot, 0xA5, fun s c l en => s.utilCheck c l en)]

/-! ### When an entry executes normally: descriptors (R57-R60, R64, R71) -/

/-- Handle h of core c names the valid descriptor d (R57, R60). -/
def Names (b : Block) (c h d : Nat) : Prop := (b.desc? c h).map BitVec.toNat = some d

/-- Handle h names a valid descriptor, or is 0 and names none (R57, R60). -/
def MayName (b : Block) (c h : Nat) (o : Option Nat) : Prop :=
  (h = 0 ∧ o = none) ∨ (h ≠ 0 ∧ ∃ d, o = some d ∧ Names b c h d)

/-- A descriptor of core c's own scratchpad (R64). -/
def OwnTensor (c d : Nat) : Prop := dSpace d = 0 ∧ dCore d = c

/-- Every dimension-0 run of a linear tensor starts at a multiple of 32 (R71, R209). -/
def Runs32 (d : Nat) : Prop := dBase d % 32 = 0 ∧ ∀ i, 1 ≤ i → i < dRank d → dStride d i % 32 = 0

/-! ### When a transfer executes normally (R202) -/

/-- Every byte that a host descriptor can reach is in a window that grants the access (R199). -/
def HostReached (b : Block) (k d : Nat) (store : Bool) : Prop :=
  dSpace d = 3 → b.bbMiss k (dBase d) (linEnd d) (bbNeed store (dFormat d)) = none

/-- The blocks `ws` of a distributed tensor that the module itself owns in host memory are reached so too (R85, R199). -/
def BlocksReached (b : Block) (c k d : Nat) (store : Bool) (ws : List Nat) : Prop :=
  ∀ w ∈ ws, ownerOk w = true → bits w 2 0 = b.peerSelf → ∀ o, b.ownBlock c d w = some o → HostReached b k o store

/-- The far side accepts a descriptor: a load reads no scratchpad, and a store writes through no window and to no
scratchpad outside the partition (R64, R74, R186, R197). -/
def FarTensor (b : Block) (c d : Nat) (store : Bool) : Prop :=
  (store = false → dSpace d ≠ 0) ∧
  (store = true → dWindow d = false ∧ (dSpace d = 0 → b.coreOwner (dCore d) = b.coreOwner c))

/-- Checks 2 to 5 of R202 that a box and an index transfer share: the source and destination it names, the scratchpad side
`near` and the far side, spaces, formats (R189) and ranks. -/
structure PairStands (b : Block) (c : Nat) (store trans : Bool) (en : Entry) (src dst near far : Nat) : Prop where
  source : Names b c (en.f0 44 36) src
  dest : Names b c (en.f0 53 45) dst
  nearSide : near = if store then src else dst
  farSide : far = if store then dst else src
  own : OwnTensor c near
  target : store = false → dWindow near = false
  reaches : FarTensor b c far store
  formats : dFormat src = dFormat dst ∨ (store = true ∧ dFormat src ≠ .nb4 ∧ dFormat dst ≠ .nb4)
  bytes : trans = true → (dFormat src).size ≠ 4
  ranks : vRank near = vRank far

/-- LD.BOX and ST.BOX pass R202: checks 1 to 5, with two dimensions to exchange under TRANS; 6, every run of both sides
starting at a multiple of 32 under TRANS (R73); 7, every element in bounds where EDGE asks it (R80); 8, the windows
(R199). -/
structure BoxStands (b : Block) (c k : Nat) (store : Bool) (en : Entry) (src dst near far : Nat) : Prop
    extends PairStands b c store (en.f0 54 54 == 1) en src dst near far where
  exchange : en.f0 54 54 = 1 → 2 ≤ vRank near
  nearRuns : en.f0 54 54 = 1 → Runs32 near
  farRuns : en.f0 54 54 = 1 → ∀ r ∈ boxRuns near en.start (vSizes near) true, ∀ x, r.head? = some x →
    ∀ p a named, b.farPlace c far (b.ownerTable far) store x.2 = .ok p → p.start = some (a, named) → a % 32 = 0
  inBounds : ∀ r ∈ boxRuns near en.start (vSizes near) (en.f0 54 54 == 1), ∀ x ∈ r, farCoord far store x.2 ≠ .out
  windows : HostReached b k far store
  blocks : dSpace far = 4 → BlocksReached b c k far store (ownersOf (b.ownerTable far)
    (touched far store (boxRuns near en.start (vSizes near) (en.f0 54 54 == 1))))

/-- The transfer that LD.BOX or ST.BOX then is (R188). -/
def boxXfer (b : Block) (c : Nat) (store : Bool) (en : Entry) (src dst near far : Nat) : Xfer :=
  let ow := b.ownerTable far
  let runs := boxRuns near en.start (vSizes near) (en.f0 54 54 == 1)
  let ds := [BitVec.ofNat 256 src, BitVec.ofNat 256 dst]
  { conv := en.conv store ds (b.ovfSat c), descs := ds, owners := ow, groups := b.groups c far ow store runs
    peer := b.needsPeer (ownersOf ow (if dSpace far = 4 then touched far store runs else [])) }

/-- LD.INDEX and ST.INDEX pass R202: a dimension of the box, an aligned index tensor in the scratchpad, the other
coordinates in bounds, and the windows of every block (R191). -/
structure IndexStands (b : Block) (c k : Nat) (store : Bool) (en : Entry) (src dst near far : Nat) : Prop
    extends PairStands b c store false en src dst near far where
  dimension : en.f0 55 54 < vRank near
  aligned : en.f1 25 0 % 4 = 0
  within : en.f1 25 0 + 4 * vSize near (en.f0 55 54) ≤ spTop + 1
  inBounds : dEdge far = 0 → ∀ i, i < vRank near → i ≠ en.f0 55 54 → vSize near i ≤ vSize far i
  windows : HostReached b k far store
  blocks : BlocksReached b c k far store (ownersOf (b.ownerTable far) (allBlocks far))

/-- The transfer that LD.INDEX or ST.INDEX then is: its slices are read as it proceeds (R191). -/
def indexXfer (b : Block) (c : Nat) (store : Bool) (en : Entry) (src dst near far : Nat) : Xfer :=
  let ow := b.ownerTable far
  let ds := [BitVec.ofNat 256 src, BitVec.ofNat 256 dst]
  { conv := en.conv store ds (b.ovfSat c), descs := ds, owners := ow, entries := vSize near (en.f0 55 54)
    peer := b.needsPeer (ownersOf ow (allBlocks far)) }

/-- LD.GATHER and ST.SCATTER pass R202: the far tensor, blocks that stay in the scratchpad and in its rank, an aligned
block area and an aligned list in the scratchpad, and the windows of every block (R192). -/
structure ListStands (b : Block) (c k : Nat) (store : Bool) (en : Entry) (far : Nat) : Prop where
  tensor : Names b c (en.f0 44 36) far
  reaches : FarTensor b c far store
  fits : en.f1 25 0 + (en.f0 60 45 + 1) * blockBytes en.shape (dFormat far) ≤ spTop + 1
  flat : ∀ i, i < 4 → vRank far ≤ i → (en.shape[i]?).getD 1 = 1
  aligned : en.f1 25 0 % 32 = 0
  listAligned : en.f1 51 26 % 16 = 0
  listWithin : en.f1 51 26 + 16 * (en.f0 60 45 + 1) ≤ spTop + 1
  windows : HostReached b k far store
  blocks : BlocksReached b c k far store (ownersOf (b.ownerTable far) (allBlocks far))

/-- The transfer that LD.GATHER or ST.SCATTER then is: its entries are read as it proceeds (R83, R192). -/
def listXfer (b : Block) (c : Nat) (store : Bool) (en : Entry) (far : Nat) : Xfer :=
  let ow := b.ownerTable far
  let ds := [BitVec.ofNat 256 far]
  { conv := en.conv store ds (b.ovfSat c), descs := ds, owners := ow, entries := en.f0 60 45 + 1
    peer := b.needsPeer (ownersOf ow (allBlocks far)) }

/-- LD.SCALE and ST.SCALE pass R202: a striped NB4 tensor in DRAM with the regions named, and an aligned range in the
scratchpad (R194). -/
structure ScaleStands (b : Block) (c : Nat) (en : Entry) (t : Nat) : Prop where
  tensor : Names b c (en.f0 44 36) t
  space : dSpace t = 1
  striped : dHome t = false
  format : dFormat t = .nb4
  regions : en.f1 47 26 + (en.f1 63 48 + 1) ≤ dRegions t
  fits : en.f1 25 0 + 96 * (en.f1 63 48 + 1) ≤ spTop + 1
  aligned : en.f1 25 0 % 32 = 0

/-- The transfer that LD.SCALE or ST.SCALE then is: byte b of record i of the range and byte b of region K0 + i's record; a
store writes 0 into bytes 68 to 95 (R194). -/
def scaleXfer (c : Nat) (store : Bool) (en : Entry) (t : Nat) : Xfer :=
  bytePlan [BitVec.ofNat 256 t] ((List.range (en.f1 63 48 + 1)).map (fun i =>
    let at_ := dScalePlace t (en.f1 47 26 + i)
    (List.range 96).map (fun b => ⟨⟨if store ∧ 68 ≤ b then none else some (spKey c (en.f1 25 0 + 96 * i + b)), false, false⟩,
      .dram (dMember t at_.member) at_.row (at_.byte + b) false none⟩)))

/-- ST.KVIMPORT passes R202: a home-position tensor in DRAM with whole columns in a record and the positions named, and an
aligned range in the scratchpad (R195). -/
structure ImportStands (b : Block) (c : Nat) (en : Entry) (d : Nat) : Prop where
  tensor : Names b c (en.f0 44 36) d
  space : dSpace d = 1
  home : dHome d = true
  columns : dRecord d % 32 = 0
  positions : en.f1 47 26 + (en.f0 60 45 + 1) ≤ dSize d 1
  fits : en.f1 25 0 + (en.f0 60 45 + 1) * dRecord d ≤ spTop + 1
  aligned : en.f1 25 0 % 32 = 0

/-- The transfer that ST.KVIMPORT then is: byte b of record i of the range goes to byte b of position P0 + i (R195). -/
def importXfer (c : Nat) (en : Entry) (d : Nat) : Xfer :=
  bytePlan [BitVec.ofNat 256 d] ((List.range (en.f0 60 45 + 1)).map (fun i =>
    let at_ := dPlace d [0, en.f1 47 26 + i, 0, 0]
    (List.range (dRecord d)).map (fun b => ⟨⟨some (spKey c (en.f1 25 0 + i * dRecord d + b)), false, false⟩,
      .dram (dMember d at_.member) at_.row (at_.byte + b) false none⟩)))

/-- An entry of LDE or STE with the given OPCODE passes R202, and is then the transfer x (R186). -/
def XferStands (b : Block) (c k : Nat) (store : Bool) (op : Nat) (en : Entry) (x : Xfer) : Prop :=
  match op with
  | 0 => ∃ src dst near far, BoxStands b c k store en src dst near far ∧ x = boxXfer b c store en src dst near far
  | 1 => ∃ far, ListStands b c k store en far ∧ x = listXfer b c store en far
  | 2 => ∃ src dst near far, IndexStands b c k store en src dst near far ∧ x = indexXfer b c store en src dst near far
  | 4 => ∃ t, ScaleStands b c en t ∧ x = scaleXfer c store en t
  | 5 => ∃ d, ImportStands b c en d ∧ x = importXfer c en d
  | _ => False

/-! ### When a vector or matrix entry executes normally (R212, R220, R231, R234) -/

/-- A stage list that R212 accepts: nothing behind its end, at most one SFU stage and a table slot only with one, a SEL
that R211 allows in every stage, B named if and only if a stage selects it and always with the same SEL, and an even
run where a stage rotates. -/
structure StagesStand (w fn : Nat) (bNamed : Bool) (size0 : Nat) : Prop where
  tail : ∀ i, i < 8 → (stageList w 0 8).length ≤ i → bits w (8 * i + 7) (8 * i) = 0
  sfu : ((stageList w 0 8).filter (fun x => x.2.1 == 0x0C)).length ≤ 1
  slot : fn ≠ 0 → ∃ x ∈ stageList w 0 8, x.2.1 = 0x0C
  sels : ∀ x ∈ stageList w 0 8, selAllowed x.2.1 x.2.2 = true
  named : bNamed = true ↔ ∃ x ∈ stageList w 0 8, selB x.2.2 = true
  one : ∀ x ∈ stageList w 0 8, ∀ y ∈ stageList w 0 8, selB x.2.2 = true → selB y.2.2 = true → x.2.2 = y.2.2
  even : (∃ x ∈ stageList w 0 8, x.2.1 = 0x0B) → size0 % 2 = 0

/-- V.CHAIN and V.REDUCE pass R231: operands A and B, if named, and Y in the core's own scratchpad, their formats, starts
and shapes, the stage list, its table slot VALID (R234), no overlap but the one R220 allows, and the urgent limit. -/
structure ChainStands (b : Block) (c l : Nat) (red : Bool) (en : Entry) (a o : Option Nat) (y : Nat) : Prop where
  opA : MayName b c en.hA a
  opB : MayName b c en.hB o
  opY : Names b c en.hY y
  needed : red = true → a.isSome = true
  own : ∀ d ∈ a.toList ++ o.toList ++ [y], OwnTensor c d
  target : dWindow y = false
  cf : en.cf ≤ 2
  formats : ∀ d ∈ a.toList ++ o.toList ++ [y], dFormat d ≠ .nb4
  index : red = true → en.redop = 4 → dFormat y = .fp32
  aligned : ∀ d ∈ a.toList ++ o.toList ++ [y], Runs32 d
  shapeA : red = false → ∀ d, a = some d → vRank d = vRank y ∧ vSizes d = vSizes y
  shapeB : ∀ d, o = some d → bFits d (chainSel en.stages) (vRank (if red then a.getD y else y))
    (vSizes (if red then a.getD y else y)) = true
  shapeY : red = true → dSizes y = (if en.redop = 5 then 2 else 1) :: (vSizes (a.getD y)).drop 1
  stages : StagesStand en.w2.toNat en.fn o.isSome (vSize (if red then a.getD y else y) 0)
  slot : (∃ x ∈ en.stages, x.2.1 = 0x0C) → (b.sfuSlot c en.fn).code = 2
  apart : ∀ d, (a = some d ∨ o = some d) → overlaps d y = true → red = false ∧ sameRuns d y = true
  urgent : l = 1 → volume (vSizes (if red then a.getD y else y)) ≤ 8192

/-- The chain that then runs. -/
def chainOf (red : Bool) (en : Entry) (a o : Option Nat) (y : Nat) : Chain :=
  ⟨a, o, y, vSizes (if red then a.getD y else y), chainSel en.stages⟩

/-- Handles, spaces and starts of an entry with operands A and Y (R209). -/
structure TwoTensors (b : Block) (c l : Nat) (en : Entry) (a y : Nat) : Prop where
  opA : Names b c en.hA a
  opY : Names b c en.hY y
  ownA : OwnTensor c a
  ownY : OwnTensor c y
  target : dWindow y = false
  runsA : Runs32 a
  runsY : Runs32 y
  apart : overlaps a y = false
  urgent : l = 1 → vCount y ≤ 8192

/-- V.PERM passes R231: equal formats, shapes that differ in dimension 0 alone, an aligned index vector in the scratchpad
and clear of Y, and every index in A where EDGE asks it (R216). -/
structure PermStands (b : Block) (c l : Nat) (en : Entry) (a y : Nat) : Prop extends TwoTensors b c l en a y where
  formats : dFormat a = dFormat y ∧ dFormat a ≠ .nb4
  aligned : en.f1 25 0 % 32 = 0
  shapes : vRank a = vRank y ∧ (vSizes a).drop 1 = (vSizes y).drop 1
  fits : dSize y 0 ≤ 65536 ∧ en.f1 25 0 + 2 * dSize y 0 ≤ spTop + 1
  clear : overlapsRange y (en.f1 25 0) (en.f1 25 0 + 2 * dSize y 0) = false
  inBounds : dEdge a = 0 → ∀ i, i < dSize y 0 → b.permIdx c (en.f1 25 0) i < vSize a 0

/-- V.SHUF passes R231: equal formats and shapes, whole groups, and a rotation below the group's size (R217). -/
structure ShufStands (b : Block) (c l : Nat) (en : Entry) (a y : Nat) : Prop extends TwoTensors b c l en a y where
  formats : dFormat a = dFormat y ∧ dFormat a ≠ .nb4
  shapes : vSizes a = vSizes y
  groups : dSize y 0 % en.shufG = 0
  amount : en.pat = 1 → en.shufAmt < en.shufG

/-- V.PACK and V.UNPACK pass R231: one NB4 operand, Y to pack and A to unpack, equal shapes, and aligned scale records in
the scratchpad, clear of Y (R218, R219). -/
structure PackStands (b : Block) (c l : Nat) (pack : Bool) (en : Entry) (a y : Nat) : Prop
    extends TwoTensors b c l en a y where
  formats : (dFormat a = .nb4 ↔ pack = false) ∧ (dFormat y = .nb4 ↔ pack = true)
  aligned : en.sc % 32 = 0
  shapes : vSizes a = vSizes y
  fits : en.sc + nbRecBytes (if pack then y else a) ≤ spTop + 1
  clear : overlapsRange y en.sc (en.sc + nbRecBytes (if pack then y else a)) = false

/-- An entry of VEC with the given OPCODE passes R231, and then makes `b2` of the block, having read the source descriptors
`srcs` (R207). -/
def VectorStands (b : Block) (c l op : Nat) (en : Entry) (b2 : Block) (srcs : List Nat) : Prop :=
  match op with
  | 0 => ∃ a o y, ChainStands b c l false en a o y ∧ b2 = b.chainEffect c l en (chainOf false en a o y) ∧
      srcs = a.toList ++ o.toList
  | 1 => ∃ a o y, ChainStands b c l true en a o y ∧ b2 = b.reduceEffect c l en (chainOf true en a o y) ∧
      srcs = a.toList ++ o.toList
  | 2 => ∃ a y, PermStands b c l en a y ∧ b2 = b.permEffect c a y (en.f1 25 0) ∧ srcs = [a]
  | 3 => ∃ a y, ShufStands b c l en a y ∧ b2 = b.shufEffect c a y en ∧ srcs = [a]
  | 4 => ∃ a y, PackStands b c l true en a y ∧ srcs = [a] ∧
      b2 = ((runCoords (vSizes y)).foldl (fun s run => s.packRun c a y en.sc (en.f1 63 32) run) b).bump48 (rC c 0xE10) (packGroups y)
  | 5 => ∃ a y, PackStands b c l false en a y ∧ srcs = [a] ∧
      b2 = ((boxCoords (vSizes y)).foldl (fun t cs => t.unpackElem c a y en.sc (b.ovfSat c) cs) b).bump48 (rC c 0xE10) (packGroups y)
  | _ => False

/-- M.MM passes R231: its operands in the core's own scratchpad and no windows, formats that R224 pairs, aligned runs and
scale records, matrices of rank 2 whose sizes agree (R222, R223), C and the scale records where the entry has them and
nowhere else, no overlap with Y (R220), and the urgent limits (R227). -/
structure MatMulStands (b : Block) (c l : Nat) (en : Entry) (x : MatMul) : Prop where
  opA : Names b c en.hA x.a
  opB : Names b c en.hB x.b
  opY : Names b c en.hY x.y
  opC : (en.mmAcc = 2 ∧ ∃ d, x.cd = some d ∧ Names b c en.mmC d) ∨ (en.mmAcc ≠ 2 ∧ x.cd = none ∧ en.mmC = 0)
  fields : x.acc = en.mmAcc ∧ x.tb = en.mmTb ∧ x.sc = en.mmSc
  own : ∀ d ∈ [x.a, x.b, x.y] ++ x.cd.toList, OwnTensor c d ∧ dWindow d = false ∧ Runs32 d
  formats : mmFmtBad x.a x.b x.y x.cd en.mmAcc = false
  records : ∀ d, nbOperand x.a x.b = some d → en.mmSc % 32 = 0 ∧ en.mmSc + nbRecBytes d ≤ spTop + 1 ∧
    overlapsRange x.y en.mmSc (en.mmSc + nbRecBytes d) = false
  noRecords : nbOperand x.a x.b = none → en.mmSc = 0
  ranks : dRank x.a = 2 ∧ dRank x.b = 2 ∧ dRank x.y = 2
  inner : (if x.tb then dSize x.b 1 else dSize x.b 0) = x.k
  outer : dSize x.y 0 = x.n ∧ dSize x.y 1 = x.m
  rows : x.m ≤ 4096
  bias : ∀ d, x.cd = some d → dRank d = 1 ∧ dSize d 0 = x.n ∧ overlaps d x.y = false
  apart : overlaps x.a x.y = false ∧ overlaps x.b x.y = false
  urgent : l = 1 → x.m ≤ 128 ∧ x.n ≤ 128 ∧ x.k ≤ 4096

/-! ### When a bank operation executes normally (R121-R124, R129) -/

/-- The staging range of n bytes is aligned, in the scratchpad, and clear of X and Y (R121, R122). -/
structure StagingStands (stg n x y : Nat) : Prop where
  aligned : stg % 32 = 0
  within : stg + n ≤ spTop + 1
  clearX : overlapsRange x stg (stg + n) = false
  clearY : overlapsRange y stg (stg + n) = false

/-- An urgent operation takes at most four banks and in each at most sixteen rows, scale rows and both rows of a pair
among them (R124). -/
def SpanStands (l : Nat) (o : BankOp) : Prop :=
  l = 1 → o.members.length ≤ 4 ∧ ∀ m ∈ o.members,
    (if 0xA0 ≤ o.op then (o.rows.flatMap (fun r => (List.range o.nrow).map (fun i => r + i))).eraseDups.length
     else o.runsIn m + (if o.op = 0x80 ∧ dFormat o.w = .nb4 then ceilDiv (o.runsIn m) 21 else 0)) ≤ 16

/-- A descriptor has the rank and the sizes of a list (R122). -/
def Sized (d : Nat) (l : List Nat) : Prop := vRank d = l.length ∧ ∀ i n, l[i]? = some n → vSize d i = n

/-- W, X and Y of BV.GEMV, BV.QK and BV.PV are valid, X and Y in the core's own scratchpad and Y no window (R64, R122). -/
structure BankTensors (b : Block) (c : Nat) (en : Entry) (home : Bool) (w x y : Nat) : Prop where
  opW : Names b c en.bW w
  opX : Names b c en.bX x
  opY : Names b c en.bY y
  dram : dSpace w = 1 ∧ dHome w = home
  ownX : OwnTensor c x
  ownY : OwnTensor c y
  target : dWindow y = false

/-- BV.GEMV passes R122 to R124 and R100. -/
structure GemvStands (b : Block) (c l : Nat) (en : Entry) (w x y : Nat) : Prop extends BankTensors b c en false w x y where
  formats : dFormat w ∈ [Fmt.int4, .nb4, .e4m3, .int8, .bf16] ∧ dFormat x ∈ [Fmt.bf16, .e4m3, .e5m2] ∧
    dFormat y ∈ [Fmt.fp32, .bf16]
  rank : dRank w = 2
  sizes : Sized x [dSize w 0, en.bV] ∧ Sized y [dSize w 1, en.bV]
  staging : StagingStands en.bStg (4 * dT0 w * dT1 w * dTileH w * en.bV) x y
  latch : en.bV * dTileW w * ((dFormat x).size / 8) ≤ latchCap l
  accs : dTileH w * en.bV ≤ 16
  span : SpanStands l (bankOp c l en w none x y)

/-- BV.QK and BV.PV pass R122 to R124 and R100; `pv` tells which. -/
structure AttnStands (b : Block) (c l : Nat) (pv : Bool) (en : Entry) (k x y : Nat) : Prop
    extends BankTensors b c en true k x y where
  formats : dFormat k ∈ [Fmt.e4m3, .int8, .bf16] ∧ dFormat x ∈ [Fmt.bf16, .e4m3, .e5m2] ∧ dFormat y ∈ [Fmt.fp32, .bf16]
  sizes : Sized (if pv then y else x) [dElems k, en.bV] ∧ Sized (if pv then x else y) [en.bPc, en.bS, en.bV]
  staging : StagingStands en.bStg
    (if pv then 64 * en.bV * dElems k else en.bPc * en.bS * en.bV * ((dFormat y).size / 8)) x y
  positions : en.bP0 + en.bPc ≤ dSize k 1
  latch : en.bV * dElems k * (if pv then 4 else (dFormat x).size / 8) ≤ latchCap l
  records : dPerRow k * en.bS * en.bV ≤ 16
  segments : dElems k / en.bS % (256 / (dFormat k).size) = 0
  span : SpanStands l (bankOp c l en k none x y)

/-- BV.KVAPPEND passes R122 to R124 (formats: log entry 122; operand addresses: log entry 128). -/
structure AppendStands (b : Block) (c l : Nat) (en : Entry) (k : Nat) (v : Option Nat) : Prop where
  opK : Names b c en.bW k
  opV : MayName b c en.bX v
  home : ∀ d ∈ k :: v.toList, dSpace d = 1 ∧ dHome d = true
  formats : ∀ d ∈ k :: v.toList, dFormat d ∈ [Fmt.int4, .nb4, .e4m3, .int8, .bf16]
  key : en.bStg % 32 = 0 ∧ en.bStg + dRecord k ≤ spTop + 1
  value : en.bXv % 32 = 0 ∧ en.bXv + (v.map dRecord).getD 0 ≤ spTop + 1
  oneSet : ∀ d, v = some d → sameSet k d = true
  position : ∀ d ∈ k :: v.toList, en.bP0 < dSize d 1
  columns : ∀ d ∈ k :: v.toList, dRecord d % 32 = 0
  span : SpanStands l (bankOp c l en k v 0 0)

/-- A row utility passes R122 to R124 and R129: a tensor in DRAM, its pattern in place for BR.INIT (log entry 128), and every
row it uses among the tensor's. -/
structure UtilStands (b : Block) (c l : Nat) (en : Entry) (t : Nat) : Prop where
  opT : Names b c en.bW t
  dram : dSpace t = 1
  pattern : en.opcode = 0xA1 → en.bStg % 32 = 0 ∧ en.bStg + 32 ≤ spTop + 1
  rows : ∀ r ∈ en.utilRows, rowsIn t r en.bNrow = true
  span : SpanStands l { bankOp c l en t none 0 0 with rows := en.utilRows }

/-- An entry of BNK with the given OPCODE passes its checks, and is then the operation o (R120, R129). -/
def BankStands (b : Block) (c l op : Nat) (en : Entry) (o : BankOp) : Prop :=
  if op = 0x80 then ∃ w x y, GemvStands b c l en w x y ∧ o = bankOp c l en w none x y
  else if op = 0x81 ∨ op = 0x82 then ∃ k x y, AttnStands b c l (op == 0x82) en k x y ∧ o = bankOp c l en k none x y
  else if op = 0x83 then ∃ k v, AppendStands b c l en k v ∧ o = bankOp c l en k v 0 0
  else ∃ t, UtilStands b c l en t ∧ o = { bankOp c l en t none 0 0 with rows := en.utilRows }

/-! ### Every row that brings an entry to its issue point -/

/-- A command that brings the head of an engine's queue to its issue point: engine, OPCODE, entries that may be in flight,
and the counters it names besides the common ones (R263). -/
structure EntryRow where
  cmd : CoreId → Lane → Instr
  engine : Nat
  op : Nat
  maxOut : Nat
  extra : Block → Nat → Entry → List CtrUse

/-- No counter but the common ones. -/
def noExtra (_ : Block) (_ : Nat) (_ : Entry) : List CtrUse := []

/-- The rows of all seven engines. -/
def entryRows : List EntryRow :=
  scalarRegisterRows.map (fun r => ⟨r.1, 0, r.2.1, 1, noExtra⟩) ++
  scalarImmediateRows.map (fun r => ⟨r.1, 0, r.2.1, 1, noExtra⟩) ++
  [⟨.sLd, 0, 0x20, 1, noExtra⟩, ⟨.sSt, 0, 0x21, 1, noExtra⟩, ⟨.sDesc, 0, 0x30, 1, noExtra⟩, ⟨.sDclr, 0, 0x31, 1, noExtra⟩] ++
  transferRows.map (fun r => ⟨r.1, eXfer r.2.1, r.2.2.1, 16, noExtra⟩) ++
  vectorRows.map (fun r => ⟨r.1, 1, r.2.1, 64, noExtra⟩) ++
  bankRows.map (fun r => ⟨r.1, 3, r.2.1, 65536, noExtra⟩) ++
  [⟨.mMm, 2, 0x00, 1, noExtra⟩, ⟨.bvFence, 3, 0xBF, 65536, noExtra⟩,
    ⟨.ySignal, 6, 0x00, 1, fun _ _ en => [⟨en.ctr, 3, 0, 0⟩]⟩, ⟨.yWait, 6, 0x01, 1, fun _ _ en => [⟨en.ctr, 3, 0, en.amt⟩]⟩,
    ⟨.yTake, 6, 0x02, 1, fun _ _ en => [⟨en.ctr, 3, 0, en.amt⟩]⟩, ⟨.yBar, 6, 0x03, 1, fun _ _ en => [⟨en.ctr, 3, 1, 0⟩]⟩,
    ⟨.yRsig, 6, 0x04, 1, fun s c en => s.rsigUses c en⟩]

/-! ### Pillar words (R286-R290) -/

/-- A word as a command brings it to the controller of a pillar: what it carries and where it comes from. -/
structure WordIn where
  pillar : PillarId
  word : DWord
  data : List Column := []
  check : BitVec 32 := 0#32
  upto : Nat := 0
  src : BusSource := .normal

/-- The word of a command that is a pillar word. -/
def wordOf : Instr → Option WordIn
  | .arm p w => some { pillar := p, word := w }
  | .armx p w => some { pillar := p, word := w }
  | .feed p w data => some { pillar := p, word := w, data := data }
  | .run p w data upto => some { pillar := p, word := w, data := data, upto := upto }
  | .park p w => some { pillar := p, word := w }
  | .resume p w upto => some { pillar := p, word := w, upto := upto }
  | .drain p w => some { pillar := p, word := w }
  | .abort p w => some { pillar := p, word := w }
  | .stest p w pass => some { pillar := p, word := w, upto := b2n pass }
  | .act p w => some { pillar := p, word := w.word, src := w.src }
  | .pre p w => some { pillar := p, word := w.word, src := w.src }
  | .rd p w => some { pillar := p, word := w.word, src := w.src }
  | .wr p w data check => some { pillar := p, word := w.word, data := [data], check := check, src := w.src }
  | .refb p w => some { pillar := p, word := w }
  | .select p w => some { pillar := p, word := w }
  | .pde p w => some { pillar := p, word := w }
  | .pdx p w => some { pillar := p, word := w }
  | .idrd p w => some { pillar := p, word := w }
  | .tmrd p w celsius => some { pillar := p, word := w, upto := celsius.toNat }
  | .rsync p w => some { pillar := p, word := w }
  | _ => none

/-- The word as it waits in the controller, which it has just reached. -/
def WordIn.waiting (x : WordIn) (b : Block) : Waiting :=
  { word := x.word, data := x.data, check := x.check, upto := x.upto, src := x.src, since := b.cycle,
    sel := (b.pillar x.pillar).sel }

/-- The controller of a pillar sends the word as it comes: it sends words, none waits, the word waits for nothing, its
shadow-ring entry is free, and the controller makes such a word (R292, R300, R301, R309; R125-R130). -/
structure Leaves (b : Block) (x : WordIn) : Prop where
  on : b.pillarOn x.pillar = true
  alone : (b.pillar x.pillar).waiting = []
  ready : b.wordReady x.pillar [] (x.waiting b) = true
  free : b.entryFree x.pillar (x.waiting b) = true
  due : b.sent x.pillar (x.waiting b) = true

/-- Command i is the word x, which the controller sends as it comes; the word is good, and it breaks no pair of ARM and
ARMX (R290). -/
structure Sends (b : Block) (i : Instr) (x : WordIn) : Prop extends Leaves b x where
  row : wordOf i = some x
  good : badWord x.word = false
  paired : ∀ a, (b.pillar x.pillar).arm = some a → wCmd x.word = 0x18 ∧ sameTarget a x.word = true
  single : (b.pillar x.pillar).arm = none → wCmd x.word ≠ 0x18

/-- Physical die d takes a good word: it is addressed, powered, answering, and discards nothing (R287, R290, R303). -/
def Takes (b : Block) (p : Nat) (w : DWord) (d : Nat) : Prop :=
  d ∈ wordDies w (b.pillar p).sel ∧ b.sendsTo p d = true ∧ (b.pillar p).discarding.contains d = false

/-- Bank k of die d takes a good word. -/
def TakesBank (b : Block) (p : Nat) (w : DWord) (d k : Nat) : Prop :=
  Takes b p w d ∧ k ∈ wordBanks w (b.pillar p).sel

/-- The dies of a group that a word which reaches die d wakes: all of its group, where that is powered down and is no spare
at rest (R300). -/
def Wakes (b : Block) (p d d' : Nat) : Prop :=
  b.groupDown p (d / 4) = true ∧ b.spareRests p (d / 4) = false ∧ d' < 17 ∧ d' / 4 = d / 4

/-- What every sent word does to its pillar: nothing waits there, the word takes its shadow-ring entry, the last in sending
order, behind the entries that stand there (an ARM's notes the ticket its ARMX brings), and no other pillar holds
anything else than before (R301). -/
structure WordSent (b b' : Block) (x : WordIn) : Prop where
  ring : ∃ old e, (b'.pillar x.pillar).ring = old ++ [e] ∧ e.tag = wTag x.word ∧ e.word = x.word ∧
    e.data = x.data ∧ e.check = x.check ∧ e.sel = (b.pillar x.pillar).sel ∧ e.src = x.src ∧
    old.map (fun y => { y with ticket := none }) =
      (b.pillar x.pillar).ring.map (fun y => { y with ticket := none }) ∧
    (wCmd x.word ≠ 0x18 → old = (b.pillar x.pillar).ring)
  waiting : (b'.pillar x.pillar).waiting = []
  sel : wCmd x.word ≠ 0x06 → (b'.pillar x.pillar).sel = (b.pillar x.pillar).sel
  discarding : wCmd x.word ≠ 0x0B → (b'.pillar x.pillar).discarding = (b.pillar x.pillar).discarding
  arm : (b'.pillar x.pillar).arm = if wCmd x.word = 0x10 then some x.word else none
  others : ∀ p', p' ≠ x.pillar.val → b'.pillar p' = b.pillar p'

/-- What a word makes of the units of banks: every bank that takes it becomes what `f` makes of its unit, every other
bank's unit stays, and the groups of the dies that take it are awake (R300). -/
structure UnitsTo (p : Nat) (w : DWord) (b b' : Block) (f : Nat → Blu → Blu) : Prop where
  taken : ∀ d k, TakesBank b p w d k → b'.blu (bankKey p d k) = f d (b.blu (bankKey p d k))
  others : ∀ x, (∀ d k, TakesBank b p w d k → x ≠ bankKey p d k) → b'.blu x = b.blu x
  awake : ∀ d d', Takes b p w d → Wakes b p d d' → b'.fld (rDie p d') 5 5 = 0

/-- A word that changes units of banks as `f` says, and beside them only registers, the pillar and logged events. -/
def UnitsBecome (i : Instr) (x : WordIn) (b : Block) (f : Nat → Blu → Blu) : Prop :=
  ∃ b', Gives i b b' ∧ WordSent b b' x ∧ UnitsTo x.pillar x.word b b' f ∧
    ∃ regs pillars blus evlog orderEvents, b' =
      { b with regs := regs, pillars := pillars, blus := blus, evlog := evlog, orderEvents := orderEvents }

/-- The accumulators of every bank that takes a word agree with their residues where the word reads them to keep them
(R111): where `reads` holds of the bank's unit. -/
def AccsRead (b : Block) (p : Nat) (w : DWord) (reads : Blu → Prop) : Prop :=
  ∀ d k, TakesBank b p w d k → reads (b.blu (bankKey p d k)) → (b.blu (bankKey p d k)).acc.all ResWord.ok = true

/-- A unit after an ordinary command of a request port has stopped its normal RUN, if it has one, at a column boundary: the
accumulators are in the shadows and the RUN is the checkpoint (R105, R293). -/
def Blu.yields (u : Blu) (src : BusSource) : Blu :=
  match u.run with
  | some r => if src.ordinary then
      { u with shadow := u.acc, ckptValid := true, ckpt := some r, ckptPar := r.parity, run := none, st := 4 } else u
  | none => u

/-- A unit after an operation of a lane has ended there: IDLE, or without an urgent operation, and then an ARMED normal
operation has its accumulators back (R89, R107). -/
def Blu.ends (u : Blu) (lane : Nat) : Blu :=
  if lane = 0 then { u with st := 1, op := none, run := none, ckpt := none, ckptValid := false, sent := 0 }
  else
    let v := { u with
      uop := none, urun := none, uckpt := none, uhalt := false, udrain := false, refOwed := false, usent := 0 }
    if u.st = 2 then { v with acc := u.shadow, ckptValid := false } else v

/-- The shadows of every bank that takes a word of the urgent lane agree with their residues where its operation ends over
an ARMED one (R107, R111). -/
def ShadowsRead (b : Block) (p : Nat) (w : DWord) : Prop :=
  ∀ d k, TakesBank b p w d k → wLane w = 1 → (b.blu (bankKey p d k)).st = 2 →
    (b.blu (bankKey p d k)).shadow.all ResWord.ok = true

/-- A unit after a command it refuses: CMD_SEQ is set and nothing else changes (R90). -/
def Blu.refused (u : Blu) : Blu := { u with err := u.err ||| 64#7 }

/-! ### Peer messages (R352, R353, R438) -/

/-- A peer message arrives at port p for partition k and is genuine (R353, R438). -/
structure PeerArrives (b : Block) (p : Port) (kind : Nat) (m : PeerMsg) (k : Nat) : Prop where
  serves : b.life = .service
  up : b.dlUp p.num = true
  peerOn : b.peerUp = true
  onPort : b.fld (rHi 0x700) 1 1 = p.num
  owner : b.coreOwner m.core = some k
  genuine : b.peerGenuine k kind m = true

/-! ### Aqast messages (R429) -/

/-- What R429 judges an Aqast message by: its port and session, whether it is malformed, and the role it needs. -/
structure AqastRow where
  port : Port
  sid : Nat
  bad : Bool
  role : Session → Bool

/-- The five messages. -/
def aqastOf (b : Block) : Instr → Option AqastRow
  | .setAdmin p sid digest => some ⟨p, sid, digest.length != 48, fun x => b.isAdmin x || b.fld (rSb 0x300) 0 0 == 0⟩
  | .attach p sid part => some ⟨p, sid, decide (8 ≤ part.toNat), fun x => b.isTenant x part.toNat⟩
  | .attestAck p sid part digest =>
    some ⟨p, sid, decide (8 ≤ part.toNat) || digest.length != 48, fun x => b.isTenant x part.toNat⟩
  | .setJobKey p sid part index _ _ key => some ⟨p, sid,
      decide (8 ≤ part.toNat) || decide (4 ≤ index.toNat) || key.length != 32, fun x => b.isTenant x part.toNat⟩
  | .delJobKey p sid part index => some ⟨p, sid, decide (8 ≤ part.toNat) || decide (4 ≤ index.toNat),
      fun x => b.isTenant x part.toNat || b.isAdmin x⟩
  | _ => none

/-- An Aqast message reaches its own rule: the port answers in service, the session is open with mutual authentication,
the message is well formed and its sender has the role (R429). -/
structure AqastDue (b : Block) (i : Instr) (a : AqastRow) (x : Session) : Prop where
  row : aqastOf b i = some a
  live : b.portLive a.port.num = true
  serves : b.life = .service
  session : b.session? a.port a.sid = some x
  mutualAuth : x.mutualAuth = true
  formed : a.bad = false
  role : a.role x = true

/-! ### Rings, partitions, bundles and plans: when a command is accepted (R325, R424, R435, R461, R462) -/

/-- OPEN of ring n finds no reason of R325 against it: it is closed; its partition is bound and has the ring's core; its
writer, if a sequencer, is the partition's; its completion ring is aligned to its size, within the region and clear of
every open ring's; its slots have a size and an area in the partition's reach; and its mirror and credit record lie in
write windows. -/
structure RingOpens (b : Block) (n : Nat) : Prop where
  closed : b.ringOpen n = false
  bound : b.partState (b.ringPart n) = 1
  core : n < 8 → b.coreOwner n = some (b.ringPart n)
  writer : b.ringWriter n ≠ 0 → b.seqOwner (b.ringWriter n - 16) = some (b.ringPart n)
  aligned : 256 * b.rn (rRing n 0x10) % b.csize n = 0
  within : 256 * b.rn (rRing n 0x10) + b.csize n ≤ 65536
  apart : ∀ m : RingId, m.val ≠ n → b.ringOpen m = true → rangesMeet (b.cring n) (b.cring m) = false
  slots : b.rcount n ≠ 0 → b.rsize n ≠ 0
  area : b.rcount n ≠ 0 → (b.ringPath n = 2 → b.inWriteWindow (b.ringPart n) (b.rarea n).1 (b.rarea n).2 = true) ∧
    (b.ringPath n ≠ 2 → b.inLedAlloc (b.ringPart n) (b.rarea n).1 (b.rarea n).2 = true)
  mirror : b.ringPath n = 2 → b.inWriteWindow (b.ringPart n) (b.rn (rRing n 0x30)) (32 * b.csize n) = true
  credit : b.fld (rRing n 0) 11 11 = 1 → b.inWriteWindow (b.ringPart n) (b.rn (rRing n 0x38)) 16 = true

/-- BIND of partition k finds no reason of R424 against it. -/
structure PartBinds (b : Block) (k : Nat) : Prop where
  free : b.partState k = 0
  cores : bits (b.units k) 7 0 ≠ 0
  pillars : bits (b.units k) 23 8 ≠ 0
  apart : ∀ j : PartId, j.val ≠ k → b.partState j ≠ 0 → b.units k &&& b.units j = 0
  pool : (b.poolShare k).1 + (b.poolShare k).2 ≤ 4096
  poolApart : ∀ j : PartId, j.val ≠ k → b.partState j ≠ 0 → rangesMeet (b.poolShare k) (b.poolShare j) = false
  tenant : b.digestAt (rPart k 0x10) 12 ≠ 0
  coresOn : ∀ c : CoreId, (b.units k).testBit c = true → b.domOn c = true
  pillarsOn : ∀ p : PillarId, (b.units k).testBit (8 + p.val) = true → b.domOn (51 + p) = true ∧ b.domOn (67 + p) = true
  ports : b.fld (rPart k 0) 25 24 ≠ 0

/-- RELEASE of partition k finds no reason of R424 against it. -/
structure PartReleases (b : Block) (k : Nat) : Prop where
  bound : b.partState k = 1
  rings : ∀ r : RingId, b.ringOpen r = true → b.ringPart r ≠ k
  hosts : b.attState k ≠ 1 ∧ b.attState k ≠ 3
  plans : ∀ q : SeqId, b.seqOwner q = some k → b.fld (rQ q 8) 2 0 ≠ 2

/-- Requester r may zeroise partition k: a port that may write SB.WB.k, or a standing order (R442). -/
def Zeroises (b : Block) (r : Requester) (k : Nat) : Prop :=
  r = .mc ∨ ∃ p : Port, r = .port p ∧ b.portMay p.num (rWb k 0) true = true

/-- The bundle header h at hdr passes every check of R435 for slot n of partition k, its wrapped key, in the entry `w` that
carries the module's UID, being `key` (R433, R434). -/
structure BundleOpens (b : Block) (k n hdr : Nat) (h w key : List Byte) : Prop where
  magic : numAt h 0 4 = 0x57424E31 ∧ numAt h 4 2 = 1
  entries : 1 ≤ numAt h 6 2 ∧ numAt h 6 2 ≤ 64
  chunks : 1 ≤ numAt h 16 4 ∧ 1 ≤ numAt h 20 4 ∧ numAt h 20 4 ≤ 65536
  reserved : zeroAt h 24 8 = true ∧ zeroAt h 128 64 = true ∧ zeroAt h 4304 48 = true
  spare : ∀ e, e < 64 → (e < numAt h 6 2 → zeroAt h (192 + 64 * e + 56) 8 = true) ∧
    (numAt h 6 2 ≤ e → zeroAt h (192 + 64 * e) 64 = true)
  entry : bundleEntry h = some w
  unwraps : Config.bundleKey (slice h 32 96) (slice h 8 8) w = some key
  tag : (Config.gcmTag key (slice h 8 8 ++ leBytes 0xFFFFFFFF 4) (h.take 4288) []).toNat = numAt h 4288 16
  empty : b.bundle k n = none
  inside : b.inLedAlloc k hdr 4352 = true

/-- A DECRYPT of one chunk of the open bundle x finds nothing of R435 against it: its record lies in the allocation, its
destination in the sealed range, which the record does not meet, and the bundle has the chunk. -/
structure Decrypts (b : Block) (k slot src dst first : Nat) (x : Bundle) : Prop where
  inside : b.inLedAlloc k src 65600 = true
  opened : b.bundle k slot = some x
  sealed : rangeIn (dst, x.chunkLen first) (b.sealedRange k) = true
  apart : rangesMeet (src, 65600) (b.sealedRange k) = false
  clear : rangesMeet (src, 65600) (dst, x.chunkLen first) = false
  chunk : first < x.nchunk

/-- Sequencer q's sibling can take its plan over: it has none, writes no open ring and is on (R465). -/
structure SiblingFree (b : Block) (q : Nat) : Prop where
  idle : b.planState (sibling q) = 0
  rings : b.planRings (sibling q) = []
  on : b.domOn (24 + sibling q) = true

/-- No reason of R462 stands against the command of bit n of PLCTL: none runs and the state takes it; the sequencer is on
and in a bound partition; LOAD names an aligned header in the partition's allocation; and MOVE has a free sibling. -/
structure PlanTakes (b : Block) (q n : Nat) : Prop where
  ready : b.planBusy q = false
  state : b.planState q ∈ planAccepts n
  on : b.domOn (24 + q) = true
  home : ∃ k, b.seqOwner q = some k ∧ b.partState k = 1 ∧
    (n = 0 → b.rn (rQ q 4) % 64 = 0 ∧ b.inLedAlloc k (b.rn (rQ q 4)) 64 = true)
  sibling : n = 4 → SiblingFree b q

/-- The image at PLSRC passes every check of R461 and R462, its header h being the first 64 bytes. -/
structure ImageLoads (b : Block) (q : Nat) (h : List Byte) : Prop where
  aligned : b.rn (rQ q 4) % 64 = 0
  on : b.domOn (24 + q) = true
  home : ∃ k, b.seqOwner q = some k ∧ b.partState k = 1 ∧
    b.inLedAlloc k (b.rn (rQ q 4)) (64 + imageField h 8 4 + imageField h 24 4) = true
  magic : imageField h 0 4 = 0x504C4E31 ∧ imageField h 4 2 = 1 ∧ imageField h 6 2 = 0 ∧ imageField h 28 32 = 0
  code : 4 ≤ imageField h 8 4 ∧ imageField h 8 4 ≤ 32768 ∧ imageField h 8 4 % 4 = 0
  starts : ∀ x ∈ [imageField h 12 4, imageField h 16 4], x % 4 = 0 ∧ x < imageField h 8 4
  stack : imageField h 20 4 % 64 = 0 ∧ imageField h 20 4 ≤ 0x1FFC0 ∧ 0x10000 + imageField h 24 4 ≤ imageField h 20 4
  check : imageField h 60 4 = (crc32c (h.take 60 ++
    b.ledRead (b.rn (rQ q 4) + 64) (imageField h 8 4 + imageField h 24 4))).toNat

/-- A unit of which nothing keeps its die awake: both buffers closed, and neither RUNNING nor DRAINING (R300). -/
structure Blu.Quiet (u : Blu) : Prop where
  rb0 : u.rb0 = none
  rb1 : u.rb1 = none
  run : u.run = none
  urun : u.urun = none
  state : u.st ≠ 3 ∧ u.st ≠ 5
  udrain : u.udrain = false

/-- Die group g of pillar p meets the conditions of R300 for power-down: its bit in EN, every unit of its banks quiet, and no
word to it in the shadow ring or waiting; and the spare's group in no switch. -/
structure GroupRests (b : Block) (p g : Nat) : Prop where
  enabled : (b.rn (rP p 0xB0)).testBit g = true
  units : ∀ x ∈ b.blus, x.1 / 256 / 17 = p → x.1 / 256 % 17 / 4 = g → x.2.Quiet
  ring : ∀ e ∈ (b.pillar p).ring, ∀ d ∈ wordDies e.word e.sel, d / 4 ≠ g
  waiting : ∀ e ∈ (b.pillar p).waiting, ∀ d ∈ wordDies e.word e.sel, d / 4 ≠ g
  spare : g = 4 → b.spareAwake p = false

/-! ### Domains (R375) -/

/-- R375: domain d may change its state under a written DOMCTL that wants `want`: an array comes on with its core; a core goes
off in no partition, an array with no M.MM issued, a scratchpad with its core off, a sequencer that runs no plan and writes
no open ring, a Ledger quarter that no range allocates, a port with no partition attached or pending and no peer
traffic, a pillar controller in no partition and with its pillar, a pillar with its controller; and the others never. -/
def MaySwitch (b : Block) (d : Nat) (want : Nat → Bool) : Prop :=
  (want d = true → 8 ≤ d → d < 16 → want (d - 8) = true) ∧
  (want d = false →
    (d < 8 → b.coreOwner d = none) ∧
    (8 ≤ d → d < 16 → ∀ l : Lane, b.issued? (qKey (d - 8) eMtx l.num) = none) ∧
    (16 ≤ d → d < 24 → want (d - 16) = false) ∧
    (24 ≤ d → d < 40 → b.fld (rQ (d - 24) 8) 2 0 ≠ 2 ∧
      ∀ r : RingId, b.ringOpen r = true → b.ringWriter r ≠ 16 + (d - 24)) ∧
    d ≠ 40 ∧
    (41 ≤ d → d < 44 → ∀ k : PartId, rangesMeet (b.ledAlloc k) ((d - 40) * 0x800000, 0x800000) = false) ∧
    (44 ≤ d → d < 46 → b.partsOn (d - 44) 1 = [] ∧ b.partsOn (d - 44) 3 = [] ∧
      ¬(b.fld (rHi 0x700) 0 0 = 1 ∧ b.fld (rHi 0x700) 1 1 = d - 44)) ∧
    ¬(46 ≤ d ∧ d < 51) ∧
    (51 ≤ d → d < 67 → b.pillarOwner (d - 51) = none ∧ want (d + 16) = false) ∧
    (67 ≤ d → want (d - 16) = false))

/-! ### Beats (R359-R368) -/

/-- The effective envelope of R367 as the registers show it: Dusk while the beat is lost, else the lower of what the
shelf, the host schedule or the internal beat allows and ENVCAP. -/
def Block.shownEnvelope (b : Block) : Nat :=
  if b.beatLost then 0
  else min (if b.fld (rEv 0x70) 0 0 = 1 ∨ b.beat.src = true then 2
    else if b.fld (rEv 0) 7 7 = 1 then b.fld (rEv 0) 4 3 else 0) (b.fld (rEv 4) 1 0)

/-- The allotments of R367 as the registers show them. -/
def Block.shownAllotment (b : Block) : List Nat :=
  if b.beatLost then List.replicate 16 16
  else if b.fld (rEv 0x70) 0 0 = 1 then b.beat.host
  else if b.beat.src then List.replicate 16 16
  else if b.fld (rEv 0) 7 7 = 1 then b.allotAt (rEv 0x20) else List.replicate 16 0

/-- A beat begins over block `b0`, in service, with the given basis; `kept` says that the last tick of the beat before
has planned its segment 0 (R359-R361, R364, R367, R368). -/
structure BeatBegins (b0 b' : Block) (basis : Nat) (kept : Bool) : Prop where
  start : b'.beat.start = b0.cycle
  basis : b'.beat.basis = basis
  tick : b'.beat.tick = 1
  taken : b'.beat.bcast = none
  epoch : b'.epoch = (match b0.beat.bcast with
    | some x => x
    | none => if b0.bidx = 1023 then b0.epoch + 1 else b0.epoch) % 2 ^ 48
  bidx : b'.bidx = if b0.beat.bcast.isSome then 0 else (b0.bidx + 1) % 1024
  aligned : b'.fld (rEv 0) 6 6 = if b0.beat.bcast.isSome then 1 else b0.fld (rEv 0) 6 6
  peak : b'.fld (rEv 0x90) 29 15 = b0.beat.peak % 2 ^ 15
  period : b'.fld (rEv 0xC) 31 16 = min 65535 ((b0.cycle - b0.beat.start) / 15)
  host : b'.beat.commit = false
  shown : b'.fld (rEv 0) 2 0 = 3 - b'.beat.env
  planned : kept = true → b'.beat.cur = b0.beat.next ∧ b'.beat.env = b0.beat.env ∧ b'.beat.allot = b0.beat.allot
  judged : kept = false → b'.beat.env = b'.shownEnvelope ∧ b'.beat.allot = b'.shownAllotment ∧
    b'.beat.cur.l ≤ litBudget b'.beat.env ∧ b'.beat.cur.l ≤ 1024 * (b'.beat.allot[0]?).getD 0

/-! ### Twilight (R370, R392, R393) -/

/-- Twilight has begun over block `b0`: its cause and the reset that follows are noted, the status registers say so, no
bank is lit, no item is in assembly, and what waits stays where it was. -/
structure Falls (b0 b' : Block) (cause : Nat) (reset : Option Nat) : Prop where
  life : b'.life = .twilight
  noted : b'.twilight = some { cause := cause, since := b0.cycle, reset := reset, sealless := b0.life == .dawn }
  state : b'.fld (rEv 0) 2 0 = 4
  journal : b'.fld (rJr 0) 2 0 = 1
  dark : ∀ x, (b'.blu x).lit = false
  assembly : ∀ r : RingId, (b'.ring r).asm = none
  limit : b'.fld (rEv 0x80) 14 0 = 0
  cycle : b'.cycle = b0.cycle
  queues : b'.queues = b0.queues
  items : b'.items = b0.items
  scratch : b'.scratch = b0.scratch
  dram : b'.dram = b0.dram

/-! ### Sequencer instructions (R450-R460) -/

/-- The plan of sequencer q stands, running and in no trap, on the word w, a well-formed instruction of opcode `op`
(R448, R453, R454, R456). -/
structure SeqRuns (b : Block) (q op w : Nat) : Prop where
  active : b.seqActive q = true
  noWait : (b.seq q).wait = none
  noTrap : b.inTrap q = false
  word : b.seqWord q = some w
  opcode : wOp w = op
  formed : wordReserved w = false

/-- The registers of sequencer q's block that an instruction may write beside memory: the globals, the window registers,
PLSTAT, PC and INSTR. -/
def seqOwn (q a : Nat) : Prop :=
  a ∈ [rQ q 8, rQ q 0xC, rQ q 0x10, rQ q 0x14, rQ q 0x1C, rQ q 0x70] ∨ ∃ g : Fin 8, a = rQ q (0x20 + 4 * g.val)

/-- An instruction has completed: PC is `pc`, INSTR has counted it, the plan still runs, and no register outside the
sequencer's own has changed (R466). -/
structure SeqCompletes (b b' : Block) (q pc : Nat) : Prop where
  pc : b'.seqPc q = pc
  instr : b'.fld (rQ q 0x70) 47 0 = (b.fld (rQ q 0x70) 47 0 + 1) % 2 ^ 48
  running : b'.planState q = 2
  registers : RegsIn (seqOwn q) b b'

/-- The register that specifier n names is the only one of globals and current window that may have changed, and reads
as v. -/
def SeqSets (b b' : Block) (q n : Nat) (v : Word) : Prop :=
  b'.seqReg q n = v ∧ ∀ m, (m < 8 ∨ (16 ≤ m ∧ m < 32)) → m ≠ n → b'.seqReg q m = b.seqReg q m

/-- Nothing but registers and what the sequencer itself holds has changed. -/
def SeqOnly (b b' : Block) : Prop := ∃ regs seqs, b' = { b with regs := regs, seqs := seqs }

/-- A plan fault: FAULTED with code and detail, PC on the instruction, no store in flight and no WAITEV, and plan memory
and stack as before (R463, R467). -/
structure PlanFaults (b b' : Block) (q code detail : Nat) : Prop where
  state : b'.planState q = 4
  code : b'.fld (rQ q 8) 15 8 = code
  detail : b'.rn (rQ q 0x18) = detail % 2 ^ 32
  pc : b'.seqPc q = b.seqPc q
  stores : (b'.seq q).stores = []
  wait : (b'.seq q).wait = none
  planMem : b'.planMem = b.planMem
  stackMem : b'.stackMem = b.stackMem

/-- Form R: command i of sequencer q has opcode `op` and makes `f` of RA and RB (R455). -/
def SeqRegisterRow (q : SeqId) (i : Instr) (op : Nat) (f : Word → Word → Word) : Prop := (i, op, f) ∈
  ([(.seqAdd q, 0x00, fun a b => a + b), (.seqSub q, 0x01, fun a b => a - b), (.seqAnd q, 0x02, fun a b => a &&& b),
    (.seqOr q, 0x03, fun a b => a ||| b), (.seqXor q, 0x04, fun a b => a ^^^ b),
    (.seqShl q, 0x05, fun a b => a <<< (b.toNat % 32)), (.seqShr q, 0x06, fun a b => a >>> (b.toNat % 32)),
    (.seqSra q, 0x07, fun a b => a.sshiftRight (b.toNat % 32)), (.seqMul q, 0x08, fun a b => a * b),
    (.seqSlt q, 0x09, fun a b => if a.toInt < b.toInt then 1#32 else 0#32),
    (.seqSltu q, 0x0A, fun a b => if a.toNat < b.toNat then 1#32 else 0#32)] :
    List (Instr × Nat × (Word → Word → Word)))

/-- Form I: command i of sequencer q has opcode `op` and makes `f` of RA and IMM (R455). -/
def SeqImmediateRow (q : SeqId) (i : Instr) (op : Nat) (f : Word → Word → Word) : Prop := (i, op, f) ∈
  ([(.seqAddi q, 0x10, fun a b => a + b), (.seqSubi q, 0x11, fun a b => a - b), (.seqAndi q, 0x12, fun a b => a &&& b),
    (.seqOri q, 0x13, fun a b => a ||| b), (.seqXori q, 0x14, fun a b => a ^^^ b),
    (.seqShli q, 0x15, fun a b => a <<< (b.toNat % 32)), (.seqShri q, 0x16, fun a b => a >>> (b.toNat % 32)),
    (.seqSrai q, 0x17, fun a b => a.sshiftRight (b.toNat % 32)), (.seqMuli q, 0x18, fun a b => a * b),
    (.seqSlti q, 0x19, fun a b => if a.toInt < b.toInt then 1#32 else 0#32),
    (.seqSltui q, 0x1A, fun a b => if a.toNat < b.toNat then 1#32 else 0#32)] :
    List (Instr × Nat × (Word → Word → Word)))

/-- Form B: command i of sequencer q has opcode `op` and is taken when `f` says so (R455). -/
def SeqBranchRow (q : SeqId) (i : Instr) (op : Nat) (f : Word → Word → Bool) : Prop := (i, op, f) ∈
  ([(.seqBeq q, 0x30, fun a b => decide (a = b)), (.seqBne q, 0x31, fun a b => decide (a ≠ b)),
    (.seqBlt q, 0x32, fun a b => decide (a.toInt < b.toInt)), (.seqBge q, 0x33, fun a b => decide (b.toInt ≤ a.toInt)),
    (.seqBltu q, 0x34, fun a b => decide (a.toNat < b.toNat)), (.seqBgeu q, 0x35, fun a b => decide (b.toNat ≤ a.toNat))] :
    List (Instr × Nat × (Word → Word → Bool)))

/-- Command i runs the instruction at PC of sequencer q. -/
def SeqRow (q : SeqId) (i : Instr) : Prop :=
  (∃ op f, SeqRegisterRow q i op f) ∨ (∃ op f, SeqImmediateRow q i op f) ∨ (∃ op f, SeqBranchRow q i op f) ∨
    i ∈ [.seqLui q, .seqLdW q, .seqStW q, .seqLdBu q, .seqStB q, .seqJmp q, .seqCall q, .seqCallr q, .seqRet q, .seqTret q,
      .seqPut q, .seqSig q, .seqSfence q, .seqWaitev q, .seqTime q, .seqTimeh q, .seqHalt q]

end Sys2Proof.Machine
end

