-- ==== Sys2Proof/Certificates/Slice0/Obligations.lean ====
section
/-!
DEFINITION. The statements for the provers, by the spec's files. Safety.lean holds the names they are stated in.
-/
open Sys2Proof Sys2Proof.Machine

/-! ### The queue of commands and the whole machine -/

/-- The model's own queue (log entry 2): one step takes the command at the front of the queue and has its effect, with
the rest of the queue waiting. The model's choice for an empty queue (log entries 2 and 119): one hub cycle passes, the
result-window writes that have reached a port become visible, a word that waits at a pillar controller leaves once it
is ready, and where no word is ready no entry, item, die or line changes. -/
def Obligations.StepRunsFrontCommand : Prop :=
  (∀ (i : Instr) (q : List Instr) (b : Block), step ⟨i :: q, b⟩ = exec i ⟨q, b⟩) ∧
  (∀ b : Block, (∀ p : PillarId, (b.pillar p).waiting = [] ∨ (b.pillar p).arm ≠ none ∨ b.pillarOn p = false ∨
      b.nextWord p = none) →
    ∃ b', step ⟨[], b⟩ = .next ⟨[], b'⟩ ∧ b'.cycle = b.cycle + 1 ∧
      b'.winBuf = b.winBuf.filter (fun w => decide (b.stamp ≤ w.stamp)) ∧ b'.queues = b.queues ∧ b'.items = b.items ∧
      b'.lines = b.lines ∧ b'.dram = b.dram ∧ b'.blus = b.blus ∧ b'.scratch = b.scratch ∧ b'.evlog = b.evlog ∧
      b'.pillars = b.pillars) ∧
  (∀ (p : PillarId) (x : Waiting) (b : Block), (b.pillar p).waiting = [x] → (b.pillar p).arm = none →
    b.pillarOn p = true → b.wordReady p [] x = true → b.entryFree p x = true →
    (∀ p' : PillarId, p' ≠ p → (b.pillar p').waiting = []) →
    ∃ b', step ⟨[], b⟩ = .next ⟨[], b'⟩ ∧ (b'.pillar p).waiting = [])

/-- A queue of commands that agents of the spec can send never stops the block: every step answers a next state, takes
at most the front command off, and leaves such a queue. A command that no agent of the spec can send stops in every
state, with the fault of its own: a pillar word whose CMD is another command's (R288), data of another length than the
command's, and codes the spec does not report. -/
def Obligations.QueueNeverStops : Prop :=
  (∀ s : State, QueueOk s → ∃ t, step s = .next t ∧ QueueOk t ∧ t.pending = s.pending.tail) ∧
  (∀ i : Instr, WellFormed i = false → ∃ what, ∀ s, exec i s = .fault (.illFormed what))

/-- Every step from a block whose memories are canonical leaves them canonical, so equal memories stay equal data. -/
def Obligations.MemoriesStayCanonical : Prop :=
  ∀ s t : State, MemoryOk s.block → step s = .next t → MemoryOk t.block

/-- Reset values that the register tables give (R5, R13, R46, R176, R214, R281, R282, R304, R313, R344, R382, R418): no
core is in a partition, the queue depths, the seeds, the wait limits, the counters, the pillar controllers and the
beat are at their reset values, and nothing waits, is logged or stands in a ring; the memories are canonical. -/
def Obligations.ResetValues : Prop :=
  State.reset.pending = [] ∧
  (∀ c : CoreId, State.reset.block.fld (rC c 4) 1 0 = 3 ∧ State.reset.block.fld (rC c 8) 1 0 = 0 ∧
    State.reset.block.rn (rC c 0xA00) = 1 ∧ State.reset.block.rn (rC c 0xA08) = 0x6A3C19D5 ∧
    State.reset.block.rn (rC c 0xA0C) = 0x1F7B2E48 ∧ State.reset.block.rn (rC c 0xE04) = 0x5B1EA7C3 ∧
    State.reset.block.rn (rC c 0xE08) = 0x27D46E19 ∧ State.reset.block.rn (rC c 0x2300) = 100000 ∧
    State.reset.block.rn (rC c 0x2304) = 1000 ∧ (∀ r : Fin 32, State.reset.block.sreg c r = 0#64)) ∧
  (∀ n : BitVec 13, ctrDefined n.toNat = true →
    State.reset.block.ctrMode n.toNat = 0 ∧ State.reset.block.ctrValue n.toNat = 0 ∧ State.reset.block.ctrCap n.toNat = 65535) ∧
  (∀ p : PillarId, State.reset.block.fld (rP p 0) 2 0 = 0 ∧ ∀ d : DieId, State.reset.block.fld (rP p (0x10 + 4 * d)) 2 0 = 5) ∧
  State.reset.block.items = [] ∧ State.reset.block.queues = [] ∧ State.reset.block.lines = [] ∧
  State.reset.block.evlog = [] ∧ State.reset.block.rn (rEl 0) = 0 ∧ MemoryOk State.reset.block ∧ QueueOk State.reset

/-! ### Register writes -/

/-- R479: while Dawn lasts, every register write but the MC's is refused, in whatever command it comes: it changes
nothing but the log's record of the refusal and the half-word its requester held (R7, R517). A write outside Dawn, or
the MC's: beyond its requester's reach a port's is the violation VIO_BAR0 (R426, R350) and a sequencer's is refused;
within it, a write of a block whose domain is off is refused (R520). A command that names a write of one register does
what REGISTER_WRITE of that register and value does, in every state: the named rows add no rule of their own. -/
def Obligations.WritesThatNeverReachARegister : Prop :=
  (∀ (i : Instr) (b : Block) (r : Requester) (a v : Nat), writeOf b i = some (r, a, v) → b.life = .dawn → r ≠ .mc →
    b.reqPresent r = true →
    ∃ b', (∀ q, exec i ⟨q, b⟩ = .next ⟨q, b'⟩) ∧ b' = (b.dropHeld r).writeReject a v ∧ RefusalFrame b b') ∧
  (∀ (i : Instr) (b : Block) (r : Requester) (a v : Nat), writeOf b i = some (r, a, v) → a ≠ rSb 0x410 →
    b.reqPresent r = true → (b.life = .dawn → r = .mc) →
    (∀ p, r = .port p → b.reqMay r a true = false →
      ∀ q, exec i ⟨q, b⟩ = .next ⟨q, (b.dropHeld r).violation p.num 0x0A 1 a⟩) ∧
    (∀ n, r = .seq n → b.reqMay r a true = false →
      ∀ q, exec i ⟨q, b⟩ = .next ⟨q, (b.dropHeld r).writeReject a v⟩) ∧
    (b.reqMay r a true = true → (b.dropHeld r).blockOff a = true →
      ∀ q, exec i ⟨q, b⟩ = .next ⟨q, (b.dropHeld r).writeReject a v⟩)) ∧
  (∀ (i : Instr) (r : Requester) (a v : Nat), namedWrite i = some (r, a, v) → ∀ s,
    exec i s = exec (.registerWrite r (BitVec.ofNat 26 a) (if wideAt a then 8 else 4) (BitVec.ofNat 64 v)) s)

/-- R7, R517: a register with no rule of its own takes the written value in its RW bits and clears the W1C bits that are
written 1; the low half of a 64-bit register is held for its requester with no effect of its own, and the high half
that follows writes both halves as one. -/
def Obligations.RegisterWriteByAccessCode : Prop :=
  (∀ (b : Block) (r : Requester) (a : Nat) (info : RegInfo) (v : BitVec 32), plainRegister a → regInfo a = some info →
    Accepts b r a → ∀ q, exec (.registerWrite r (BitVec.ofNat 26 a) 4 (v.setWidth 64)) ⟨q, b⟩ =
      .next ⟨q, (b.dropHeld r).setReg a (writtenValue info ((b.dropHeld r).reg a) (v.setWidth 64))⟩) ∧
  (∀ (b : Block) (r : Requester) (a : Nat) (v : BitVec 32), wideAt a = true → Accepts b r a → a ≠ rSb 0x410 →
    ∃ b', (∀ q, exec (.registerWrite r (BitVec.ofNat 26 a) 4 (v.setWidth 64)) ⟨q, b⟩ = .next ⟨q, b'⟩) ∧
      b' = { b.dropHeld r with latches := b'.latches } ∧ (b'.latches.get noLatch (reqKey r)).heldAt = some a ∧
      (b'.latches.get noLatch (reqKey r)).held = v) ∧
  (∀ (b : Block) (r : Requester) (a : Nat) (v : BitVec 32), wideAt a = true →
    (b.latches.get noLatch (reqKey r)).heldAt = some a →
    ∃ t : Block, t = { b with latches := t.latches } ∧ (t.latches.get noLatch (reqKey r)).heldAt = none ∧
      ∀ q, exec (.registerWrite r (BitVec.ofNat 26 (a + 4)) 4 (v.setWidth 64)) ⟨q, b⟩ =
        .next ⟨q, t.busWrite r a ((b.latches.get noLatch (reqKey r)).held.toNat + v.toNat <<< 32)⟩)

/-! ### Core control and loop memory -/

/-- R174, R176: STOP makes a RUNNING core HELD and changes nothing else; RESUME makes a STOPPED or HELD core RUNNING and
clears FLT_VALID; in every other state either has no effect. R176, R178: a queue flush of a STOPPED or HELD core
discards the item in assembly on its ring, completes its ring's accepted items FAULTED, removes every entry of its
normal queues that has not issued and ends its loop call, touching no urgent lane, no other core's queue and no
memory; on a RUNNING or OFFLINE core it is refused. -/
def Obligations.CoreControl : Prop :=
  (∀ (r : Requester) (c : CoreId) (b : Block), Accepts b r (rC c 0) →
    let b0 := b.dropHeld r
    (∀ q, exec (.coreStop r c) ⟨q, b⟩ = .next ⟨q, if b0.fld (rC c 4) 1 0 = 0 then b0.setFld (rC c 4) 1 0 2 else b0⟩) ∧
    (∀ q, exec (.coreResume r c) ⟨q, b⟩ =
      .next ⟨q, if b0.fld (rC c 4) 1 0 = 1 ∨ b0.fld (rC c 4) 1 0 = 2 then (b0.setFld (rC c 4) 1 0 0).setFld (rC c 4) 2 2 0
        else b0⟩)) ∧
  (∀ (r : Requester) (c : CoreId) (b : Block), Accepts b r (rC c 0) →
    let b0 := b.dropHeld r
    let st := b0.fld (rC c 4) 1 0
    (¬(st = 1 ∨ st = 2) → ∀ q, exec (.qflush r c) ⟨q, b⟩ = .next ⟨q, b0.writeReject (rC c 0) 4⟩) ∧
    ((st = 1 ∨ st = 2) → ∃ b', (∀ q, exec (.qflush r c) ⟨q, b⟩ = .next ⟨q, b'⟩) ∧
      (∀ e, e < 7 → ∀ en ∈ b'.queue (qKey c e 0), en.stage ≠ .queued) ∧
      (∀ k, (∀ e, e < 7 → k ≠ qKey c e 0) → b'.queue k = b0.queue k) ∧
      (∀ it ∈ b'.items, it.ring.val = c.val → it.phase ≠ .accepted) ∧
      (∀ it ∈ b0.items, it.ring.val = c.val → it.phase = .accepted →
        ∃ it' ∈ b'.items, it'.id = it.id ∧ it'.phase = .complete ∧ it'.faulted = true ∧
          (it.faulted = false → it'.fcode = 5#8 ∧ it'.evidx = 0#32)) ∧
      (b'.ring c).asm = none ∧ b'.call? c = none ∧ b'.fld (rC c 4) 1 0 = st ∧
      b'.scratch = b0.scratch ∧ b'.ledger = b0.ledger ∧ b'.evlog = b0.evlog ∧ b'.dram = b0.dram))

/-- R168 steps 1 to 3: OPEN makes a half invalid, empty and open, or is refused with LOOPMEM_BUSY; LMDATA stores a word
at LMADDR of the open half, which advances by 4, or is refused with no half open; CLOSE closes the open half, which
becomes valid if every line that is not empty is a body line, and otherwise BAD_INDEX names the first that is not. -/
def Obligations.LoopMemoryLoading : Prop :=
  (∀ (r : Requester) (c : CoreId) (halfB force : Bool) (b : Block), Accepts b r (rC c 0x80) →
    let b0 := (b.dropHeld r).setRn (rC c 0x80) (b2n halfB + 2 * b2n force)
    let h := b2n halfB
    (((h = b0.lmActive c ∧ force = false) ∨ b0.lmOpen c (1 - h) = true ∨ b0.swapWaits c = true) →
      ∀ q, exec (.loopmemOpen r c halfB force) ⟨q, b⟩ = .next ⟨q, b0.orReg (rC c 0x84) 0x20⟩) ∧
    (¬((h = b0.lmActive c ∧ force = false) ∨ b0.lmOpen c (1 - h) = true ∨ b0.swapWaits c = true) →
      ∃ b', (∀ q, exec (.loopmemOpen r c halfB force) ⟨q, b⟩ = .next ⟨q, b'⟩) ∧
        b'.lmValid c h = false ∧ b'.lmOpen c h = true ∧ (∀ n, n < 512 → b'.lmLine c h n = 0#512) ∧
        (∀ n, n < 512 → b'.lmLine c (1 - h) n = b0.lmLine c (1 - h) n) ∧
        b' = { b0 with regs := b'.regs, loopMem := b'.loopMem } ∧ RegsIn (fun a => a = rC c 0x84) b0 b')) ∧
  (∀ (r : Requester) (c : CoreId) (v : BitVec 32) (b : Block), Accepts b r (rC c 0x8C) →
    let b0 := b.dropHeld r
    (b0.lmOpen c 0 = false → b0.lmOpen c 1 = false →
      ∀ q, exec (.lmdataWrite r c v) ⟨q, b⟩ = .next ⟨q, b0.writeReject (rC c 0x8C) v.toNat⟩) ∧
    (∀ h, b0.openHalf? c = some h →
      let a := b0.fld (rC c 0x88) 14 2 * 4
      ∀ q, exec (.lmdataWrite r c v) ⟨q, b⟩ = .next ⟨q, ({ b0 with
        loopMem := writeBytes b0.loopMem (lmKey c h a) (leBytes v.toNat 4) }).setRn (rC c 0x88) ((a + 4) % 32768)⟩)) ∧
  (∀ (r : Requester) (c : CoreId) (b : Block), Accepts b r (rC c 0x80) →
    ∀ h, (b.dropHeld r).openHalf? c = some h →
      ∃ b', (∀ q, exec (.loopmemClose r c) ⟨q, b⟩ = .next ⟨q, b'⟩) ∧ b'.lmOpen c h = false ∧
        ((∀ n, n < 512 → bodyLineOk (b.lmLine c h n) = true) → b'.lmValid c h = true) ∧
        (∀ n, n < 512 → bodyLineOk (b.lmLine c h n) = false → (∀ m, m < n → bodyLineOk (b.lmLine c h m) = true) →
          b'.lmValid c h = (b.dropHeld r).lmValid c h ∧ b'.fld (rC c 0x84) 6 6 = 1 ∧ b'.fld (rC c 0x84) 15 7 = n) ∧
        b' = { b.dropHeld r with regs := b'.regs } ∧ RegsIn (fun a => a = rC c 0x80 ∨ a = rC c 0x84) (b.dropHeld r) b')

/-! ### Rings and items -/

/-- R328, R350: a full aligned 64-byte write by a ring's host to an empty position becomes the line of that position and
nothing else changes; otherwise it is discarded as the first violation that holds, in the order partial line, not the
writer, beyond credit. In Twilight every line is discarded and counted (R393). R323, R329, R350, R351: a result-window
write within reach waits to become visible (log entry 29) and changes no Ledger byte yet, one outside is VIO_UNOWNED;
in reach are the bytes in the allocation of a partition attached on the port, but for a sealed one (R427); any other
violating access counts once, in the count of its code, and is the one VIOLAST names, and a violating read returns 0 in
every byte; a granted read of the result window returns the bytes as every earlier write through the window left them,
where its pipeline has shown the rest (R329, R339); and an aligned 64-bit BAR0 access at two 32-bit registers is judged
as two accesses, in order (R516). -/
def Obligations.HostWrites : Prop :=
  (∀ (p : Port) (r : RingId) (o : Nat) (data : List Byte) (b : Block), o < 0x80000 → b.hasHdm p.num = true →
    let i := Instr.ringLineWrite p (BitVec.ofNat 30 (0x100000 * r + o)) data
    (b.life = .twilight → ∀ q, exec i ⟨q, b⟩ = .next ⟨q, b.bump32 (rJr 0x40) 1⟩) ∧
    ((b.life = .service ∨ b.life = .dawn) →
    (data.length = 64 → o % 64 = 0 → b.mayWriteRing p.num r = true → b.lineAt r (o / 64) = none →
      ∀ q, exec i ⟨q, b⟩ = .next ⟨q, { b with
        stamp := b.stamp + 1,
        lines := b.lines.set noLine (lineKey r (o / 64)) (some ⟨lineOf data, b.stamp⟩) }⟩) ∧
    ((data.length ≠ 64 ∨ o % 64 ≠ 0) →
      ∀ q, exec i ⟨q, b⟩ = .next ⟨q, b.violation p.num 0x02 0 (0x100000 * r + o)⟩) ∧
    (data.length = 64 → o % 64 = 0 → b.mayWriteRing p.num r = false →
      ∀ q, exec i ⟨q, b⟩ = .next ⟨q, b.violation p.num 0x03 0 (0x100000 * r + o)⟩) ∧
    (data.length = 64 → o % 64 = 0 → b.mayWriteRing p.num r = true → b.lineAt r (o / 64) ≠ none →
      ∀ q, exec i ⟨q, b⟩ = .next ⟨q, (b.orReg (rRg r 8) 1).violation p.num 0x01 0 (0x100000 * r + o)⟩))) ∧
  ((∀ (p : Port) (off : BitVec 25) (data : List Byte) (b : Block), b.hasHdm p.num = true →
    b.life ≠ .night → b.life ≠ .dark → data ≠ [] →
    (b.winReach p.num off.toNat data.length = true →
      ∀ q, exec (.resultWindowWrite p off data) ⟨q, b⟩ = .next ⟨q, { b with
        stamp := b.stamp + 1, winBuf := b.winBuf ++ [⟨b.stamp, off.toNat, data⟩] }⟩) ∧
    (b.winReach p.num off.toNat data.length = false →
      ∀ q, exec (.resultWindowWrite p off data) ⟨q, b⟩ = .next ⟨q, b.violation p.num 0x07 0 (0x10000000 + off.toNat)⟩)) ∧
  (∀ (p : Port) (a n : Nat) (b : Block), b.life ≠ .dawn →
    (b.winReach p.num a n = true ↔ ∀ i, i < n → ∃ k, k < 8 ∧ b.reachedOn k p.num = true ∧ b.inLedAlloc k (a + i) 1 = true ∧
      ¬((b.sealedRange k).1 ≤ a + i ∧ a + i < (b.sealedRange k).1 + (b.sealedRange k).2))) ∧
  (∀ (p : Port) (x : HostAccess) (c : Nat) (b : Block), b.dlUp p.num = true → b.life ≠ .night → b.life ≠ .dark →
    (x.aperture = .hdm → b.hasHdm p.num = true) → b.vioOf p.num x = some c →
    hostParts x = [x] → ∃ b', (∀ q, exec (.hostViolation p x) ⟨q, b⟩ = .next ⟨q, b'⟩) ∧
      b'.rn (rHi (0x100 + 4 * c)) = min (b.rn (rHi (0x100 + 4 * c)) + 1) 0xFFFFFFFF ∧
      b'.rn (rHi 0x140) = c + p.num <<< 8 + apCode x.aperture <<< 9 + x.off.toNat <<< 16 ∧
      b'.hostOut = (if x.write then b.hostOut else b.hostOut ++ [HostMsg.data p (List.replicate x.size 0#8) false]) ∧
      b'.items = b.items ∧ b'.lines = b.lines ∧ b'.ledger = b.ledger ∧ b'.queues = b.queues) ∧
  (∀ (p : Port) (x : HostAccess) (a : Nat) (b : Block), b.dlUp p.num = true → b.life ≠ .night → b.life ≠ .dark →
    b.hasHdm p.num = true → x.aperture = .hdm → x.write = false → x.off.toNat = 0x10000000 + a → a < 0x2000000 →
    b.winReach p.num a x.size = true → b.sramBad = [] →
    (∀ j, a ≤ j → j < a + x.size → b.pathM.get byteZero j = b.ledger.get byteZero j) →
    let t := (b.winBuf.filter (fun w => decide (w.stamp < b.stamp))).foldl (fun t w => writeBytes t w.off w.data) b.ledger
    ∃ b', (∀ q, exec (.hostViolation p x) ⟨q, b⟩ = .next ⟨q, b'⟩) ∧ b'.ledger = t ∧
      b'.hostOut = b.hostOut ++ [HostMsg.data p (readBytes t a x.size) false] ∧ b'.regs = b.regs) ∧
  (∀ (p : Port) (x : HostAccess) (t : State), x.aperture = .bar0 → x.size = 8 → x.off.toNat % 8 = 0 →
    wideAt x.off.toNat = false → ∃ t', exec (.hostViolation p { x with size := 4 }) t = .next t' ∧
      exec (.hostViolation p x) t = exec (.hostViolation p { x with size := 4, off := x.off + 4 }) t'))

/-- R150, R151: line WPOS of a ring that stands, whose LCHK is right, that is neither stale nor malformed, fits what is
in assembly and is not held, is taken: WPOS advances by one, and with an item's last line the item is accepted with SEQ
of its lines, NEXTSEQ becomes SEQ + 1 and the journal's cursor advances; before that the line joins the assembly. R150
step 1, R154: a line whose LCHK is wrong is discarded and counted with no item in assembly: its position empties, its
credit returns and WPOS passes it. R150 step 4, R154, R177: a ring flush discards the item in assembly: the positions
of its lines empty, their credits return, NEXTSEQ becomes its SEQ + 1, that SEQ is the stale number and DISCARDED
counts it; accepted items stay. With nothing in assembly it has no effect. -/
def Obligations.LinesAreTakenOrDiscarded : Prop :=
  (∀ (r : RingId) (h : HeldLine) (b : Block), b.life = .service → b.ringOpen r = true →
    (b.ringWriter r < 16 ∨ b.fld (rQ (b.ringWriter r - 16) 8) 2 0 = 2) → b.sramBad = [] →
    b.posTaken r (b.wpos r % 8192) = false → b.lineAt r (b.wpos r % 8192) = some h → lchkOk h.data = true →
    ¬((b.ring r).stale = some (BitVec.ofNat 32 (hdr h.data 31 0)) ∧ hdr h.data 33 32 ≠ 0) →
    malformed h.data (r == 8) = false → b.lineFits r h.data = true → b.lineHeld r h.data = false →
    ∃ b', (∀ q, exec (.lineTake r) ⟨q, b⟩ = .next ⟨q, b'⟩) ∧ b'.rn (rRing r 0xC) = (b.rn (rRing r 0xC) + 1) % 2 ^ 32 ∧
      (hdr h.data 33 32 = hdr h.data 35 34 → ∃ it, b'.items = b.items ++ [it] ∧ it.ring = r ∧
        it.seq.toNat = hdr (((match (b.ring r).asm with | some a => a.lines | none => []) ++ [h.data]).headD 0#512) 31 0 ∧
        it.phase = .accepted ∧ it.lines = (match (b.ring r).asm with | some a => a.lines | none => []) ++ [h.data] ∧
        b'.rn (rRg r 4) = (it.seq.toNat + 1) % 2 ^ 32 ∧ b'.rn (rJr 0x10) = (b.rn (rJr 0x10) + 1) % 2 ^ 64 ∧
        (b'.ring r).asm = none) ∧
      (hdr h.data 33 32 ≠ hdr h.data 35 34 → b'.items = b.items ∧ ∃ a, (b'.ring r).asm = some a ∧
        a.lines = (match (b.ring r).asm with | some a => a.lines | none => []) ++ [h.data] ∧
        b'.rn (rRg r 4) = b.rn (rRg r 4)) ∧
      b'.lines = b.lines ∧ b'.queues = b.queues ∧ b'.evlog = b.evlog) ∧
  (∀ (r : RingId) (h : HeldLine) (b : Block), b.life = .service → b.ringOpen r = true → b.ringWriter r < 16 →
    b.sramBad = [] → (b.ring r).asm = none →
    b.posTaken r (b.wpos r % 8192) = false → b.lineAt r (b.wpos r % 8192) = some h → lchkOk h.data = false →
    ∃ b', (∀ q, exec (.lineTake r) ⟨q, b⟩ = .next ⟨q, b'⟩) ∧ b'.lineAt r (b.wpos r % 8192) = none ∧
      (∀ p, p < 8192 → p ≠ b.wpos r % 8192 → b'.lineAt r p = b.lineAt r p) ∧
      b'.rn (rRing r 0xC) = (b.rn (rRing r 0xC) + 1) % 2 ^ 32 ∧
      b'.rn (rRg r 0) = (b.rn (rRg r 0) + 1) % 2 ^ 32 ∧
      b'.rn (rRg r 0x10) = min (b.rn (rRg r 0x10) + 1) 0xFFFFFFFF ∧ b'.rn (rRg r 4) = b.rn (rRg r 4) ∧
      b'.items = b.items ∧ b'.queues = b.queues) ∧
  (∀ (r : Requester) (n : RingId) (b : Block), Accepts b r (rRg n 0xC) →
    let b0 := b.dropHeld r
    ((b0.ring n).asm = none → ∀ q, exec (.ringFlush r n) ⟨q, b⟩ = .next ⟨q, b0⟩) ∧
    (∀ a, (b0.ring n).asm = some a → ∃ b', (∀ q, exec (.ringFlush r n) ⟨q, b⟩ = .next ⟨q, b'⟩) ∧
      (b'.ring n).asm = none ∧ (b'.ring n).stale = some a.seq ∧
      b'.rn (rRg n 4) = (a.seq.toNat + 1) % 2 ^ 32 ∧
      b'.rn (rRg n 0) = (b0.rn (rRg n 0) + a.lines.length) % 2 ^ 32 ∧
      b'.rn (rRg n 0x18) = min (b0.rn (rRg n 0x18) + 1) 0xFFFFFFFF ∧
      (∀ k, k < a.lines.length → b'.lineAt n ((a.first + k) % 8192) = none) ∧
      b'.items = b0.items ∧ b'.queues = b0.queues ∧ b'.evlog = b0.evlog))

/-- R160, R161, R154: a bundle that stands next for a core, the oldest urgent one or else the next of the RUNNING core's
own stream while every queue concerned has room, is dispatched when it passes the checks of R171: each present slot's
entry goes to the end of its engine's queue of that lane, all at once, the item counts them outstanding, and its lines
are freed. One that fails a check enters no queue and completes FAULTED with the first failed check's code (R172).
R149, R164, R167: the other kinds that stand next in a core's own stream: a marker completes at its dispatch, a FENCE
item is held by its ring until it completes, and a loop call whose range lies in a valid closed half becomes the
core's active call. R167: the next body line of an active loop call, if it is a good one and every queue concerned has
room, is placed as a bundle: its entries enter the normal queues, and the call moves to its next line, its next
iteration or its end. -/
def Obligations.ItemsAreDispatched : Prop :=
  (∀ (c : CoreId) (l : Nat) (i : Item) (b : Block), b.dispatching c = true → i.kind = .bundle → i.core = c →
    i.freed = false → i.faulted = false → i.phase = .accepted → b.item? i.id = some i → b.swapHeld c i = false →
    ((l = 1 ∧ b.urgentNext c = some i) ∨ (l = 0 ∧ b.urgentNext c = none ∧ b.fld (rC c 4) 1 0 = 0 ∧ b.call? c = none ∧
      b.hasPlace c = true ∧ nextItem c c b.items = some i)) →
    let m := hdr i.line0 41 36
    (itemCheck i.lines m 6 = none → (l = 0 → b.hasRoom c (slotQueues i.lines m) = true) →
      ∃ b', (∀ q, exec (.dispatch c) ⟨q, b⟩ = .next ⟨q, b'⟩) ∧
        (∀ j e, (j, e) ∈ slotQueues i.lines m →
          b'.queue (qKey c e l) = b.queue (qKey c e l) ++ [mkEntry i i.lines j false 0 0]) ∧
        (∀ k, (∀ j e, (j, e) ∈ slotQueues i.lines m → k ≠ qKey c e l) → b'.queue k = b.queue k) ∧
        b'.item? i.id = some { i with phase := .dispatched, freed := true, outstanding := i.outstanding + (slotQueues i.lines m).length } ∧
        b'.rn (rRg i.ring 0) = (b.rn (rRg i.ring 0) + i.lines.length) % 2 ^ 32 ∧ b'.evlog = b.evlog) ∧
    (itemCheck i.lines m 6 = none → l = 0 → b.hasRoom c (slotQueues i.lines m) = false →
      ∀ q, exec (.dispatch c) ⟨q, b⟩ = .next ⟨q, b⟩) ∧
    (∀ j e f, itemCheck i.lines m 6 = some (j, e, f) → i.outstanding = 0 → i.placing = false →
      ∃ b' it, (∀ q, exec (.dispatch c) ⟨q, b⟩ = .next ⟨q, b'⟩) ∧ b'.queues = b.queues ∧ b'.item? i.id = some it ∧
        it.phase = .complete ∧ it.faulted = true ∧ it.fcode = BitVec.ofNat 8 f.1 ∧
        b'.rn (rC c 0xC) = min (b.rn (rC c 0xC) + 1) 0xFFFFFFFF)) ∧
  (∀ (c : CoreId) (i : Item) (b : Block), b.dispatching c = true → i.core = c → i.swaps = false → i.outstanding = 0 →
    i.placing = false → b.item? i.id = some i → b.urgentNext c = none → b.fld (rC c 4) 1 0 = 0 → b.call? c = none →
    b.hasPlace c = true → nextItem c c b.items = some i →
    (i.kind = .marker → itemLevelBit i.line0 0 = none → ∃ b' it, (∀ q, exec (.dispatch c) ⟨q, b⟩ = .next ⟨q, b'⟩) ∧
      b'.item? i.id = some it ∧ it.phase = .complete ∧ it.faulted = i.faulted ∧ b'.queues = b.queues) ∧
    (i.kind = .fence → itemLevelBit i.line0 0 = none → ∃ b' it, (∀ q, exec (.dispatch c) ⟨q, b⟩ = .next ⟨q, b'⟩) ∧
      b'.item? i.id = some it ∧ it.phase = .dispatched ∧ (b'.ring i.ring).fence = some i.id ∧ b'.queues = b.queues) ∧
    (i.kind = .loopCall → b.callCheck c i = none → ∃ b' it, (∀ q, exec (.dispatch c) ⟨q, b⟩ = .next ⟨q, b'⟩) ∧
      b'.item? i.id = some it ∧ it.phase = .dispatched ∧ it.placing = true ∧ b'.call? c = some (loopCallOf i) ∧
      b'.queues = b.queues ∧ b'.rn (rRg i.ring 0) = b.rn (rRg i.ring 0))) ∧
  (∀ (c : CoreId) (x : LoopCall) (i : Item) (b : Block), b.dispatching c = true → b.fld (rC c 4) 1 0 = 0 →
    b.urgentNext c = none → b.call? c = some x → b.item? x.item = some i → b.sramBad = [] →
    b.fetchFault c (x.start + x.idx) = none →
    let l := b.lmLine c (b.lmActive c) (x.start + x.idx)
    let qs := slotQueues [l] (hdr l 41 36)
    itemCheck [l] (hdr l 41 36) 6 = none → b.hasRoom c qs = true →
    ∃ b', (∀ q, exec (.loopLineFetch c) ⟨q, b⟩ = .next ⟨q, b'⟩) ∧
      (∀ j e, (j, e) ∈ qs → b'.queue (qKey c e 0) =
        b.queue (qKey c e 0) ++ [mkEntry i [l] j true x.iter x.idx]) ∧
      (∀ k, (∀ j e, (j, e) ∈ qs → k ≠ qKey c e 0) → b'.queue k = b.queue k) ∧
      b'.call? c = (if x.idx + 1 < x.len then some { x with idx := x.idx + 1, fetched := false }
        else if x.iter + 1 < x.reps then some { x with idx := 0, iter := x.iter + 1, fetched := false } else none) ∧
      b'.loopMem = b.loopMem ∧ b'.evlog = b.evlog)

/-- R164, R330: a held FENCE item completes once every item it orders has, with every result-window write that came
before its line visible, and is then no longer held; before that nothing happens. R170, R332, R333: the oldest item of
a ring, once complete and while a completion place is free, has its record posted at place CHEAD mod CSIZE with its
SEQ, STATUS, ring and index, and on Path D also in host memory; CHEAD advances and the item is gone. While the oldest
item has not completed nothing is posted. R342: when CREDIT has changed since the last record of a ring with CREC = 1,
the record of FREED, NEXTSEQ and the timestamp leaves for CRADDR on the attached port, and nothing but the ring's note
of it changes. -/
def Obligations.ItemsEndWithTheirRecord : Prop :=
  (∀ (r : RingId) (f : Item) (b : Block), (b.ring r).fence = some f.id → b.item? f.id = some f → b.serving = true →
    (b.fenceDone f = false → ∀ q, exec (.fenceItemComplete r) ⟨q, b⟩ = .next ⟨q, b⟩) ∧
    (b.fenceDone f = true → ∃ b', (∀ q, exec (.fenceItemComplete r) ⟨q, b⟩ = .next ⟨q, b'⟩) ∧
      b'.item? f.id = some { f with phase := .complete } ∧ (b'.ring r).fence = none ∧
      (∀ w ∈ b'.winBuf, f.stamp ≤ w.stamp) ∧
      b'.ledger = (b.winBuf.filter (fun w => decide (w.stamp < f.stamp))).foldl
        (fun t w => writeBytes t w.off w.data) b.ledger ∧
      b'.queues = b.queues ∧ b'.regs = b.regs)) ∧
  (∀ (r : RingId) (i : Item) (rest : List Item) (b : Block), b.life = .service → b.ringOpen r = true →
    b.ringItems r = i :: rest →
    let n := b.rn (rRing r 0x14)
    (i.phase ≠ .complete → ∀ q, exec (.completionPost r) ⟨q, b⟩ = .next ⟨q, b⟩) ∧
    (i.phase = .complete → sub32 n (b.rn (rRing r 0x18)) < b.csize r →
      (b.ringPath r = 2 → b.attUp (b.ringPart r) = true) →
      ∃ b', (∀ q, exec (.completionPost r) ⟨q, b⟩ = .next ⟨q, b'⟩) ∧
        ofBytes (b'.ledRead (b.placeAt r n) 4) = i.seq.toNat ∧
        bits (ofBytes (b'.ledRead (b.placeAt r n + 4) 2)) 1 0 = i.status ∧
        bits (ofBytes (b'.ledRead (b.placeAt r n + 4) 2)) 7 4 = r.val ∧
        ofBytes (b'.ledRead (b.placeAt r n + 24) 4) = n % 2 ^ 32 ∧
        (b.ringPath r = 2 → b'.hostOut.getLast? = some (HostMsg.write (portOf (b.attPort (b.ringPart r)))
          (b.rn (rRing r 0x30) + 32 * (n % b.csize r)) (b.recordOf r i n))) ∧
        b'.rn (rRing r 0x14) = (n + 1) % 2 ^ 32 ∧ (∀ j ∈ b'.items, j.id ≠ i.id) ∧ b'.queues = b.queues)) ∧
  (∀ (r : RingId) (b : Block), b.life = .service → b.ringOpen r = true → b.fld (rRing r 0) 11 11 = 1 →
    b.attUp (b.ringPart r) = true → b.rn (rRg r 0) ≠ (b.ring r).credited →
    ∀ q, exec (.creditRecordWrite r) ⟨q, b⟩ = .next ⟨q, { b.onRing r (fun x => { x with credited := b.rn (rRg r 0) }) with
      hostOut := b.hostOut ++ [HostMsg.write (portOf (b.attPort (b.ringPart r))) (b.rn (rRing r 0x38))
        (leBytes (b.rn (rRg r 0)) 4 ++ leBytes (b.rn (rRg r 4)) 4 ++ leBytes b.now 8)] }⟩)

/-- R325 to R327: OPEN of a ring that a reason of R325 refuses sets only OPENSTAT to that reason; one that none refuses
opens the ring with every count and cursor 0, NEXTSEQ at STARTSEQ, no line held and its completion ring reading 0;
CLOSE is accepted only while no line is held, no record is unposted and every place has been returned. R334, R338:
CTAIL moves on by at most the places whose records stand unreturned, and RREL by at most the slots in use whose items'
records are posted; a write beyond either is refused, and either write changes nothing but its cursor. -/
def Obligations.RingOpenAndClose : Prop :=
  ((∀ (r : Requester) (n : RingId) (b : Block), Accepts b r (rRing n 4) →
    let b0 := b.dropHeld r
    (b0.openReason n ≠ 0 → Gives (.ringOpen r n) b (b0.setRn (rRing n 0x54) (b0.openReason n))) ∧
    (RingOpens b0 n → ∃ b', Gives (.ringOpen r n) b b' ∧ b0.ringOpen n = false ∧ b'.ringOpen n = true ∧
      b'.rn (rRing n 0x54) = 0 ∧ b'.rn (rRg n 4) = b0.rn (rRing n 8) ∧
      (∀ a ∈ [rRg n 0, rRing n 0xC, rRing n 0x14, rRing n 0x18, rRing n 0x2C, rRing n 0x28], b'.rn a = 0) ∧
      (∀ k, k < 8192 → b'.lineAt n k = none) ∧ b'.ring n = {} ∧
      (∀ a, (b0.cring n).1 ≤ a → a < (b0.cring n).1 + (b0.cring n).2 → b'.ledger.get byteZero a = 0#8) ∧
      (∀ m : RingId, m ≠ n → b'.ring m = b0.ring m ∧ ∀ k, k < 8192 → b'.lineAt m k = b0.lineAt m k) ∧
      b'.items = b0.items ∧ b'.queues = b0.queues)) ∧
  (∀ (r : Requester) (n : RingId) (b : Block), Accepts b r (rRing n 4) →
    let b0 := b.dropHeld r
    let may := b0.ringOpen n = true ∧ (∀ k, k < 8192 → b0.lineAt n k = none) ∧ b0.ringItems n = [] ∧
      (b0.ring n).asm = none ∧ b0.rn (rRing n 0x14) = b0.rn (rRing n 0x18)
    (¬may → Gives (.ringClose r n) b (b0.writeReject (rRing n 4) 2)) ∧
    (may → ∃ b', Gives (.ringClose r n) b b' ∧ b'.ringOpen n = false ∧
      (∀ a, (b0.cring n).1 ≤ a → a < (b0.cring n).1 + (b0.cring n).2 → b'.ledger.get byteZero a = 0#8) ∧
      (∀ (p : Port) (o : Nat) (data : List Byte), o < 0x80000 → b'.hasHdm p.num = true → b'.life = .service →
        Gives (.ringLineWrite p (BitVec.ofNat 30 (0x100000 * n + o)) data) b'
          (b'.violation p.num (if data.length ≠ 64 ∨ o % 64 ≠ 0 then 2 else 3) 0 (0x100000 * n + o))) ∧
      RegsIn (fun a => a = rRing n 0) b0 b' ∧ b'.lines = b0.lines ∧ b'.items = b0.items))) ∧
  ((∀ (r : Requester) (n : RingId) (v : BitVec 32) (b : Block), Accepts b r (rRing n 0x18) →
    let b0 := b.dropHeld r
    let t := b0.rn (rRing n 0x18)
    Gives (.ctailWrite r n v) b (if sub32 v.toNat t ≤ sub32 (b0.rn (rRing n 0x14)) t then
      b0.setRn (rRing n 0x18) v.toNat else b0.writeReject (rRing n 0x18) v.toNat)) ∧
  (∀ (r : Requester) (n : RingId) (v : BitVec 32) (b : Block), Accepts b r (rRing n 0x28) →
    let b0 := b.dropHeld r
    let t := b0.rn (rRing n 0x28)
    let bad := sub32 (b0.rn (rRing n 0x2C)) t < sub32 v.toNat t ∨
      ∃ it ∈ b0.items, it.ring = n ∧ ∃ k : Word, it.slotK = some k ∧ sub32 k.toNat t < sub32 v.toNat t
    (bad → Gives (.rrelWrite r n v) b (b0.writeReject (rRing n 0x28) v.toNat)) ∧
    (¬bad → Gives (.rrelWrite r n v) b (b0.setRn (rRing n 0x28) v.toNat))))

/-! ### The scalar engine -/

/-- R180, R182: a scalar entry of form R or I that is due writes its opcode's function of s[RA] and of s[RB] or IMM into
s[RD]. s0 reads as 0 and a write of it is discarded. Every other scalar register of every core, every memory and every
register but those its wait, its signal or a fault of that signal writes, stays (R264-R269). -/
def Obligations.ScalarArithmetic : Prop :=
  (∀ row ∈ scalarRegisterRows, ∀ (c : CoreId) (lane : Lane) (b : Block) (i : Nat) (en : Entry),
    AtIssue b c 0 lane.num row.2.1 1 noUses i en →
    ∃ b', (∀ q, exec (row.1 c lane) ⟨q, b⟩ = .next ⟨q, b'⟩) ∧
      b'.sreg c en.rd = (if en.rd = 0 then 0#64 else row.2.2 (b.sreg c en.ra) (b.sreg c en.rb)) ∧
      (∀ (c' : CoreId) (n : Fin 32), ¬(c' = c ∧ n.val = en.rd) → b'.sreg c' n = b.sreg c' n) ∧ EntryFrame b b' ∧
      (∀ a, a ≠ rC c (0xD00 + 8 * en.rd) → ¬entryReg c en a → b'.reg a = b.reg a)) ∧
  (∀ row ∈ scalarImmediateRows, ∀ (c : CoreId) (lane : Lane) (b : Block) (i : Nat) (en : Entry),
    AtIssue b c 0 lane.num row.2.1 1 noUses i en →
    ∃ b', (∀ q, exec (row.1 c lane) ⟨q, b⟩ = .next ⟨q, b'⟩) ∧
      b'.sreg c en.rd = (if en.rd = 0 then 0#64 else row.2.2 (b.sreg c en.ra) en.w1) ∧
      (∀ (c' : CoreId) (n : Fin 32), ¬(c' = c ∧ n.val = en.rd) → b'.sreg c' n = b.sreg c' n) ∧ EntryFrame b b' ∧
      (∀ a, a ≠ rC c (0xD00 + 8 * en.rd) → ¬entryReg c en a → b'.reg a = b.reg a))

/-- R182, R183: S_LD loads 1, 2, 4 or 8 scratchpad bytes at A, lowest first, zero-extended or with SX sign-extended into
s[RD]; an access that is misaligned or beyond the scratchpad faults with FLT_SCA_ADDR, whose DETAIL is A, and moves
nothing. R182, R183: S_ST stores the low bytes of s[RS] at A, lowest first, and changes no other scratchpad byte of
any core, no scalar register and no other memory; a bad A faults as for S_LD and stores nothing. R58, R182, R183:
S_DESC replaces descriptor entry HANDLE by the 32 bytes at A if they make a valid descriptor, and otherwise faults
with FLT_DESC_BAD and leaves the entry as it was; S_DCLR makes an entry invalid, and leaves entry 0. -/
def Obligations.ScalarMemoryAndDescriptors : Prop :=
  (∀ (c : CoreId) (lane : Lane) (b : Block) (i : Nat) (en : Entry), AtIssue b c 0 lane.num 0x20 1 noUses i en →
    b.sramBad = [] →
    let a := ((b.sreg c en.ra).toNat + en.f1 25 0) % 2 ^ 26
    let n := 2 ^ en.f0 47 46
    (a % n = 0 → a + n ≤ 0x2800000 → ∃ b', (∀ q, exec (.sLd c lane) ⟨q, b⟩ = .next ⟨q, b'⟩) ∧
      b'.sreg c en.rd = (if en.rd = 0 then 0#64 else
        if en.f0 48 48 = 1 then BitVec.ofInt 64 (sext (8 * n) (ofBytes (b.spRead c a n)))
        else BitVec.ofNat 64 (ofBytes (b.spRead c a n))) ∧
      (∀ (c' : CoreId) (x : Fin 32), ¬(c' = c ∧ x.val = en.rd) → b'.sreg c' x = b.sreg c' x) ∧ EntryFrame b b') ∧
    (¬(a % n = 0 ∧ a + n ≤ 0x2800000) → ∀ q, exec (.sLd c lane) ⟨q, b⟩ =
      .next ⟨q, (b.issuing (qKey c 0 lane.num) i en).faultEntry c 0 lane.num i en.issuing 0x50 a⟩)) ∧
  (∀ (c : CoreId) (lane : Lane) (b : Block) (i : Nat) (en : Entry), AtIssue b c 0 lane.num 0x21 1 noUses i en →
    let a := ((b.sreg c en.ra).toNat + en.f1 25 0) % 2 ^ 26
    let n := 2 ^ en.f0 47 46
    (a % n = 0 → a + n ≤ 0x2800000 → ∃ b', (∀ q, exec (.sSt c lane) ⟨q, b⟩ = .next ⟨q, b'⟩) ∧
      ofBytes (b'.spRead c a n) = (b.sreg c en.rd).toNat % 2 ^ (8 * n) ∧
      (∀ k, ¬(spKey c a ≤ k ∧ k < spKey c a + n) → b'.scratch.get byteZero k = b.scratch.get byteZero k) ∧
      (∀ (c' : CoreId) (x : Fin 32), b'.sreg c' x = b.sreg c' x) ∧
      EntryEnds c en { b with scratch := b'.scratch } b') ∧
    (¬(a % n = 0 ∧ a + n ≤ 0x2800000) → ∀ q, exec (.sSt c lane) ⟨q, b⟩ =
      .next ⟨q, (b.issuing (qKey c 0 lane.num) i en).faultEntry c 0 lane.num i en.issuing 0x50 a⟩)) ∧
  ((∀ (c : CoreId) (lane : Lane) (b : Block) (i : Nat) (en : Entry), AtIssue b c 0 lane.num 0x30 1 noUses i en →
    b.sramBad = [] →
    let a := ((b.sreg c (en.f0 49 45)).toNat + en.f1 25 0) % 2 ^ 26
    let d := ofBytes (b.spRead c a 32)
    let h := en.f0 44 36
    (a % 32 = 0 → a ≤ 0x27FFFE0 → b.descReason c h d = 0 →
      ∃ b', (∀ q, exec (.sDesc c lane) ⟨q, b⟩ = .next ⟨q, b'⟩) ∧ b'.desc? c h = some (BitVec.ofNat 256 d) ∧
        (∀ (c' : CoreId) g, g < 512 → ¬(c' = c ∧ g = h) → b'.desc? c' g = b.desc? c' g) ∧
        EntryEnds c en { b with descs := b'.descs } b') ∧
    (a % 32 = 0 → a ≤ 0x27FFFE0 → b.descReason c h d ≠ 0 → ∀ q, exec (.sDesc c lane) ⟨q, b⟩ = .next ⟨q,
      (b.issuing (qKey c 0 lane.num) i en).faultEntry c 0 lane.num i en.issuing 0x30 (b.descReason c h d)⟩) ∧
    (¬(a % 32 = 0 ∧ a ≤ 0x27FFFE0) → ∀ q, exec (.sDesc c lane) ⟨q, b⟩ = .next ⟨q,
      (b.issuing (qKey c 0 lane.num) i en).faultEntry c 0 lane.num i en.issuing 0x31 a⟩)) ∧
  (∀ (c : CoreId) (lane : Lane) (b : Block) (i : Nat) (en : Entry), AtIssue b c 0 lane.num 0x31 1 noUses i en →
    let h := en.f0 44 36
    ∃ b', (∀ q, exec (.sDclr c lane) ⟨q, b⟩ = .next ⟨q, b'⟩) ∧ (h ≠ 0 → b'.desc? c h = none) ∧
      (∀ (c' : CoreId) g, g < 512 → ¬(c' = c ∧ g = h ∧ h ≠ 0) → b'.desc? c' g = b.desc? c' g) ∧
      EntryEnds c en { b with descs := b'.descs } b'))

/-! ### Loads and stores -/

/-- R188, R191 to R195, R200 to R203, R269: a box, index, list, scale or import transfer that is due, and whose
operands stand as R202 asks of them in order, starts: it stands issued in its queue with what it moves, to complete at
a later TRANSFER_COMPLETE. So does any transfer whose checks answer a plan; one that fails a check faults with the
first failed check's code and moves nothing; a store that rounds stochastically is held while an earlier one of its
lane has draws to come (R45, R46). Every other queue but the one of its engine and lane keeps its entries' places. That
its data moves at issue is the model's choice (log entry 18). -/
def Obligations.TransferIssue : Prop :=
  ∀ row ∈ transferRows, ∀ (c : CoreId) (lane : Lane) (b : Block) (i k : Nat) (en : Entry),
    AtIssue b c (eXfer row.2.1) lane.num row.2.2.1 16 noUses i en → b.coreOwner c = some k →
    let b1 := b.issuing (qKey c (eXfer row.2.1) lane.num) i en
    (∀ x, XferStands b1 c k row.2.1 row.2.2.1 en.issuing x → b1.xferReady k c lane.num row.2.1 x →
      ∀ q, exec (row.1 c lane) ⟨q, b⟩ = .next ⟨q, b1.startXfer k c lane.num i row.2.1 en.issuing x⟩) ∧
    (∀ x, row.2.2.2 b1 c en.issuing = .ok x → b1.xferReady k c lane.num row.2.1 x →
      ∀ q, exec (row.1 c lane) ⟨q, b⟩ = .next ⟨q, b1.startXfer k c lane.num i row.2.1 en.issuing x⟩) ∧
    (∀ x, row.2.2.2 b1 c en.issuing = .ok x → (x.peer = true → b1.jobKeyFault k = none) → row.2.1 = true →
      x.conv.draws = true → b1.drawing c lane.num = true → ∀ q, exec (row.1 c lane) ⟨q, b⟩ = .next ⟨q, b1⟩) ∧
    (∀ x d, row.2.2.2 b1 c en.issuing = .ok x → x.peer = true → b1.jobKeyFault k = some d →
      ∀ q, exec (row.1 c lane) ⟨q, b⟩ =
        .next ⟨q, b1.faultEntry c (eXfer row.2.1) lane.num i en.issuing 0xB0 d⟩) ∧
    (∀ bad, row.2.2.2 b1 c en.issuing = .error bad →
      ∀ q, exec (row.1 c lane) ⟨q, b⟩ = .next ⟨q, b1.failEntry c (eXfer row.2.1) lane.num i en.issuing bad⟩)

/-- R193: LD_LIN from the Ledger copies ROWS rows of RB bytes: byte j of row r goes from FA + r × FS + j to SP + r × SS
+ j, where the rows in the scratchpad do not overlap. The Ledger, every scratchpad byte outside those rows, and every
DRAM column stay, and the entry stands issued. R193: ST_LIN to the Ledger copies the same rows the other way, where the
rows in the Ledger do not overlap; every Ledger byte outside them, every scratchpad byte and every DRAM column stay. -/
def Obligations.LinearTransfers : Prop :=
  (∀ (c : CoreId) (lane : Lane) (b : Block) (i : Nat) (en : Entry), AtIssue b c 4 lane.num 0x03 16 noUses i en →
    en.f0 37 36 = 2 → b.sramBad = [] → (b.coreOwner c).isSome = true →
    let rows := en.f0 53 38 + 1
    let fa := en.f1 51 0
    let sp := en.f2 25 0
    let rb := en.f2 43 26 + 1
    let fs := en.f3 24 0
    let ss := en.f3 49 25
    (rows = 1 ∨ rb ≤ ss) → sp + (rows - 1) * ss + rb ≤ 0x2800000 →
    (∀ k, b.coreOwner c = some k → b.inLedAlloc k fa ((rows - 1) * fs + rb) = true) →
    ∃ b', (∀ q, exec (.ldLin c lane) ⟨q, b⟩ = .next ⟨q, b'⟩) ∧
      (∀ r j, r < rows → j < rb → b'.scratch.get byteZero (spKey c (sp + r * ss + j)) =
        b.ledger.get byteZero (fa + r * fs + j)) ∧
      (∀ k, (∀ r j, r < rows → j < rb → k ≠ spKey c (sp + r * ss + j)) →
        b'.scratch.get byteZero k = b.scratch.get byteZero k) ∧
      b'.ledger = b.ledger ∧ b'.dram = b.dram ∧ b'.hostOut = b.hostOut ∧
      ((b'.queue (qKey c 4 lane.num))[i]?).map (fun en => en.stage) = some .issued) ∧
  (∀ (c : CoreId) (lane : Lane) (b : Block) (i : Nat) (en : Entry), AtIssue b c 5 lane.num 0x03 16 noUses i en →
    en.f0 37 36 = 2 → b.sramBad = [] → (b.coreOwner c).isSome = true →
    let rows := en.f0 53 38 + 1
    let fa := en.f1 51 0
    let sp := en.f2 25 0
    let rb := en.f2 43 26 + 1
    let fs := en.f3 24 0
    let ss := en.f3 49 25
    (rows = 1 ∨ rb ≤ fs) → sp + (rows - 1) * ss + rb ≤ 0x2800000 →
    (∀ k, b.coreOwner c = some k → b.inLedAlloc k fa ((rows - 1) * fs + rb) = true) →
    ∃ b', (∀ q, exec (.stLin c lane) ⟨q, b⟩ = .next ⟨q, b'⟩) ∧
      (∀ r j, r < rows → j < rb → b'.ledger.get byteZero (fa + r * fs + j) =
        b.scratch.get byteZero (spKey c (sp + r * ss + j))) ∧
      (∀ a, (∀ r j, r < rows → j < rb → a ≠ fa + r * fs + j) → b'.ledger.get byteZero a = b.ledger.get byteZero a) ∧
      b'.scratch = b.scratch ∧ b'.dram = b.dram ∧ b'.hostOut = b.hostOut ∧
      ((b'.queue (qKey c 5 lane.num))[i]?).map (fun en => en.stage) = some .issued)

/-- R200, R204, R205: data that answers the only outstanding request of a load lands where its elements go, HOSTRDB
counts its bytes and the request is gone; a failing answer faults the transfer with FLT_HOST, the request's address and
the kind of failure, and moves and counts nothing; an answer to a request that nothing asked is nothing. R200, R201,
R269: a transfer of which nothing is outstanding completes: its entry ends, and if it names no signal and is the oldest
of its queue it leaves the queue with those behind it that have completed (R15); the store of a distributed tensor
signals the module whose block it wrote, and its own counter only where it wrote a block of its own. R200: one that
waits for a port that is down faults with FLT_HOST_TIMEOUT and the address it would access next; one that waits for no
port and no peer does not. -/
def Obligations.TransfersEnd : Prop :=
  ((∀ (c : CoreId) (store : Bool) (lane : Lane) (id : Nat) (b : Block),
    (b.queue (qKey c (eXfer store) lane.num)).findIdx? (Entry.asks id) = none →
    ∀ x q, exec (.hostReadCompletion c store lane id x) ⟨q, b⟩ = .next ⟨q, b⟩) ∧
  (∀ (c : CoreId) (lane : Lane) (id i : Nat) (en : Entry) (r : HostRead) (b : Block),
    let k := qKey c 4 lane.num
    (b.queue k).findIdx? (Entry.asks id) = some i → (b.queue k)[i]? = some en → en.hreads = [r] → en.hwrites = [] →
    en.psends = [] → en.left = 0 → en.late = none → en.seed = none → r.req = some id → (b.coreOwner c).isSome = true →
    (∀ bytes, ∃ b', (∀ q, exec (.hostReadCompletion c false lane id (.data bytes)) ⟨q, b⟩ = .next ⟨q, b'⟩) ∧
      b'.scratch = (b.land en.esize (bytes.take r.len) r.elems).scratch ∧
      (b'.queue k)[i]? = some { en with hreads := [] } ∧ (∀ j, j ≠ k → b'.queue j = b.queue j) ∧
      b'.rn (rC c 0xC20) = (b.rn (rC c 0xC20) + r.len) % 2 ^ 64 ∧ RegsIn (fun a => a = rC c 0xC20) b b' ∧
      b'.ledger = b.ledger ∧ b'.dram = b.dram ∧ b'.items = b.items) ∧
    (∀ x n, (x, n) ∈ [(HostReadResult.unsupported, 1), (.abort, 2), (.poisoned, 3)] →
      ∃ b', (∀ q, exec (.hostReadCompletion c false lane id x) ⟨q, b⟩ = .next ⟨q, b'⟩) ∧ b'.scratch = b.scratch ∧
        b'.rn (rC c 0xC) = min (b.rn (rC c 0xC) + 1) 0xFFFFFFFF ∧
        ∃ (b1 : Block) (en1 : Entry), b1.scratch = b.scratch ∧ (∀ a, b1.reg a = b.reg a) ∧
          b' = b1.faultEntry c 4 lane.num i en1 0x53 (r.addr + n <<< 52)))) ∧
  ((∀ (c : CoreId) (store : Bool) (lane : Lane) (i : Nat) (en : Entry) (b : Block),
    let k := qKey c (eXfer store) lane.num
    b.issued? k = some (i, en) → en.landed = true → en.late = none → en.left = 0 → en.members = [] →
    (store = true → en.shared = false ∨ en.ownBlock = true) → (b.coreOwner c).isSome = true →
    ∃ b', (∀ q, exec (.transferComplete c store lane) ⟨q, b⟩ = .next ⟨q, b'⟩) ∧ EntryEnds c en b b' ∧
      (i = 0 → en.sige = false → b'.queue k = (b.queue k).tail.dropWhile (fun x => x.stage == .finished))) ∧
  (∀ (c : CoreId) (lane : Lane) (i k m : Nat) (en : Entry) (b : Block),
    b.issued? (qKey c 5 lane.num) = some (i, en) → en.landed = true → en.late = none → en.left = 0 → en.members = [m] →
    en.sige = true → en.shared = true → en.ownBlock = false → b.coreOwner c = some k → b.canSend k m = true →
    ∃ b' msg, (∀ q, exec (.transferComplete c true lane) ⟨q, b⟩ = .next ⟨q, b'⟩) ∧
      b'.peerOut = b.peerOut ++ [PeerSent.mk 3 m msg] ∧ msg.coords = [en.sig, 1] ∧ msg.path = c ∧
      (∀ n, ctrDefined n = true → b'.reg (rCtr n) = b.reg (rCtr n)) ∧ b'.scratch = b.scratch ∧ b'.dram = b.dram ∧
      (i = 0 → b'.queue (qKey c 5 lane.num) =
        (b.queue (qKey c 5 lane.num)).tail.dropWhile (fun x => x.stage == .finished))) ∧
  (∀ (c : CoreId) (store : Bool) (e : Engine) (lane : Lane) (i : Nat) (en : Entry) (b : Block),
    e.num = eXfer store → b.issued? (qKey c e.num lane.num) = some (i, en) → en.seed = none →
    (b.overdue c en = false → ∀ q, exec (.transferHostTimeout c e lane) ⟨q, b⟩ = .next ⟨q, b⟩) ∧
    (∀ a, b.overdue c en = true → en.nextAddr = some a → ∀ q, exec (.transferHostTimeout c e lane) ⟨q, b⟩ =
      .next ⟨q, b.faultEntry c e.num lane.num i en 0x54 a⟩)))

/-! ### The vector and matrix engines -/

/-- R206 to R220, R231, R234: a vector entry that is due, and whose operands stand as the rules of its opcode ask, has
its effect and stands issued with the copies of its source descriptors; so has one whose checks answer; one that fails
a check faults with the first failed check's code and writes nothing. That its data moves at issue is the model's
choice (log entry 14). R217: within a group of G = 2, 4, ... elements every pattern of V_SHUF takes each element to
exactly one place, and the interleaving and the de-interleaving pattern undo each other. -/
def Obligations.VectorIssue : Prop :=
  (∀ row ∈ vectorRows, ∀ (c : CoreId) (lane : Lane) (b : Block) (i : Nat) (en : Entry),
    AtIssue b c 1 lane.num row.2.1 64 noUses i en → b.sramBad = [] →
    let b1 := b.issuing (qKey c 1 lane.num) i en
    (∀ b2 srcs, VectorStands b1 c lane.num row.2.1 en.issuing b2 srcs → ∀ q, exec (row.1 c lane) ⟨q, b⟩ =
      .next ⟨q, b2.markIssued c 1 lane.num i (srcs.map (BitVec.ofNat 256))⟩) ∧
    (∀ b2 srcs, row.2.2 b1 c lane.num en.issuing = .ok (b2, srcs) → ∀ q, exec (row.1 c lane) ⟨q, b⟩ =
      .next ⟨q, b2.markIssued c 1 lane.num i (srcs.map (BitVec.ofNat 256))⟩) ∧
    (∀ bad, row.2.2 b1 c lane.num en.issuing = .error bad →
      ∀ q, exec (row.1 c lane) ⟨q, b⟩ = .next ⟨q, b1.failEntry c 1 lane.num i en.issuing bad⟩)) ∧
  ((∀ k pat amt i j, 1 ≤ k → amt < 2 ^ k → pat ≤ 3 → i < 2 ^ k → j < 2 ^ k → shufFrom pat (2 ^ k) amt i < 2 ^ k ∧
    (shufFrom pat (2 ^ k) amt i = shufFrom pat (2 ^ k) amt j → i = j)) ∧
  (∀ k amt i, 1 ≤ k → i < 2 ^ k → shufFrom 3 (2 ^ k) amt (shufFrom 2 (2 ^ k) amt i) = i ∧
    shufFrom 2 (2 ^ k) amt (shufFrom 3 (2 ^ k) amt i) = i))

/-- R221, R226, R228, R231, R269: M_MM that is due faults while its MTX domain is off, and otherwise issues where its
operands stand as R220 to R227 ask, which is where its checks pass; MTX_TILE_WRITE writes the next n-tile's outputs and
no register but the core's counters and flags; a vector entry, and a matrix entry all of whose n-tiles are written,
completes and leaves its queue; while an urgent entry has the array the normal one stands (R227). -/
def Obligations.MatrixAndVectorProgress : Prop :=
  (∀ (c : CoreId) (lane : Lane) (b : Block) (i : Nat) (en : Entry), AtIssue b c 2 lane.num 0x00 1 noUses i en →
    let b1 := b.issuing (qKey c 2 lane.num) i en
    (b.domOn (8 + c) = false →
      ∀ q, exec (.mMm c lane) ⟨q, b⟩ = .next ⟨q, b1.faultEntry c 2 lane.num i en.issuing 0x60 0 true⟩) ∧
    (∀ x, b.domOn (8 + c) = true → MatMulStands b1 c lane.num en.issuing x → b.sramBad = [] →
      ∀ q, exec (.mMm c lane) ⟨q, b⟩ = .next ⟨q, b1.markIssued c 2 lane.num i
        (([x.a, x.b, x.y] ++ x.cd.toList).map (BitVec.ofNat 256))⟩) ∧
    (∀ x, b.domOn (8 + c) = true → b1.mmCheck c lane.num en.issuing = .ok x → b.sramBad = [] →
      ∀ q, exec (.mMm c lane) ⟨q, b⟩ = .next ⟨q, b1.markIssued c 2 lane.num i
        (([x.a, x.b, x.y] ++ x.cd.toList).map (BitVec.ofNat 256))⟩)) ∧
  (∀ (c : CoreId) (lane : Lane) (b : Block) (i : Nat) (en : Entry),
    b.issued? (qKey c 2 lane.num) = some (i, en) → en.next < ceilDiv en.matMul.n 128 → b.fld (rEv 0xB8) 0 0 = 0 →
    (lane = .normal → b.issued? (qKey c 2 1) = none) →
    ∃ b', (∀ q, exec (.mtxTileWrite c lane) ⟨q, b⟩ = .next ⟨q, b'⟩) ∧
      b'.scratch = (b.mmTile c en.matMul en.ovfSat (en.matMul.tile en.next)).scratch ∧
      (b'.queue (qKey c 2 lane.num))[i]? = some { en with next := en.next + 1 } ∧
      (∀ j, j ≠ qKey c 2 lane.num → b'.queue j = b.queue j) ∧ b'.ledger = b.ledger ∧ b'.dram = b.dram ∧
      b'.items = b.items ∧ b'.evlog = b.evlog ∧
      RegsIn (fun a => a = rC c 0xA04 ∨ a = rC c 0xE18 ∨ a = rC c 0xE20) b b') ∧
  (∀ (c : CoreId) (lane : Lane) (b : Block) (i : Nat) (en : Entry),
    b.issued? (qKey c 2 lane.num) = some (i, en) → ceilDiv en.matMul.n 128 ≤ en.next →
    (lane = .normal → b.issued? (qKey c 2 1) = none) →
    ∃ b', (∀ q, exec (.mtxEntryComplete c lane) ⟨q, b⟩ = .next ⟨q, b'⟩) ∧ EntryEnds c en b b' ∧
      (i = 0 → en.sige = false → b'.queue (qKey c 2 lane.num) =
        (b.queue (qKey c 2 lane.num)).tail.dropWhile (fun x => x.stage == .finished))) ∧
  (∀ (c : CoreId) (b : Block) (x : Nat × Entry), b.issued? (qKey c 2 1) = some x →
    Gives (.mtxTileWrite c .normal) b b ∧ Gives (.mtxEntryComplete c .normal) b b) ∧
  (∀ (c : CoreId) (lane : Lane) (b : Block) (i : Nat) (en : Entry), b.issued? (qKey c 1 lane.num) = some (i, en) →
    ∃ b', (∀ q, exec (.vecEntryComplete c lane) ⟨q, b⟩ = .next ⟨q, b'⟩) ∧ EntryEnds c en b b' ∧
      (i = 0 → en.sige = false → b'.queue (qKey c 1 lane.num) =
        (b.queue (qKey c 1 lane.num)).tail.dropWhile (fun x => x.stage == .finished)))

/-! ### Waits, counters and barriers -/

/-- R17, R174, R203, R262, R263: a command that brings an entry to its issue point changes nothing while none may issue
in the lane, while as many are in flight as may be, while the engine's urgent lane has an entry to issue before the
normal queue, while no entry of its OPCODE is the head, and while the head waits. R263, R264: a head whose common wait
cannot be granted whole begins to wait, for 1 of WAITC under its lane's limit, and nothing else changes: no part of a
count is taken. R263, R271, R284: a head that names a counter outside its core's partition, of the wrong mode, or whose
CAP lies below the amount, faults at its issue point with FLT_SYNC_FOREIGN or FLT_SYNC_MODE and the counter in DETAIL,
and has no effect. -/
def Obligations.HeadsWait : Prop :=
  (∀ row ∈ entryRows, ∀ (c : CoreId) (lane : Lane) (b : Block),
    let k := qKey c row.engine lane.num
    (b.canIssue c lane.num = false ∨ row.maxOut ≤ b.inFlight c row.engine lane.num ∨
      (lane = .normal ∧ b.urgentFirst c row.engine row.maxOut = true) ∨ b.head? k = none ∨
      (∃ en, b.head? k = some en ∧ (en.opcode ≠ row.op ∨ en.wait ≠ none))) →
    ∀ q, exec (row.cmd c lane) ⟨q, b⟩ = .next ⟨q, b⟩) ∧
  (∀ row ∈ entryRows, ∀ (c : CoreId) (lane : Lane) (b : Block) (i : Nat) (en : Entry),
    let k := qKey c row.engine lane.num
    b.canIssue c lane.num = true → (row.engine = 3 → b.fenced c lane.num = false) → b.inFlight c row.engine lane.num < row.maxOut →
    (lane = .normal → b.urgentFirst c row.engine row.maxOut = false) →
    headPos (b.queue k) = some i → (b.queue k)[i]? = some en → en.opcode = row.op → en.wait = none →
    (en.checked = true ∨ b.ctrCheck c (en.commonUses ++ row.extra b c en) = none) →
    en.waite = true → en.got1 = false → b.ctrValue en.waitc = 0 →
    ∃ b', (∀ q, exec (row.cmd c lane) ⟨q, b⟩ = .next ⟨q, b'⟩) ∧ b' = { b with queues := b'.queues } ∧
      (b'.queue k)[i]? = some { en with checked := true, wait := some ⟨en.waitc, 1, false, b.cycle, b.waitLimit c lane.num⟩ } ∧
      (∀ j, j ≠ i → (b'.queue k)[j]? = (b.queue k)[j]?) ∧ (∀ j, j ≠ k → b'.queue j = b.queue j)) ∧
  ((∀ row ∈ entryRows, ∀ (c : CoreId) (lane : Lane) (b : Block) (i : Nat) (en : Entry) (code detail : Nat),
    let k := qKey c row.engine lane.num
    b.canIssue c lane.num = true → (row.engine = 3 → b.fenced c lane.num = false) → b.inFlight c row.engine lane.num < row.maxOut →
    (lane = .normal → b.urgentFirst c row.engine row.maxOut = false) →
    headPos (b.queue k) = some i → (b.queue k)[i]? = some en → en.opcode = row.op → en.wait = none → en.checked = false →
    b.ctrCheck c (en.commonUses ++ row.extra b c en) = some (code, detail) →
    ∃ b', (∀ q, exec (row.cmd c lane) ⟨q, b⟩ = .next ⟨q, b'⟩) ∧ b' = b.faultEntry c row.engine lane.num i en code detail ∧
      EntryEnds c en b b') ∧
  (∀ (b : Block) (c : Nat) (u : CtrUse) (us : List CtrUse), u.mode ≠ 2 →
    (b.foreignTo c u.ctr = true → b.ctrCheck c (u :: us) = some (0x73, u.ctr + u.which <<< 13)) ∧
    (b.foreignTo c u.ctr = false → b.ctrMode u.ctr ≠ u.mode →
      b.ctrCheck c (u :: us) = some (0x74, u.ctr + (if u.mode = 0 then 1 else 2) <<< 13)) ∧
    (b.foreignTo c u.ctr = false → b.ctrMode u.ctr = u.mode → u.mode = 0 → b.ctrCap u.ctr < u.amount →
      b.ctrCheck c (u :: us) = some (0x74, u.ctr + 3 <<< 13))))

/-- R260, R264, R266 to R268: Y_SIGNAL adds AMT to CTR and writes its last signaller, where CAP allows it, and otherwise
faults with FLT_SYNC_OVERFLOW; Y_WAIT takes AMT from CTR once VALUE holds it whole and otherwise waits; Y_TAKE takes
AMT at once, or faults with FLT_SYNC_EMPTY and takes nothing. R274: an arrival at a barrier raises ARRIVED and waits
for the round's end; the last party's ends the round: ARRIVED is 0 and SENSE has flipped. -/
def Obligations.SyncCountsAndBarriers : Prop :=
  ((∀ (c : CoreId) (lane : Lane) (b : Block) (i : Nat) (en : Entry),
    AtIssue b c 6 lane.num 0x00 1 (fun en => [⟨en.ctr, 3, 0, 0⟩]) i en →
    let b1 := b.issuing (qKey c 6 lane.num) i en
    (b1.foreignTo c en.ctr = false → b1.ctrMode en.ctr = 0 → b1.ctrValue en.ctr + en.amt ≤ b1.ctrCap en.ctr →
      b1.nwait en.ctr = 0 → en.sige = false → ∃ b', (∀ q, exec (.ySignal c lane) ⟨q, b⟩ = .next ⟨q, b'⟩) ∧
        b'.ctrValue en.ctr = b1.ctrValue en.ctr + en.amt ∧
        b'.rn (rCtr en.ctr + 8) = sigRecord (entrySource c 6 lane.num en) en.amt ∧
        RegsIn (fun a => a = rCtr en.ctr ∨ a = rCtr en.ctr + 8) b1 b' ∧ EntryFrame b b') ∧
    (b1.foreignTo c en.ctr = false → b1.ctrMode en.ctr = 0 → b1.ctrCap en.ctr < b1.ctrValue en.ctr + en.amt →
      ∀ q, exec (.ySignal c lane) ⟨q, b⟩ = .next ⟨q, (b1.bump32 (rSy 0x10008) 1).faultEntry c 6 lane.num i en.issuing 0x71
        (en.ctr + (b1.ctrValue en.ctr) <<< 16 + en.amt <<< 32)⟩)) ∧
  (∀ (c : CoreId) (lane : Lane) (b : Block) (i : Nat) (en : Entry),
    AtIssue b c 6 lane.num 0x01 1 (fun en => [⟨en.ctr, 3, 0, en.amt⟩]) i en → en.got2 = false →
    let b1 := b.issuing (qKey c 6 lane.num) i en
    (en.amt ≤ b1.ctrValue en.ctr → en.sige = false → ∃ b', (∀ q, exec (.yWait c lane) ⟨q, b⟩ = .next ⟨q, b'⟩) ∧
      b'.ctrValue en.ctr = b1.ctrValue en.ctr - en.amt ∧ RegsIn (fun a => a = rCtr en.ctr) b1 b' ∧ EntryFrame b b') ∧
    (b1.ctrValue en.ctr < en.amt → ∃ b', (∀ q, exec (.yWait c lane) ⟨q, b⟩ = .next ⟨q, b'⟩) ∧
      b' = { b1 with queues := b'.queues } ∧ (b'.queue (qKey c 6 lane.num))[i]? =
        some { en.issuing with wait := some ⟨en.ctr, en.amt, false, b1.cycle, b1.waitLimit c lane.num⟩ })) ∧
  (∀ (c : CoreId) (lane : Lane) (b : Block) (i : Nat) (en : Entry),
    AtIssue b c 6 lane.num 0x02 1 (fun en => [⟨en.ctr, 3, 0, en.amt⟩]) i en →
    let b1 := b.issuing (qKey c 6 lane.num) i en
    (en.amt ≤ b1.ctrValue en.ctr → en.sige = false → ∃ b', (∀ q, exec (.yTake c lane) ⟨q, b⟩ = .next ⟨q, b'⟩) ∧
      b'.ctrValue en.ctr = b1.ctrValue en.ctr - en.amt ∧ RegsIn (fun a => a = rCtr en.ctr) b1 b' ∧ EntryFrame b b') ∧
    (b1.ctrValue en.ctr < en.amt → ∀ q, exec (.yTake c lane) ⟨q, b⟩ =
      .next ⟨q, b1.faultEntry c 6 lane.num i en.issuing 0x72 (en.ctr + (b1.ctrValue en.ctr) <<< 16 + en.amt <<< 32)⟩))) ∧
  (∀ (c : CoreId) (lane : Lane) (b : Block) (i : Nat) (en : Entry),
    AtIssue b c 6 lane.num 0x03 1 (fun en => [⟨en.ctr, 3, 1, 0⟩]) i en → en.got2 = false → en.waite = false →
    ctrDefined en.ctr = true →
    (b.ctrArrived en.ctr + 1 < b.ctrParties en.ctr → ∃ b', (∀ q, exec (.yBar c lane) ⟨q, b⟩ = .next ⟨q, b'⟩) ∧
      b'.ctrArrived en.ctr = b.ctrArrived en.ctr + 1 ∧ b'.ctrSense en.ctr = b.ctrSense en.ctr ∧
      RegsIn (fun a => a = rCtr en.ctr ∨ a = rCtr en.ctr + 8) b b' ∧ EntryFrame b b' ∧
      ((b'.queue (qKey c 6 lane.num))[i]?).map (fun en => en.wait) =
        some (some ⟨en.ctr, 1, true, b.cycle, b.waitLimit c lane.num⟩)) ∧
    (b.ctrArrived en.ctr + 1 = b.ctrParties en.ctr → en.sige = false →
      ∃ b', (∀ q, exec (.yBar c lane) ⟨q, b⟩ = .next ⟨q, b'⟩) ∧ b'.ctrArrived en.ctr = 0 ∧
      b'.ctrSense en.ctr = (!(b.ctrSense en.ctr)) ∧ EntryFrame b b' ∧
      RegsIn (fun a => a = rCtr en.ctr ∨ a = rCtr en.ctr + 8) b b'))

/-- R272, R273, R278: Y_RSIG sends one remote signal of AMT for CTR to MODULE on its core's path while the path is up
and the job's key active, and waits at the head while it is not; a head that has reached its wait limit faults with
FLT_SYNC_TIMEOUT, which names its counter, phase and limit, and consumes nothing. R45, R46, R214, R259, R271, R281,
R283: an HSIG write signals its counter as R266 says, or is blocked and counted where the counter is foreign to its
requester; a counter's VALUE and CFG are written while it is idle and the value fits, CFG setting the baseline; a seed
takes any value but 0, that of the stores only after the last draw of a store that is still drawing. Every write that
breaks its register's rule is refused. -/
def Obligations.CountersFromOutside : Prop :=
  ((∀ (c : CoreId) (lane : Lane) (b : Block) (i k : Nat) (en : Entry),
    AtIssue b c 6 lane.num 0x04 1 (fun en => b.rsigUses c en) i en → b.coreOwner c = some k → b.jobKeyFault k = none →
    en.waite = false →
    (b.canSend k en.module_ = true → en.sige = false → ∃ b' m, (∀ q, exec (.yRsig c lane) ⟨q, b⟩ = .next ⟨q, b'⟩) ∧
      b'.peerOut = b.peerOut ++ [m] ∧ m.kind = 3 ∧ m.dest = en.module_ ∧ m.msg.coords = [en.ctr, en.rsigAmt] ∧
      m.msg.path = c ∧ b'.scratch = b.scratch ∧ b'.ctrValue en.ctr = b.ctrValue en.ctr) ∧
    (b.canSend k en.module_ = false → ∃ b', (∀ q, exec (.yRsig c lane) ⟨q, b⟩ = .next ⟨q, b'⟩) ∧
      b' = { b with queues := b'.queues })) ∧
  (∀ (c : CoreId) (e : Engine) (lane : Lane) (i : Nat) (en : Entry) (w : Wait) (b : Block),
    headPos (b.queue (qKey c e.num lane.num)) = some i → (b.queue (qKey c e.num lane.num))[i]? = some en →
    en.wait = some w → ∃ b', (∀ q, exec (.waitTimeout c e lane) ⟨q, b⟩ = .next ⟨q, b'⟩) ∧
      b' = b.faultEntry c e.num lane.num i en 0x70 (w.ctr + (b2n w.phase2) <<< 13 + w.limit <<< 16) ∧
      (∀ n, b'.ctrValue n = b.ctrValue n) ∧ EntryEnds c en b b')) ∧
  ((∀ (r : Requester) (v : BitVec 32) (b : Block), Accepts b r (rSy 0x10000) →
    let b0 := b.dropHeld r
    let n := bits v.toNat 12 0
    let amt := bits v.toNat 31 16
    (amt = 0 ∨ ctrDefined n = false → ∀ q, exec (.hsigWrite r v) ⟨q, b⟩ = .next ⟨q, b0.writeReject (rSy 0x10000) v.toNat⟩) ∧
    (amt ≠ 0 → ctrDefined n = true → b0.foreignReq r n = true → ∃ b', (∀ q, exec (.hsigWrite r v) ⟨q, b⟩ = .next ⟨q, b'⟩) ∧
      b'.rn (rSy 0x10004) = min (b0.rn (rSy 0x10004) + 1) 0xFFFFFFFF ∧ (∀ m, b'.ctrValue m = b0.ctrValue m)) ∧
    (amt ≠ 0 → ctrDefined n = true → b0.foreignReq r n = false → b0.ctrMode n = 0 → b0.ctrValue n + amt ≤ b0.ctrCap n →
      b0.nwait n = 0 → ∃ b', (∀ q, exec (.hsigWrite r v) ⟨q, b⟩ = .next ⟨q, b'⟩) ∧
        b'.ctrValue n = b0.ctrValue n + amt ∧ b'.rn (rCtr n + 8) = sigRecord (reqSource r) amt ∧
        RegsIn (fun a => a = rCtr n ∨ a = rCtr n + 8) b0 b')) ∧
  (∀ (r : Requester) (n : BitVec 13) (v : BitVec 32) (b : Block), ctrDefined n.toNat = true → Accepts b r (rCtr n.toNat) →
    let b0 := b.dropHeld r
    let bad := b0.nwait n.toNat ≠ 0 ∨ b0.ctrMode n.toNat ≠ 0 ∨ b0.ctrCap n.toNat < v.toNat % 65536 ∨ b0.ctrBusy n.toNat = true
    (bad → ∀ q, exec (.ctrValWrite r n v) ⟨q, b⟩ = .next ⟨q, b0.writeReject (rCtr n.toNat) v.toNat⟩) ∧
    (¬bad → ∃ b', (∀ q, exec (.ctrValWrite r n v) ⟨q, b⟩ = .next ⟨q, b'⟩) ∧ b'.ctrValue n.toNat = v.toNat % 65536 ∧
      b' = { b0 with regs := b'.regs } ∧ RegsIn (fun a => a = rCtr n.toNat) b0 b')) ∧
  (∀ (r : Requester) (n : BitVec 13) (v : BitVec 32) (b : Block), ctrDefined n.toNat = true → Accepts b r (rCtr n.toNat + 4) →
    let b0 := b.dropHeld r
    b0.nwait n.toNat = 0 → b0.ctrArrived n.toNat = 0 → b0.ctrBusy n.toNat = false →
    (bits v.toNat 0 0 = 0 → bits v.toNat 24 17 = 0 → bits v.toNat 16 1 ≠ 0 → b0.ctrValue n.toNat ≤ bits v.toNat 16 1 →
      ∃ b', (∀ q, exec (.ctrCfgWrite r n v) ⟨q, b⟩ = .next ⟨q, b'⟩) ∧ b'.ctrMode n.toNat = 0 ∧
        b'.ctrCap n.toNat = bits v.toNat 16 1 ∧ b'.ctrValue n.toNat = b0.ctrValue n.toNat ∧
        (b'.baselines.get noBaseline n.toNat).toNat = b0.ctrValue n.toNat) ∧
    (bits v.toNat 0 0 = 1 → bits v.toNat 24 17 ≠ 0 → bits v.toNat 16 1 = 0 →
      ∃ b', (∀ q, exec (.ctrCfgWrite r n v) ⟨q, b⟩ = .next ⟨q, b'⟩) ∧ b'.ctrMode n.toNat = 1 ∧
        b'.ctrParties n.toNat = bits v.toNat 24 17 ∧ b'.ctrArrived n.toNat = 0 ∧ b'.ctrSense n.toNat = false)) ∧
  (∀ (r : Requester) (c : CoreId) (lane : Lane) (v : BitVec 32) (b : Block), Accepts b r (rC c (0xA08 + 4 * lane.num)) →
    let b0 := b.dropHeld r
    let k := qKey c 5 lane.num
    (v = 0#32 → Gives (.srseedWrite r c lane v) b (b0.writeReject (rC c (0xA08 + 4 * lane.num)) 0)) ∧
    (v ≠ 0#32 → b0.drawing c lane.num = false →
      Gives (.srseedWrite r c lane v) b (b0.setRn (rC c (0xA08 + 4 * lane.num)) v.toNat)) ∧
    (∀ i en, v ≠ 0#32 → drawingPos (b.queue k) = some i → (b.queue k)[i]? = some en →
      ∃ b', Gives (.srseedWrite r c lane v) b b' ∧ (b'.queue k)[i]? = some { en with seed := some v } ∧
        (∀ j, j ≠ i → (b'.queue k)[j]? = (b.queue k)[j]?) ∧ (∀ j, j ≠ k → b'.queue j = b.queue j) ∧
        ∃ queues, b' = { b0 with queues := queues })) ∧
  (∀ (r : Requester) (c : CoreId) (lane : Lane) (v : BitVec 32) (b : Block), Accepts b r (rC c (0xE04 + 4 * lane.num)) →
    ∀ q, exec (.vrseedWrite r c lane v) ⟨q, b⟩ = .next ⟨q, if v = 0#32 then
      (b.dropHeld r).writeReject (rC c (0xE04 + 4 * lane.num)) 0
      else (b.dropHeld r).setRn (rC c (0xE04 + 4 * lane.num)) v.toNat⟩))

/-! ### Bank operations -/

/-- R18, R122 to R124, R129, R130, R303: a bank operation that is due, whose operands stand as the rules of its opcode
ask or whose checks answer, and which finds a ticket free draws one, of which the spec does not say which, is the
newest operation under it, and its entry stands issued with the ticket; with every ticket of its lane's share drawn it
is held at the head of its queue; one that fails a check faults and draws none. -/
def Obligations.BankOperationIssue : Prop :=
  ∀ row ∈ bankRows, ∀ (c : CoreId) (lane : Lane) (b : Block) (i : Nat) (en : Entry),
    AtIssue b c 3 lane.num row.2.1 65536 noUses i en → b.fenced c lane.num = false →
    let b1 := b.issuing (qKey c 3 lane.num) i en
    let share := if lane = .urgent then 64 else 4032
    (∀ o, row.2.2 b1 c lane.num en.issuing = .ok o → share ≤ b.ticketsOf lane.num →
      ∀ q, exec (row.1 c lane) ⟨q, b⟩ = .next ⟨q, b1⟩) ∧
    (∀ o, BankStands b1 c lane.num row.2.1 en.issuing o → b.ticketsOf lane.num < share → b1.unrespBank o = none →
      (∃ t, t < 4096 ∧ b.op? t = none) →
      ∃ b' t, (∀ q, exec (row.1 c lane) ⟨q, b⟩ = .next ⟨q, b'⟩) ∧ t < 4096 ∧ b.op? t = none ∧
        b'.op? t = some { o with seq := b.opSeq } ∧ (∀ u, u ≠ t → b'.op? u = b.op? u) ∧ b'.opSeq = b.opSeq + 1 ∧
        ((b'.queue (qKey c 3 lane.num))[i]?).map (fun en => (en.stage, en.ticket)) = some (.issued, some t) ∧
        b'.scratch = b.scratch ∧ b'.dram = b.dram ∧ b'.blus = b.blus) ∧
    (∀ o, row.2.2 b1 c lane.num en.issuing = .ok o → b.ticketsOf lane.num < share → b1.unrespBank o = none →
      (∃ t, t < 4096 ∧ b.op? t = none) →
      ∃ b' t, (∀ q, exec (row.1 c lane) ⟨q, b⟩ = .next ⟨q, b'⟩) ∧ t < 4096 ∧ b.op? t = none ∧
        b'.op? t = some { o with seq := b.opSeq } ∧ (∀ u, u ≠ t → b'.op? u = b.op? u) ∧ b'.opSeq = b.opSeq + 1 ∧
        ((b'.queue (qKey c 3 lane.num))[i]?).map (fun en => (en.stage, en.ticket)) = some (.issued, some t) ∧
        b'.scratch = b.scratch ∧ b'.dram = b.dram ∧ b'.blus = b.blus) ∧
    (∀ bad, row.2.2 b1 c lane.num en.issuing = .error bad →
      ∀ q, exec (row.1 c lane) ⟨q, b⟩ = .next ⟨q, b1.failEntry c 3 lane.num i en.issuing bad⟩)

/-- R104, R138: the oldest entry of a bank's drain buffer leaves it; if its residue is right it is the leaf of its place
in its running operation, and if not the operation faults and is never committed; a normal entry does not go before an
urgent one of its pillar (R294). R23, R137, R139 to R141: an operation whose tree is complete is reduced, and commits at
once if it signals; a BV_FENCE that is due issues and holds its lane, and changes no result yet; while an operation of
its lane runs it does not complete; it completes when every operation of its lane is reduced, committed or faulted: what
is reduced is then committed, and BNKSTAT is marked where one of them faulted. -/
def Obligations.BankOperationsEnd : Prop :=
  (∀ (g : BitVec 16) (e : DWord) (rest : List DWord) (o : BankOp) (b : Block),
    let x : BankAt := ⟨(b.physBank g.toNat).1, (b.physBank g.toNat).2.1, (b.physBank g.toNat).2.2⟩
    let t := wf e 63 52
    (b.bluAt x).drain = e :: rest → (b.bluAt x).st ≠ 5 → (b.bluAt x).udrain = false → b.op? t = some o →
    o.stage = .running →
    (o.lane = 1 ∨ b.urgentFront x.p = false) →
    (∀ k, wf e 31 0 % 7 = wf e 34 32 →
      (if o.op = 0x82 then o.leafKey g.toNat (wf e 51 35) 0 else o.leafKey g.toNat (wf e 38 35) (wf e 51 39)) = some k →
      ∃ b', (∀ q, exec (.drainEntryArrive g) ⟨q, b⟩ = .next ⟨q, b'⟩) ∧ (b'.bluAt x).drain = rest ∧
        b'.op? t = some { o with leaves := o.leaves.set noLeaf k (some (BitVec.ofNat 32 (wf e 31 0))) } ∧
        b'.queues = b.queues ∧ b'.evlog = b.evlog ∧ b'.dram = b.dram) ∧
    (wf e 31 0 % 7 ≠ wf e 34 32 → ∃ b', (∀ q, exec (.drainEntryArrive g) ⟨q, b⟩ = .next ⟨q, b'⟩) ∧
      (b'.bluAt x).drain = rest ∧ (∀ o', b'.op? t = some o' → o'.stage = .faulted) ∧
      (b'.bluAt x).rescnt = min ((b.bluAt x).rescnt + 1) 0xFFFFFFFF)) ∧
  ((∀ (t : BitVec 12) (o : BankOp) (b : Block), b.op? t.toNat = some o → o.stage = .running → o.complete = true →
    (b.opSignals o t.toNat = false →
      ∃ b', (∀ q, exec (.bankOpReduced t) ⟨q, b⟩ = .next ⟨q, b'⟩) ∧ b'.op? t.toNat = some { o with stage := .reduced } ∧
        b'.queues = b.queues ∧ b'.items = b.items ∧ b'.blus = b.blus ∧ b'.dram = b.dram) ∧
    (b.opSignals o t.toNat = true →
      ∃ b', (∀ q, exec (.bankOpReduced t) ⟨q, b⟩ = .next ⟨q, b'⟩) ∧
        (∀ o', b'.op? t.toNat = some o' → o'.stage = .committed) ∧ b'.blus = b.blus ∧ b'.dram = b.dram)) ∧
  (∀ (t : BitVec 12) (o : BankOp) (b : Block), b.op? t.toNat = some o → (o.stage ≠ .running ∨ o.complete = false) →
    ∀ q, exec (.bankOpReduced t) ⟨q, b⟩ = .next ⟨q, b⟩) ∧
  (∀ (c : CoreId) (lane : Lane) (b : Block) (i : Nat) (en : Entry), AtIssue b c 3 lane.num 0xBF 65536 noUses i en →
    b.fenced c lane.num = false → ∃ b', (∀ q, exec (.bvFence c lane) ⟨q, b⟩ = .next ⟨q, b'⟩) ∧
      b'.fenced c lane.num = true ∧ b'.ops = b.ops ∧ b'.scratch = b.scratch ∧ b'.blus = b.blus ∧ b'.dram = b.dram) ∧
  (∀ (c : CoreId) (lane : Lane) (b : Block) (i : Nat) (en : Entry),
    let k := qKey c 3 lane.num
    (b.queue k).findIdx? (fun en => en.stage == .issued && en.opcode == 0xBF) = some i → (b.queue k)[i]? = some en →
    b.laneDone c lane.num = true → ∃ b', (∀ q, exec (.bvFenceComplete c lane) ⟨q, b⟩ = .next ⟨q, b'⟩) ∧
      (b.bnkFault.contains (2 * c.val + lane.num) = true → bit (b'.rn (rC c 0xB00)) 19 = true) ∧
      b'.bnkFault.contains (2 * c.val + lane.num) = false ∧
      (∀ t o, b'.op? t = some o → o.core = c.val → o.lane = lane.num → o.stage ≠ .reduced) ∧
      ((∀ t o, b.op? t = some o → o.core = c.val → o.lane = lane.num → o.stage ≠ .reduced) →
        b'.ops = b.ops ∧ b'.scratch = b.scratch ∧
        (i = 0 → en.sige = false → b'.queue k = (b.queue k).tail.dropWhile (fun x => x.stage == .finished)))) ∧
  (∀ (c : CoreId) (lane : Lane) (b : Block), b.laneDone c lane.num = false → Gives (.bvFenceComplete c lane) b b))

/-! ### Command words and bank lane units -/

/-- R287, R290, R295, R296: in every bank that takes it, ACT opens its row in the buffer its word names, under the page
policy in force, PRE closes the buffers it names, and REFB closes both buffers, moves the pointer on modulo 768 and
lowers the debt; a normal RUN stops at a column boundary first, for ACT and PRE where a request port sends them (R105,
R293). R91 to R93, R287: RD answers the column it names of the open row with its check bits, decodes and counts it,
changing no column; WR stores its column with the check bits that accompany it in the open row, and no other column
changes. R289, R299, R300, R302, R305: SELECT sets the selection and no bank; PDE powers the groups it names down and
PDX wakes them; IDRD is answered with 0x5A17 and the die's position; TMRD takes the die's temperature and its HOT
state; RSYNC ends a die's discarding; each word but PDE wakes the groups of its dies. R290: a word with wrong parity, a
reserved code or value, or an ARMX without its ARM is executed by no die, and an ARM that its ARMX does not follow
neither; every die addressed discards from then on. R292, R301: a word that is not ready, or whose entry in the shadow
ring is not free, waits and does nothing yet. That a word which no operation's sequence holds is not sent is the
model's choice (log entry 118). -/
def Obligations.CommandWords : Prop :=
  ((∀ (p : PillarId) (w : BusWord) (x : WordIn) (b : Block), Sends b (.act p w) x → wCmd w.word = 0x01 →
    (w.src.ordinary = true → AccsRead b p w.word (fun u => u.run ≠ none)) →
    let timed := b.fld (rP p 0x70) 0 0 == 0
    UnitsBecome (.act p w) x b (fun _ u =>
      if wf w.word 39 39 = 0 then { u.yields w.src with rb0 := some (wf w.word 38 26), rb0Timer := timed }
      else { u.yields w.src with rb1 := some (wf w.word 38 26), rb1Timer := timed })) ∧
  (∀ (p : PillarId) (w : BusWord) (x : WordIn) (b : Block), Sends b (.pre p w) x → wCmd w.word = 0x02 →
    (w.src.ordinary = true → AccsRead b p w.word (fun u => u.run ≠ none)) →
    UnitsBecome (.pre p w) x b (fun _ u =>
      { u.yields w.src with
        rb0 := if wf w.word 26 26 = 1 then none else u.rb0, rb1 := if wf w.word 27 27 = 1 then none else u.rb1 })) ∧
  (∀ (p : PillarId) (w : DWord) (x : WordIn) (b : Block), Sends b (.refb p w) x → wCmd w = 0x05 →
    AccsRead b p w (fun u => u.run ≠ none) →
    UnitsBecome (.refb p w) x b (fun _ u =>
      { u.yields (.port 8) with
        rb0 := none, rb1 := none, ptr := (u.ptr + 1) % 768, debt := max (u.debt - 1) (-8)
        refUntil := b.cycle + 180, refOwed := false })) ∧
  (∀ (i : Instr) (x : WordIn) (b : Block), wordOf i = some x → WellFormed i = true →
    (b.pillarOn x.pillar = false → Gives i b b) ∧
    (b.pillarOn x.pillar = true → (b.pillar x.pillar).waiting = [] →
      (b.wordReady x.pillar [] (x.waiting b) = false ∨ b.entryFree x.pillar (x.waiting b) = false) →
      ∃ b', Gives i b b' ∧ b'.pillar x.pillar = { b.pillar x.pillar with waiting := [x.waiting b] } ∧
        (∀ p', p' ≠ x.pillar.val → b'.pillar p' = b.pillar p') ∧ ∃ pillars, b' = { b with pillars := pillars }) ∧
    (b.pillarOn x.pillar = true → (b.pillar x.pillar).waiting = [] → b.wordReady x.pillar [] (x.waiting b) = true →
      b.entryFree x.pillar (x.waiting b) = true → b.sent x.pillar (x.waiting b) = false →
      ∃ b', Gives i b b' ∧ b'.pillar x.pillar = (if wCmd x.word = 0x18 then { b.pillar x.pillar with arm := none }
          else b.pillar x.pillar) ∧
        (∀ p', p' ≠ x.pillar.val → b'.pillar p' = b.pillar p') ∧ ∃ pillars, b' = { b with pillars := pillars }))) ∧
  ((∀ (p : PillarId) (w : BusWord) (x : WordIn) (b : Block), Sends b (.rd p w) x → wCmd w.word = 0x03 →
    w.src.ordinary = true → AccsRead b p w.word (fun u => u.run ≠ none) →
    let rowOf := fun u : Blu => if wf w.word 26 26 = 0 then u.rb0 else u.rb1
    let col := wf w.word 32 27
    ∃ b', Gives (.rd p w) b b' ∧ WordSent b b' x ∧
      UnitsTo p w.word b b' (fun d u =>
        match rowOf u with
        | none => u.yields w.src
        | some row =>
          let bad := fun kind : Nat => { u.yields w.src with
            ue := min (u.ue + 1) 0xFFFFFFFF, err := u.err ||| 1#7, last := row + col <<< 13 + kind <<< 19 }
          match colDecode (b.colRaw (colKey p d (wBank w.word) row col)) row col with
          | .clean _ => u.yields w.src
          | .corrected _ => { u.yields w.src with ce := min (u.ce + 1) 0xFFFFFFFF }
          | .badAddr => bad 2
          | .badData => bad 1) ∧
      (∀ d row, Takes b p w.word d → rowOf (b.blu (bankKey p d (wBank w.word))) = some row →
        (b'.pillar p).rdata = some (b.colRaw (colKey p d (wBank w.word) row col))) ∧
      ∃ regs pillars blus evlog orderEvents, b' =
        { b with regs := regs, pillars := pillars, blus := blus, evlog := evlog, orderEvents := orderEvents }) ∧
  (∀ (p : PillarId) (w : BusWord) (data : Column) (check : BitVec 32) (x : WordIn) (b : Block),
    Sends b (.wr p w data check) x → wCmd w.word = 0x04 → w.src.ordinary = true →
    AccsRead b p w.word (fun u => u.run ≠ none) →
    let isAt := fun (d row : Nat) => Takes b p w.word d ∧
      (if wf w.word 26 26 = 0 then (b.blu (bankKey p d (wBank w.word))).rb0
       else (b.blu (bankKey p d (wBank w.word))).rb1) = some row
    ∃ b', Gives (.wr p w data check) b b' ∧ WordSent b b' x ∧ UnitsTo p w.word b b' (fun _ u => u.yields w.src) ∧
      (∀ d row, isAt d row → b'.colRaw (colKey p d (wBank w.word) row (wf w.word 32 27)) = packCol data check) ∧
      (∀ y, (∀ d row, isAt d row → y ≠ colKey p d (wBank w.word) row (wf w.word 32 27)) → b'.colRaw y = b.colRaw y) ∧
      ∃ regs pillars blus dram marks, b' =
        { b with regs := regs, pillars := pillars, blus := blus, dram := dram, spareMarks := marks })) ∧
  ((∀ (p : PillarId) (w : DWord) (x : WordIn) (b : Block), Sends b (.select p w) x → wCmd w = 0x06 →
    ∃ b', Gives (.select p w) b b' ∧ WordSent b b' x ∧
      (b'.pillar p).sel = { dies := wf w 42 26, lo := wf w 50 43, hi := wf w 58 51 } ∧
      (∀ d d', Takes b p w d → bit (wf w 42 26) d = true → Wakes b p d d' → b'.fld (rDie p d') 5 5 = 0) ∧
      ∃ regs pillars, b' = { b with regs := regs, pillars := pillars }) ∧
  (∀ (p : PillarId) (w : DWord) (x : WordIn) (b : Block), wCmd w = 0x07 ∨ wCmd w = 0x08 →
    let i := if wCmd w = 0x07 then Instr.pde p w else .pdx p w
    Sends b i x → ∃ b', Gives i b b' ∧ WordSent b b' x ∧
      (∀ d d', Takes b p w d → wCmd w = 0x07 → d' < 17 → d' / 4 = d / 4 → b'.fld (rDie p d') 5 5 = 1) ∧
      (∀ d d', Takes b p w d → wCmd w = 0x08 → Wakes b p d d' → b'.fld (rDie p d') 5 5 = 0) ∧
      RegsIn (fun a => a = rP p 0x140 ∨ ∃ d d', Takes b p w d ∧ d' < 17 ∧ d' / 4 = d / 4 ∧ a = rDie p d') b b' ∧
      ∃ regs pillars, b' = { b with regs := regs, pillars := pillars }) ∧
  (∀ (p : PillarId) (w : DWord) (x : WordIn) (b : Block), Sends b (.idrd p w) x → wCmd w = 0x09 →
    ∃ b', Gives (.idrd p w) b b' ∧ WordSent b b' x ∧
      (∀ d, Takes b p w d → ∃ v, (b'.pillar p).identity = some v ∧ bits v.toNat 15 0 = 0x5A17 ∧ bits v.toNat 20 16 = d) ∧
      (∀ d d', Takes b p w d → Wakes b p d d' → b'.fld (rDie p d') 5 5 = 0) ∧
      RegsIn (fun a => a = rP p 0x140 ∨ ∃ d d', Takes b p w d ∧ d' < 17 ∧ d' / 4 = d / 4 ∧ a = rDie p d') b b' ∧
      ∃ regs pillars free, b' = { b with regs := regs, pillars := pillars, free := free }) ∧
  (∀ (p : PillarId) (w : DWord) (t : BitVec 8) (x : WordIn) (b : Block), Sends b (.tmrd p w t) x → wCmd w = 0x0A →
    ∀ d, Takes b p w d →
    ∃ b', Gives (.tmrd p w t) b b' ∧ WordSent b b' x ∧ b'.fld (rDie p d) 17 10 = t.toNat ∧
      b'.fld (rDie p d) 4 4 = (if 85 < t.toNat then 1 else if t.toNat < 83 then 0 else b.fld (rDie p d) 4 4) ∧
      b'.fld (rDie p d) 3 0 = b.fld (rDie p d) 3 0 ∧ t.toNat ≤ b'.fld (rEv 0xB0) 15 8 ∧
      (95 ≤ t.toNat → b'.beat.tripDue = true) ∧ ∃ regs pillars beat, b' =
        { b with regs := regs, pillars := pillars, beat := beat }) ∧
  (∀ (p : PillarId) (w : DWord) (x : WordIn) (b : Block), Sends b (.rsync p w) x → wCmd w = 0x0B →
    b.sendsTo p (wDie w) = true →
    ∃ b', Gives (.rsync p w) b b' ∧ WordSent b b' x ∧
      (b'.pillar p).discarding = (b.pillar p).discarding.filter (fun d => d != wDie w) ∧
      ∃ regs pillars, b' = { b with regs := regs, pillars := pillars })) ∧
  (∀ (i : Instr) (x : WordIn) (b : Block), wordOf i = some x → WellFormed i = true → Leaves b x →
    ((b.pillar x.pillar).arm = none → (badWord x.word = true ∨ wCmd x.word = 0x18) →
      ∃ b', Gives i b b' ∧
        (∀ d ∈ wordDies x.word (b.pillar x.pillar).sel, b.sendsTo x.pillar d = true →
          (b'.pillar x.pillar).discarding.contains d = true) ∧
        ∃ regs pillars, b' = { b with regs := regs, pillars := pillars }) ∧
    (∀ a, (b.pillar x.pillar).arm = some a →
      ¬(wCmd x.word = 0x18 ∧ sameTarget a x.word = true ∧ badWord x.word = false) → wCmd x.word ≠ 0x0B →
      ∃ b', Gives i b b' ∧ ∀ d ∈ wordDies a (b.pillar x.pillar).sel, b.sendsTo x.pillar d = true →
        (b'.pillar x.pillar).discarding.contains d = true))

/-- R89, R90, R96, R288, R298: ARM waits for its ARMX, which binds the operation and clears its accumulators in every
unit that is free for it, an urgent one over a normal operation whose RUN stops or whose accumulators go to the
shadows; FEED fills the latch its word names or the accumulators; a unit in any other state refuses with CMD_SEQ. R89,
R103, R105 to R108: RUN that has read nothing yet starts in its lane; PARK and a stop at a column boundary keep the
accumulators in the shadows and the RUN, with its parity, as the checkpoint; RESUME takes both back; an urgent RUN that
stops keeps its own checkpoint and gives the lit token up. -/
def Obligations.BankLaneUnitsRun : Prop :=
  ((∀ (p : PillarId) (w : DWord) (x : WordIn) (b : Block), Sends b (.arm p w) x → wCmd w = 0x10 →
    UnitsBecome (.arm p w) x b (fun _ u => u)) ∧
  (∀ (p : PillarId) (a w : DWord) (x : WordIn) (b : Block), Sends b (.armx p w) x → (b.pillar p).arm = some a →
    (wLane w = 1 → AccsRead b p w (fun u => u.run ≠ none ∨ u.st = 2)) →
    let o := bluOpOf a w
    UnitsBecome (.armx p w) x b (fun d u =>
      if b.offline p d = true then u.refused
      else if wLane w = 0 then
        (if u.st = 1 then { u with
          op := some o, acc := zeroAcc, st := 2, sent := 0
          latch := if o.form = 2 then latchZero u.latch o.sums else u.latch }
         else u.refused)
      else if u.uop.isSome then u.refused
      else
        let v := if u.run.isSome then u.yields (.port 8)
          else if u.st = 2 then { u with shadow := u.acc, ckptValid := true } else u
        { v with
          uop := some o, uhalt := false, udrain := false, usent := 0, acc := zeroAcc
          refOwed := decide (7 ≤ u.debt ∧
            u.refiAt + (if b.fld (rDie p d) 4 4 = 1 then 31250 else 62500) ≤ b.cycle + 7008)
          ulatch := if o.form = 2 then latchZero u.ulatch o.sums else u.ulatch })) ∧
  (∀ (p : PillarId) (w : DWord) (data : List Column) (x : WordIn) (b : Block), Sends b (.feed p w data) x →
    wCmd w = 0x11 → data.length = wf w 41 35 + 1 → UnitsBecome (.feed p w data) x b (fun d u =>
      if b.offline p d = true then u.refused
      else if wf w 27 26 = 0 then
        (if wLane w = 0 ∧ (u.st = 1 ∨ u.st = 2) then { u with latch := latchFeed u.latch 1024 (32 * wf w 34 28) data }
         else u.refused)
      else if wf w 27 26 = 1 then
        (if wLane w = 1 ∧ u.uop.isSome = true ∧ u.uhalt = false then
          { u with ulatch := latchFeed u.ulatch 128 (32 * wf w 34 28) data }
         else u.refused)
      else match u.laneOp (wLane w) with
        | none => u.refused
        | some o =>
          if o.form = 2 ∧ (wLane w = 0 → u.st = 2 ∧ u.uop = none) ∧ (wLane w = 1 → u.uhalt = false) then
            { u with acc := probWords o.act (data.headD 0#256) }
          else u.refused))) ∧
  ((∀ (p : PillarId) (w : DWord) (data : List Column) (x : WordIn) (b : Block), Sends b (.run p w data 0) x →
    wCmd w = 0x12 → data.length = runData w → UnitsBecome (.run p w data 0) x b (fun d u =>
      match u.laneOp (wLane w) with
      | none => u.refused
      | some o =>
        match u.rowsFor o w with
        | none => u.refused
        | some rows =>
          if b.offline p d = false ∧ u.acceptsRun (wLane w) = true ∧ (wf w 27 26 = 0 ↔ o.form ≤ 2) then
            u.startRun (wLane w) o w data rows
          else u.refused)) ∧
  (∀ (p : PillarId) (w : DWord) (x : WordIn) (b : Block), Sends b (.park p w) x → wCmd w = 0x13 →
    AccsRead b p w (fun u => u.run ≠ none) →
    UnitsBecome (.park p w) x b (fun d u =>
      if b.offline p d = true ∨ u.st ≠ 3 ∨ wLane w ≠ 0 then u.refused
      else match u.run with
        | none => u
        | some r => { u with
            shadow := u.acc, ckptValid := true, ckpt := some r, ckptPar := r.parity, run := none, st := 4 })) ∧
  (∀ (p : PillarId) (w : DWord) (x : WordIn) (b : Block), Sends b (.resume p w 0) x → wCmd w = 0x14 →
    (∀ d k, TakesBank b p w d k → (b.blu (bankKey p d k)).shadow.all ResWord.ok = true) →
    UnitsBecome (.resume p w 0) x b (fun d u =>
      if b.offline p d = true ∨ u.st ≠ 4 ∨ u.uop.isSome = true ∨ wLane w ≠ 0 then u.refused
      else match u.ckpt with
        | none => u
        | some r => { u with acc := u.shadow, ckptValid := false, ckpt := none, run := some r, st := 3 })) ∧
  (∀ (p : PillarId) (d : DieId) (k : BankId) (r : BluRun) (b : Block),
    let x := bankKey p d k
    ((b.blu x).run = some r → (b.blu x).acc.all ResWord.ok = true → ∃ b', Gives (.columnBoundaryStop p d k) b b' ∧
      b'.blu x = { b.blu x with
        shadow := (b.blu x).acc, ckptValid := true, ckpt := some r, ckptPar := r.parity, run := none, st := 4 } ∧
      (∀ y, y ≠ x → b'.blu y = b.blu y) ∧ ∃ blus, b' = { b with blus := blus }) ∧
    ((b.blu x).urun = some r → ∃ b', Gives (.urgentRunStop p d k) b b' ∧
      b'.blu x = { b.blu x with uckpt := some r, uckptPar := r.parity, urun := none, lit := false, litBy := none } ∧
      (∀ y, y ≠ x → b'.blu y = b.blu y) ∧ ∃ blus, b' = { b with blus := blus })))

/-- R76, R77, R94, R98, R99, R102, R126, R127: a RUN of a BV operation sweeps its columns one after another: where the
next column and, for NB4, its row's scale columns decode clean and every word it reads agrees with its residue, the
row's end is that of the unit with that one column committed. A dot form adds to each vector slot's accumulator the
sum of the column's products, the first exactly and each later one rounded, times the block scale in the tiled form;
an accumulate form adds each element's product with its probability into the latch; padding and records out of range
add nothing. An arithmetic mismatch commits nothing of the column, is counted and halts the lane. -/
def Obligations.ColumnsAreSwept : Prop :=
  ∀ (p : PillarId) (d : DieId) (k : BankId) (lane : Lane) (r : BluRun) (o : BluOp) (v c0 c1 c2 : Column) (b : Block),
    let x : BankAt := ⟨p, d, k⟩
    let u := b.bluAt x
    let l := u.laneLatch lane.num
    let clean := fun (row col : Nat) (y : Column) => colDecode (b.colRaw (colKey p d k row col)) row col = .clean y
    let slot := 3 * (wf r.word 47 35 % 21)
    b.pillarOn p = true → u.laneRun lane.num = some r → u.laneOp lane.num = some o → o.form ≤ 2 →
    wf r.word 27 26 = 0 → r.col < 64 → u.mayRun lane.num r = true → clean r.row r.col v →
    (o.weight = .nb4 → clean r.row1 slot c0 ∧ clean r.row1 (slot + 1) c1 ∧ clean r.row1 (slot + 2) c2) →
    (∀ j, (l.get noWord j).ok = true) → (∀ a : Nat, ((u.acc[a]?).getD {}).ok = true) →
    let rec_ := r.col / o.recCols
    let h := 2 ^ o.geom
    let e0 := if o.form = 0 then r.col % (64 / h) * o.perCol else r.col % o.recCols * o.perCol
    let a0 := if o.form = 0 then r.col * h / 64 * o.nv else (rec_ * o.ns + e0 / max 1 o.segLen) * o.nv
    let ws := if o.form = 0 then (o.weights v).take (o.realElems (b.tileLimit x o r) r.col) else o.weights v
    let live := if o.form = 0 then !ws.isEmpty else decide (wf r.word 51 48 ≤ rec_ ∧ rec_ ≤ wf r.word 55 52)
    (u.slip = false → ∃ acc latch err,
      let u1 := { u with acc := acc, err := err }.setRun lane.num (some { r with col := r.col + 1 })
      let u1 := if lane = .normal then { u1 with latch := latch } else { u1 with ulatch := latch }
      (∀ q, exec (.rowEnd p d k lane) ⟨q, b⟩ = exec (.rowEnd p d k lane) ⟨q, b.setBlu (bankKey p d k) u1⟩) ∧
      (o.form ≤ 1 → latch = l ∧ ∀ a : Nat, acc[a]? =
        if live = true ∧ a0 ≤ a ∧ a < a0 + o.nv ∧ a < u.acc.length then
          let sum := (dotPartial (List.zip ws (o.acts l (wf r.word 34 28) (a - a0) e0)) none 0#6).1
          let sum := if o.form = 0 ∧ o.weight = .nb4 then (fmul32 sum (blockScale [c0, c1, c2] r.col).t).1 else sum
          some (resWord (fadd32 ((u.acc[a]?).getD {}).fval sum).1.bits32)
        else u.acc[a]?) ∧
      (o.form = 2 → acc = u.acc ∧
        (live = true → ∀ (n e : Nat) (w : FVal), n < o.nv → ws[e]? = some w →
          let j := n * o.recElems + (e0 + e)
          latch.get noWord j = resWord (fadd32 (l.get noWord j).fval (w.mul ((u.acc[a0 + n]?).getD {}).fval).1).1.bits32) ∧
        ∀ j, (live = true → ∀ n e, n < o.nv → e < ws.length → j ≠ n * o.recElems + (e0 + e)) →
          latch.get noWord j = l.get noWord j)) ∧
    (u.slip = true → ∃ b', Gives (.rowEnd p d k lane) b b' ∧
      let u' := b'.bluAt x
      u'.laneRun lane.num = none ∧ u'.latch = u.latch ∧ u'.ulatch = u.ulatch ∧ u'.acc = zeroAcc ∧
      u'.rescnt = min (u.rescnt + 1) 0xFFFFFFFF ∧ u'.last = r.row + r.col <<< 13 + 3 <<< 19 ∧ b'.dram = b.dram ∧
      (if lane = .normal then u'.st = 6 else u'.uhalt = true))

/-- R89, R103, R104, R111: ROW_END of a RUN whose columns have all been read moves its outputs into the drain buffer in
ascending order, clears the accumulators of the dot forms, frees its lane and counts in its operation; an append's
columns that were still to come are first written to its row with fresh check bits. R109, R129: the row's end of a row
utility writes into every column that was still to come of its destination what the utility makes of the pattern, the
source and the old destination, with fresh check bits, and frees the lane. R89, R103, R107: DRAIN puts the sums of an
accumulate form into the drain buffer, as many as its sixteen entries have room for (R87), and ends the lane once none
of its entries is left and no sum is to come; ABORT drops the lane's operation, its entries and its lit token; a unit
in another state refuses DRAIN with CMD_SEQ, and ABORT of an empty lane changes nothing. That ABORT of the urgent lane
gives an ARMED normal operation its accumulators back is the model's choice (log entry 124). -/
def Obligations.RowsEndAndDrain : Prop :=
  ((∀ (p : PillarId) (d : DieId) (k : BankId) (lane : Lane) (r : BluRun) (o : BluOp) (b : Block),
    let u := b.blu (bankKey p d k)
    b.pillarOn p = true → u.laneRun lane.num = some r → u.laneOp lane.num = some o → r.total ≤ r.col →
    (∀ a ∈ o.outputs r.word, ((u.acc[a]?).getD {}).ok = true) →
    ∃ b' lit litBy, Gives (.rowEnd p d k lane) b b' ∧
      b'.blu (bankKey p d k) = { u.setRun lane.num none with
        drain := u.drain ++ (o.outputs r.word).map
          (fun a => drainEntry ((u.acc[a]?).getD {}) (a + (wf r.word 47 35) <<< 4) o.ticket)
        acc := if o.form ≤ 1 then zeroAcc else u.acc, st := if lane = .normal then 2 else u.st
        lit := lit, litBy := litBy } ∧
      (u.litBy ≠ some o.ticket → lit = u.lit ∧ litBy = u.litBy) ∧
      (∀ bo, b.op? o.ticket = some bo →
        let g := b.gbidOf p d k
        b'.op? o.ticket = some { bo with ran := bo.ran.set noRuns g (bo.ran.get noRuns g + 1) }) ∧
      (∀ x, x ≠ bankKey p d k → b'.blu x = b.blu x) ∧ ∃ blus ops, b' = { b with blus := blus, ops := ops }) ∧
  (∀ (p : PillarId) (d : DieId) (k : BankId) (lane : Lane) (r : BluRun) (o : BluOp) (b : Block),
    let u := b.blu (bankKey p d k)
    b.pillarOn p = true → u.laneRun lane.num = some r → u.laneOp lane.num = some o → o.form = 3 →
    wf r.word 27 26 = 2 → u.mayRun lane.num r = true →
    ∃ b', Gives (.rowEnd p d k lane) b b' ∧ (b'.blu (bankKey p d k)).laneRun lane.num = none ∧
      (∀ i, r.col ≤ i → i < wf r.word 39 34 + 1 →
        let v := (r.data[i]?).getD 0#256
        let col := wf r.word 33 28 + i
        b'.colRaw (colKey p d k r.row col) = packCol v (colCheck v r.row col)) ∧
      (∀ x, (∀ i, r.col ≤ i → i < wf r.word 39 34 + 1 → x ≠ colKey p d k r.row (wf r.word 33 28 + i)) →
        b'.colRaw x = b.colRaw x))) ∧
  (∀ (p : PillarId) (d : DieId) (k : BankId) (lane : Lane) (r : BluRun) (o : BluOp) (sv dv : Nat → Column) (b : Block),
    let u := b.blu (bankKey p d k)
    let op := wf r.word 30 28
    let dest := if wf r.word 31 31 = 1 then r.row else r.row1
    b.pillarOn p = true → u.laneRun lane.num = some r → u.laneOp lane.num = some o → o.form = 3 →
    wf r.word 27 26 = 1 → u.mayRun lane.num r = true →
    (∀ i, r.col ≤ i → i < 64 →
      (op ≠ 0 → colDecode (b.colRaw (colKey p d k r.row i)) r.row i = .clean (sv i)) ∧
      (2 < op → colDecode (b.colRaw (colKey p d k dest i)) dest i = .clean (dv i))) →
    ∃ b', Gives (.rowEnd p d k lane) b b' ∧ (b'.blu (bankKey p d k)).laneRun lane.num = none ∧
      (∀ i, r.col ≤ i → i < 64 →
        let v := utilColumn op (r.data.headD 0#256) (sv i) (dv i)
        b'.colRaw (colKey p d k dest i) = packCol v (colCheck v dest i)) ∧
      (∀ x, (∀ i, r.col ≤ i → i < 64 → x ≠ colKey p d k dest i) → b'.colRaw x = b.colRaw x)) ∧
  ((∀ (p : PillarId) (w : DWord) (x : WordIn) (b : Block), Sends b (.drain p w) x → wCmd w = 0x15 →
    ShadowsRead b p w →
    (∀ d k o, TakesBank b p w d k → (b.blu (bankKey p d k)).laneOp (wLane w) = some o → o.form = 2 →
      ∀ i, i < o.sums → (((b.blu (bankKey p d k)).laneLatch (wLane w)).get noWord i).ok = true) →
    ∃ b', Gives (.drain p w) b b' ∧ WordSent b b' x ∧
      UnitsTo p w b b' (fun d u =>
        match u.laneOp (wLane w) with
        | none => u.refused
        | some o =>
          if b.offline p d = false ∧ (wLane w = 0 → u.st = 2) ∧
              (wLane w = 1 → u.urun = none ∧ u.uckpt = none ∧ u.uhalt = false ∧ u.udrain = false) then
            let n := if o.form = 2 then min o.sums (16 - u.drain.length) else 0
            let out := (List.range n).map (fun i => drainEntry ((u.laneLatch (wLane w)).get noWord i) i o.ticket)
            let v := if wLane w = 0 then { u with drain := u.drain ++ out, st := 5, sent := n }
              else { u with drain := u.drain ++ out, udrain := true, usent := n }
            if v.drain.any (fun e => wf e 63 52 == o.ticket) = true ∨ (o.form = 2 ∧ n < o.sums) then v
            else v.ends (wLane w)
          else u.refused) ∧
      (∀ t, (∀ d k o, TakesBank b p w d k → (b.blu (bankKey p d k)).laneOp (wLane w) = some o → o.ticket ≠ t) →
        b'.op? t = b.op? t) ∧
      ∃ regs pillars blus ops evlog orderEvents, b' = { b with
        regs := regs, pillars := pillars, blus := blus, ops := ops, evlog := evlog, orderEvents := orderEvents }) ∧
  (∀ (p : PillarId) (w : DWord) (x : WordIn) (b : Block), Sends b (.abort p w) x → wCmd w = 0x16 →
    ShadowsRead b p w →
    ∃ b', Gives (.abort p w) b b' ∧ WordSent b b' x ∧
      UnitsTo p w b b' (fun d u =>
        if b.offline p d = true then u.refused
        else match u.laneOp (wLane w) with
          | none => u
          | some o =>
            let v := { u with drain := u.drain.filter (fun e => wf e 63 52 != o.ticket) }
            (if u.litBy = some o.ticket then { v with lit := false, litBy := none } else v).ends (wLane w)) ∧
      (∀ d k o, TakesBank b p w d k → b.offline p d = false →
        (b.blu (bankKey p d k)).laneOp (wLane w) = some o →
        ∀ bo, b'.op? o.ticket = some bo → bo.ended.contains (b.gbidOf p d k) = true) ∧
      ∃ regs pillars blus ops evlog orderEvents, b' = { b with
        regs := regs, pillars := pillars, blus := blus, ops := ops, evlog := evlog, orderEvents := orderEvents }))

/-- R483, R484, R494: a unit takes STEST in step TEST of a Dawn while it is OFFLINE or IDLE on a die that is not ABSENT:
it records that it was tested and keeps its first failing test; only the test rows of its bank and its latch change,
to values the spec leaves open (log entry 23); in every other state it refuses with CMD_SEQ. R301 to R303: the alert
of a die that fails a word is counted, and either every word from that one on that addresses the die is sent again to
it (whichever of them are spoilt again: log entry 25), or, at the limit, the die is UNRESP; an RD without an answer
makes its die UNRESP at once, and every bank operation with a bank there faults; an entry that no die failed returns. -/
def Obligations.SelfTestAndReplay : Prop :=
  (∀ (p : PillarId) (w : DWord) (pass : Bool) (i : WordIn) (b : Block), Sends b (.stest p w pass) i → wCmd w = 0x17 →
    let accepts := fun d k : Nat => b.fld (rMc 0x10) 3 0 = 6 ∧ b.life = .dawn ∧ b.dieState p d ≠ 1 ∧
      (b.offline p d = true ∨ (b.blu (bankKey p d k)).st = 1)
    ∃ b', Gives (.stest p w pass) b b' ∧ WordSent b b' i ∧
      (∀ d k, TakesBank b p w d k →
        let u := b.blu (bankKey p d k)
        (¬accepts d k → b'.blu (bankKey p d k) = u.refused) ∧
        (accepts d k → ∃ latch, b'.blu (bankKey p d k) = { (
          if u.tested = true ∧ u.passed = false then u
          else if pass then { u with tested := true, passed := true }
          else { u with tested := true, passed := false, firstFail := wf w 29 26 }) with latch := latch })) ∧
      (∀ x, (∀ d k, TakesBank b p w d k → x ≠ bankKey p d k) → b'.blu x = b.blu x) ∧
      (∀ x, (∀ d k row col, TakesBank b p w d k → row = 6142 ∨ row = 6143 → col < 64 → x ≠ colKey p d k row col) →
        b'.colRaw x = b.colRaw x) ∧
      b'.queues = b.queues ∧ b'.ops = b.ops ∧ b'.scratch = b.scratch) ∧
  ((∀ (p : PillarId) (d : DieId) (e : Shadow) (rest : List Shadow) (spoilt : List Bool) (b : Block),
    let ring := (b.pillar p).ring
    let n := e.fails.get noFails d + 1
    b.pillarOn p = true → b.sendsTo p d = true → (b.pillar p).discarding.contains d.val = true →
    ring.dropWhile (fun x => !(x.failed.contains d.val)) = e :: rest →
    (n < b.fld (rP p 0x128) 2 0 → ∃ b', Gives (.parityAlert p d spoilt) b b' ∧
      b'.rn (rP p 0x120) = min (b.rn (rP p 0x120) + 1) 0xFFFFFFFF ∧
      (let sent := (e :: rest).filter (fun x => (wordDies x.word x.sel).contains d.val)
       sent ≠ [] → b'.rn (rP p 0x124) = min (b.rn (rP p 0x124) + sent.length) 0xFFFFFFFF)) ∧
    (b.fld (rP p 0x128) 2 0 ≤ n → ∃ b', Gives (.parityAlert p d spoilt) b b' ∧ b'.unresp p d = true ∧
      b'.rn (rP p 0x120) = min (b.rn (rP p 0x120) + 1) 0xFFFFFFFF ∧ b'.blus = b.blus ∧ b'.dram = b.dram)) ∧
  (∀ (p : PillarId) (d : DieId) (b : Block), b.pillarOn p = true → b.unresp p d = false →
    let sent := ∃ e ∈ (b.pillar p).ring, wCmd e.word = 0x03 ∧ d.val ∈ wordDies e.word e.sel
    (¬sent → Gives (.rdTimeout p d) b b) ∧
    (sent → ∃ b', Gives (.rdTimeout p d) b b' ∧ b'.unresp p d = true ∧ b'.blus = b.blus ∧ b'.dram = b.dram ∧
      (∀ t o, b'.op? t = some o → o.stage = .committed ∨ o.stage = .faulted ∨
        ∀ g ∈ o.banks, ¬((b.physBank g).1 = p.val ∧ (b.physBank g).2.1 = d.val)))) ∧
  (∀ (p : PillarId) (t : BitVec 6) (b : Block), ∃ b', Gives (.shadowEntryReturn p t) b b' ∧
    (b'.pillar p).ring = (b.pillar p).ring.filter (fun e => e.tag != t.toNat || !(e.failed.isEmpty)) ∧
    (∀ p', p' ≠ p.val → b'.pillar p' = b.pillar p') ∧ ∃ pillars, b' = { b with pillars := pillars }))

/-- R295 to R300, R303: a refresh interval raises a bank's debt to 8 at most, and at 4 wakes its powered-down die group,
whose owing banks are then refreshed; a temperature poll takes the reading of every die words are sent to; the page
timer closes a buffer that no RUN uses and whose row was opened under the timer policy; an idle group powers down. -/
def Obligations.RefreshAndPowerDown : Prop :=
  (∀ (p : PillarId) (d : DieId) (k : BankId) (b : Block), b.pillarOn p = true → b.dieState p d ≠ 5 →
    let x := bankKey p d k
    let n := min ((b.blu x).debt + 1) 8
    let ticked := fun y : Nat => if y = x then { b.blu x with debt := n, refiAt := b.cycle } else b.blu y
    let inGroup := fun y : Nat => y / 256 / 17 = p.val ∧ y / 256 % 17 / 4 = d.val / 4
    let wakes := 4 ≤ n ∧ b.groupDown p (d.val / 4) = true ∧ b.spareRests p (d.val / 4) = false
    (wakes → ∀ y, inGroup y → (b.blu y).run = none) →
    ∃ b', Gives (.refreshDebtTick p d k) b b' ∧ b'.fld (rP p 0x104) 3 0 = max (b.fld (rP p 0x104) 3 0) n.toNat ∧
      (b.unresp p d = true → b'.rn (rP p 0x110) = min (b.rn (rP p 0x110) + 1) 0xFFFFFFFF) ∧
      (∀ y, (¬wakes ∨ ¬inGroup y) → b'.blu y = ticked y) ∧
      (wakes → (∀ d' : DieId, d'.val / 4 = d.val / 4 → b'.fld (rDie p d') 5 5 = 0) ∧
        ∀ y, inGroup y → b'.blu y =
          if b.sendsTo p (y / 256 % 17) = true ∧ 1 ≤ (ticked y).debt then { ticked y with
            rb0 := none, rb1 := none, ptr := ((ticked y).ptr + 1) % 768, debt := (ticked y).debt - 1
            refUntil := b.cycle + 180, refOwed := false }
          else ticked y) ∧
      ∃ regs blus, b' = { b with regs := regs, blus := blus }) ∧
  (∀ (p : PillarId) (temps : List (BitVec 8)) (b : Block), b.pillarOn p = true → temps.length = 17 →
    ∃ b', Gives (.dieTempPoll p temps) b b' ∧
      (∀ (d : DieId) t, temps[d.val]? = some t → b.sendsTo p d = true → b'.fld (rDie p d) 17 10 = t.toNat ∧
        b'.fld (rDie p d) 4 4 = (if 85 < t.toNat then 1 else if t.toNat < 83 then 0 else b.fld (rDie p d) 4 4)) ∧
      (∀ d : DieId, b.sendsTo p d = false → b'.reg (rDie p d) = b.reg (rDie p d)) ∧
      ∃ regs beat, b' = { b with regs := regs, beat := beat }) ∧
  (∀ (p : PillarId) (d : DieId) (k : BankId) (second : Bool) (b : Block),
    let x := bankKey p d k
    ((b.blu x).timed second = true → (b.blu x).usesBuf second = false →
      ∃ b', Gives (.pageIdleTimeout p d k second) b b' ∧
        b'.blu x = (if second then { b.blu x with rb1 := none } else { b.blu x with rb0 := none }) ∧
        (∀ y, y ≠ x → b'.blu y = b.blu y) ∧ ∃ blus, b' = { b with blus := blus }) ∧
    (((b.blu x).timed second = false ∨ (b.blu x).usesBuf second = true) →
      Gives (.pageIdleTimeout p d k second) b b)) ∧
  (∀ (p : PillarId) (g : Fin 5) (b : Block), b.pillarOn p = true → GroupRests b p g →
    ∃ b', Gives (.dieGroupIdle p g) b b' ∧
      (∀ d : DieId, d.val / 4 = g.val → b'.fld (rDie p d) 5 5 = 1) ∧
      RegsIn (fun a => ∃ d : DieId, d.val / 4 = g.val ∧ a = rDie p d) b b' ∧ ∃ regs, b' = { b with regs := regs })

/-! ### Dies, spares and tables -/

/-- R303 to R305, R310, R311: APPLY is taken only in DELAY; when its identity reads end, each die that answered with
0x5A17 and its own position, and reads its column back right, is initialised and serves, a die that did not is ABSENT,
a recorded spare mapping is in force if the spare answered, and the pillar is in SERVICE with at least one active die,
else EXCLUDED with every die ABSENT; RETRY ends UNRESP only if the die answers. -/
def Obligations.DieInitialisation : Prop :=
  (∀ (r : Requester) (p : PillarId) (b : Block), Accepts b r (rP p 0x180) →
    let b0 := b.dropHeld r
    (b0.fld (rP p 0) 2 0 = 1 → Gives (.dlyctlApply r p) b
      ((b0.onPillar p (fun q => { q with applying := true })).setRn (rP p 0x180) 0)) ∧
    (b0.fld (rP p 0) 2 0 ≠ 1 → Gives (.dlyctlApply r p) b (b0.writeReject (rP p 0x180) 1))) ∧
  (∀ (p : PillarId) (answers : List DieAnswer) (b : Block), (b.pillar p).applying = true → b.fld (rP p 0) 2 0 = 1 →
    answers.length = 17 → (∀ a ∈ answers, a.readBack = 0#288) →
    let map := b.spareMap.get noSpare p
    let ok := fun d : Nat => (answers[d]?).any (fun a =>
      a.identity.any (fun w => w.extractLsb' 0 16 == 0x5A17#16 && (w.extractLsb' 16 5).toNat == d))
    let spared := map.isSome && ok 16
    let alive := spared = true ∨ ∃ d : Nat, d < 16 ∧ map ≠ some d ∧ ok d = true
    ∃ b', Gives (.delayApplied p answers) b b' ∧
      (alive → b'.fld (rP p 0) 2 0 = 3 ∧ b'.fld (rP p 0) 8 8 = b2n spared ∧
        ∀ d : DieId, d.val < 16 → b'.fld (rDie p d) 2 0 =
          if map = some d.val then (if ok 16 then 2 else 1) else if ok d then 0 else 1) ∧
      (alive → b'.fld (rDie p 16) 2 0 = if ok 16 then (if map.isSome then 4 else 3) else 1) ∧
      (¬alive → b'.fld (rP p 0) 2 0 = 4 ∧ ∀ d : DieId, b'.fld (rDie p d) 2 0 = 1) ∧
      (∀ d : DieId, b'.unresp p d = false) ∧
      (∀ (d : DieId) (k : BankId), ok d = true →
        b'.blu (bankKey p d k) = { b.blu (bankKey p d k) with
          rb0 := none, rb1 := none, debt := 0, ptr := 0, refiAt := b.cycle }) ∧
      b'.pillar p = {} ∧ b'.queues = b.queues ∧ b'.scratch = b.scratch) ∧
  (∀ (r : Requester) (p : PillarId) (d : BitVec 5) (answers : Bool) (b : Block), Accepts b r (rP p 0x60) →
    let b0 := b.dropHeld r
    (17 ≤ d.toNat → Gives (.dieRetry r p d answers) b (b0.writeReject (rP p 0x60) (d.toNat + 32))) ∧
    (d.toNat < 17 → b0.unresp p d.toNat = false → Gives (.dieRetry r p d answers) b b0) ∧
    (d.toNat < 17 → b0.unresp p d.toNat = true → ∃ b', Gives (.dieRetry r p d answers) b b' ∧
      b'.unresp p d.toNat = !answers ∧
      (answers = true → (b'.pillar p).discarding = (b0.pillar p).discarding.filter (fun x => x != d.toNat)) ∧
      b'.blus = b0.blus ∧ b'.dram = b0.dram))

/-- R306, R307, R311, R314: an accepted GO starts COPYING with its fields, or sets REASON to the first of the
conditions that refuse it, starts nothing, leaves SPARECTL as it was and logs WRITE_REJECT; reserved field values are
refused whole; CANCEL is accepted in COPYING and FINAL and returns the spare to IDLE. -/
def Obligations.SpareGoAndCancel : Prop :=
  (∀ (r : Requester) (p : PillarId) (die : BitVec 4) (mode : BitVec 2) (share : BitVec 5) (b : Block),
    Accepts b r (rP p 0x190) →
    let b0 := b.dropHeld r
    let legal := mode.toNat < 2 ∧ 1 ≤ share.toNat ∧ share.toNat ≤ 16
    (¬legal → Gives (.spareGo r p die mode share) b (b0.writeReject (rP p 0x190)
      (die.toNat + mode.toNat <<< 4 + share.toNat <<< 6 + 2048))) ∧
    (legal → ∃ b', Gives (.spareGo r p die mode share) b b' ∧
      b'.fld (rP p 0x194) 6 3 =
        (if b0.dieState p 16 = 1 then 2 else if b0.fld (rP p 0x194) 2 0 ≠ 0 then 1
         else if mode.toNat = 0 ∧ (b0.dieState p die.toNat = 1 ∨ b0.unresp p die.toNat = true) then 3
         else if b0.fld (rP p 0) 2 0 ≠ 3 then 4 else 0) ∧
      (b'.fld (rP p 0x194) 6 3 ≠ 0 → b'.fld (rP p 0x194) 2 0 = b0.fld (rP p 0x194) 2 0 ∧
        b'.rn (rP p 0x190) = b0.rn (rP p 0x190) ∧ b'.rn (rEl 0) = (b0.rn (rEl 0) + 1) % 2 ^ 32) ∧
      (b'.fld (rP p 0x194) 6 3 = 0 → b'.fld (rP p 0x194) 2 0 = 1 ∧ b'.fld (rP p 0x190) 3 0 = die.toNat ∧
        b'.fld (rP p 0x190) 5 4 = mode.toNat ∧ b'.fld (rP p 0x190) 10 6 = share.toNat ∧
        (b'.fld (rP p 0x194) 7 7 = 1 ↔ r = .mc) ∧ b'.rn (rP p 0x198) = 0 ∧ b'.rn (rP p 0x19C) = 0 ∧
        b'.fld (rDie p 16) 5 5 = 0) ∧
      b'.dram = b0.dram ∧ b'.blus = b0.blus ∧ b'.queues = b0.queues)) ∧
  (∀ (r : Requester) (p : PillarId) (b : Block), Accepts b r (rP p 0x190) →
    let b0 := b.dropHeld r
    let st := b0.fld (rP p 0x194) 2 0
    b.fld (rP p 0x190) 5 4 < 2 → 1 ≤ b.fld (rP p 0x190) 10 6 → b.fld (rP p 0x190) 10 6 ≤ 16 →
    (st = 1 ∨ st = 2 → ∃ b', Gives (.spareCancel r p) b b' ∧ b'.fld (rP p 0x194) 2 0 = 0 ∧ b'.dram = b0.dram ∧
      b'.rn (rP p 0x190) = b0.rn (rP p 0x190) % 2 ^ 11 ∧ b'.blus = b0.blus ∧
      RegsIn (fun a => a = rP p 0x194 ∨ a = rP p 0x190) b0 b') ∧
    (¬(st = 1 ∨ st = 2) → Gives (.spareCancel r p) b
      (b0.writeReject (rP p 0x190) (b.rn (rP p 0x190) % 2 ^ 11 + 2 ^ 12))))

/-- R307 to R311: the first pass of a copy gives every column of the spare the source column's data with fresh check
bits, or its raw data with poison check bits where it does not decode, and the state is FINAL; FINAL copies the marked
rows again; a fill gives poisoned zeros outside the device area and zeros in it; then, once no bank of the die is busy,
the spare serves its number. -/
def Obligations.SpareSwitchIn : Prop :=
  (∀ (p : PillarId) (b : Block), b.pillarOn p = true → b.fld (rP p 0x194) 2 0 = 1 → b.fld (rP p 0x190) 5 4 = 0 →
    let d := b.fld (rP p 0x190) 3 0
    ∃ b', Gives (.spareCopyPassEnd p) b b' ∧ b'.fld (rP p 0x194) 2 0 = 2 ∧
      (∀ (k : BankId) (row : Fin 6144) (col : Fin 64),
        let raw := b.colRaw (colKey p d k row col)
        b'.colRaw (colKey p 16 k row col) = (match colDecode raw row col with
          | .clean x => packCol x (colCheck x row col)
          | .corrected x => packCol x (colCheck x row col)
          | _ => packCol (BitVec.ofNat 256 (raw.toNat % 2 ^ 256))
              (poisonCheck (BitVec.ofNat 256 (raw.toNat % 2 ^ 256)) row col))) ∧
      (∀ x, (∀ (k : BankId) (row : Fin 6144) (col : Fin 64), x ≠ colKey p 16 k row col) → b'.colRaw x = b.colRaw x)) ∧
  (∀ (p : PillarId) (b : Block), b.pillarOn p = true → b.fld (rP p 0x194) 2 0 = 2 →
    ∃ b', Gives (.spareFinalEnd p) b b' ∧ b'.fld (rP p 0x194) 2 0 = 3 ∧ b'.spareMarks.get noMarks p = [] ∧
      (∀ k : Nat, (∀ (m r : Nat) (col : Fin 64), m ∈ b.spareMarks.get noMarks p → r ∈ markedRows m →
        k ≠ colKey p 16 (r / 8192) (r % 8192) col) → b'.colRaw k = b.colRaw k) ∧
      (∀ (m : Nat) (col : Fin 64), b.spareMarks.get noMarks p = [m] → m ≠ allRows →
        let d := b.fld (rP p 0x190) 3 0
        let raw := b.colRaw (colKey p d (m / 8192) (m % 8192) col)
        b'.colRaw (colKey p 16 (m / 8192) (m % 8192) col) = (match colDecode raw (m % 8192) col with
          | .clean x => packCol x (colCheck x (m % 8192) col)
          | .corrected x => packCol x (colCheck x (m % 8192) col)
          | _ => packCol (BitVec.ofNat 256 (raw.toNat % 2 ^ 256))
              (poisonCheck (BitVec.ofNat 256 (raw.toNat % 2 ^ 256)) (m % 8192) col)))) ∧
  (∀ (p : PillarId) (b : Block), b.pillarOn p = true → b.fld (rP p 0x194) 2 0 = 1 → b.fld (rP p 0x190) 5 4 = 1 →
    ∃ b', Gives (.spareFillEnd p) b b' ∧ b'.fld (rP p 0x194) 2 0 = 3 ∧
      (∀ (k : BankId) (row : Fin 6142) (col : Fin 64), b'.colRaw (colKey p 16 k row col) =
        packCol 0#256 (if row.val < 6136 then poisonCheck 0#256 row col else colCheck 0#256 row col)) ∧
      b'.rn (rP p 0x19C) = min (b.rn (rP p 0x19C) + 100532224) 0xFFFFFFFF ∧ b'.blus = b.blus) ∧
  (∀ (p : PillarId) (b : Block), b.pillarOn p = true → b.fld (rP p 0x194) 2 0 = 3 →
    let d := b.fld (rP p 0x190) 3 0
    (b.dieBusy p d = true → Gives (.spareSwitch p) b b) ∧
    (b.dieBusy p d = false → ∃ b', Gives (.spareSwitch p) b b' ∧ b'.fld (rP p 0x194) 2 0 = 4 ∧
      b'.fld (rDie p d) 2 0 = 2 ∧ b'.fld (rDie p 16) 2 0 = 4 ∧ b'.fld (rDie p 16) 9 6 = d ∧
      b'.physDie p d = 16 ∧ b'.fld (rP p 0) 8 8 = 1 ∧ b'.spareMap.get noSpare p = some d ∧
      b'.spareMarks.get noMarks p = [] ∧ (b.spareMarks.get noMarks p = [] → b'.dram = b.dram ∧ b'.blus = b.blus) ∧
      (∀ k : Nat, (∀ (m r : Nat) (col : Fin 64), m ∈ b.spareMarks.get noMarks p → r ∈ markedRows m →
        k ≠ colKey p 16 (r / 8192) (r % 8192) col) → b'.colRaw k = b.colRaw k)))

/-- R114, R313, R243 to R247, R254: BLUCNTCLR and REFSTAT clear the counts they name; a table load begins, or a slot is
emptied, unless a load runs or an issued entry uses the slot, which SFUSTAT then shows; when the image is read, a good
one is VALID and a bad one INVALID with the first failing reason. -/
def Obligations.ClearsAndTableLoads : Prop :=
  (∀ (r : Requester) (p : PillarId) (b : Block), Accepts b r (rP p 0xC18) →
    let b0 := b.dropHeld r
    Gives (.bluCntClr r p) b (b0.setBlu (b0.bluSel p) { b0.blu (b0.bluSel p) with ce := 0, ue := 0, rescnt := 0 })) ∧
  (∀ (r : Requester) (p : PillarId) (b : Block), Accepts b r (rP p 0x104) →
    Gives (.refstatClear r p) b ((b.dropHeld r).setFld (rP p 0x104) 3 0 0)) ∧
  (∀ (r : Requester) (c : CoreId) (n : BitVec 6) (e : Bool) (g : BitVec 13) (load : Bool) (b : Block),
    Accepts b r (rC c 0xF00) →
    let b0 := b.dropHeld r
    let i := if load then Instr.sfuLoad r c n e g else .sfuClear r c n e g
    let v := n.toNat + (b2n e) <<< 8 + g.toNat <<< 9
    let b1 := b0.setRn (rC c 0xF00) v
    (ctrDefined g.toNat = false →
      Gives i b (b0.writeReject (rC c 0xF00) (n.toNat + (if load then 0x40 else 0x80) + (b2n e) <<< 8 + g.toNat <<< 9))) ∧
    (ctrDefined g.toNat = true → (b0.sfuLoads.get noLoad c ≠ none ∨ b0.slotBusy c n.toNat = true) →
      Gives i b (b1.orReg (rC c 0xF08) 0x80)) ∧
    (ctrDefined g.toNat = true → b0.sfuLoads.get noLoad c = none → b0.slotBusy c n.toNat = false →
      ∃ b', Gives i b b' ∧ (b'.sfuSlot c n.toNat).code = (if load then 1 else 0) ∧
        (∀ c' n' : Nat, n' < 64 → (c' ≠ c.val ∨ n' ≠ n.toNat) → b'.sfuSlot c' n' = b0.sfuSlot c' n') ∧
        b'.sfuLoads.get noLoad c = (if load then
          some ⟨n.toNat, b0.rn (rC c 0xF04), if e then some g.toNat else none⟩ else none) ∧
        b'.scratch = b0.scratch)) ∧
  (∀ (c : CoreId) (ld : SfuLoad) (b : Block), b.sfuLoads.get noLoad c = some ld → ld.slot < 64 →
    let im := b.spRead c ld.src 12352
    ∃ b', Gives (.sfuLoadDone c) b b' ∧ b'.sfuLoads.get noLoad c = none ∧
      b'.sfuSlot c ld.slot = { code := if tabReason im = 0 then 2 else 3, image := im } ∧
      (tabReason im ≠ 0 → b'.fld (rC c 0xF08) 16 9 = tabReason im) ∧ b'.scratch = b.scratch ∧
      (∀ c' n' : Nat, n' < 64 → (c' ≠ c.val ∨ n' ≠ ld.slot) → b'.sfuSlot c' n' = b.sfuSlot c' n'))

/-! ### The host edge and the peer switch -/

/-- R340, R479: a fence read on Path M or I is answered with the timestamp after every result-window write that has
reached a port is visible, in the order they came; one on Path D is answered with the timestamp, or 0 while Dawn
lasts. R344 to R348, R355, R357: DETACH orphans an ATTACHED partition and touches no other; REATT through a port is
refused while the partition is locked out, makes an orphaned partition of the right token and a granted port PENDING,
and otherwise counts a refusal, the eighth of which locks it out; the end of the lockout and VIOCLR clear what they
name. -/
def Obligations.FencesAndAttachment : Prop :=
  ((∀ (p : Port) (b : Block), b.portLive p.num = true →
    let t : Block := { b with
      winBuf := b.winBuf.filter (fun w => decide (b.stamp ≤ w.stamp))
      ledger := (b.winBuf.filter (fun w => decide (w.stamp < b.stamp))).foldl
        (fun t w => writeBytes t w.off w.data) b.ledger }
    (b.hasHdm p.num = true →
      Gives (.pathfenceMRead p) b { t with pathM := t.ledger, hostOut := b.hostOut ++ [HostMsg.fence p 0 b.now] }) ∧
    Gives (.pathfenceIRead p) b { t with
      pathM := (b.winBuf.filter (fun w => decide (w.stamp < b.stamp))).foldl (fun t w => writeBytes t w.off w.data) b.pathM
      pathI := t.ledger, hostOut := b.hostOut ++ [HostMsg.fence p 1 b.now] }) ∧
  (∀ (p : Port) (b : Block), b.portLive p.num = true →
    let b0 := b.dropHeld (.port p)
    Gives (.pathfenceDRead p) b
      { b0 with hostOut := b0.hostOut ++ [HostMsg.fence p 2 (if b.life = .dawn then 0 else b.now)] })) ∧
  ((∀ (r : Requester) (k : PartId) (b : Block), Accepts b r (rHi (0x500 + 4 * k)) →
    let b0 := b.dropHeld r
    (b0.attState k ≠ 1 → Gives (.detach r k) b b0) ∧
    (b0.attState k = 1 → ∃ b', Gives (.detach r k) b b' ∧ b'.attState k = 2 ∧
      (∀ j : PartId, j ≠ k → b'.attState j = b0.attState j) ∧
      (∀ it ∈ b0.items, ∃ it' ∈ b'.items, it'.id = it.id ∧ it'.seq = it.seq) ∧ b'.queues = b0.queues)) ∧
  (∀ (p : Port) (token : BitVec 48) (k : PartId) (b : Block), Accepts b (.port p) (rHi 0x540) →
    let b0 := b.dropHeld (.port p)
    let a := b0.att k
    let n := min 8 (a.fails + 1)
    let good := b0.attState k = 2 ∧ a.token = token.toNat ∧ b0.portGranted k p.num = true
    (a.locked = true → Gives (.reatt (.port p) token k) b
      ((b0.setRn (rHi 0x548) (3 + 4 * b0.fld (rHi 0x548) 5 2)).violation p.num 0x08 1 (rHi 0x540))) ∧
    (a.locked = false → good → ∃ b', Gives (.reatt (.port p) token k) b b' ∧ b'.attState k = 3 ∧
      b'.attPort k = p.num ∧ b'.rn (rHi 0x548) = 1 ∧ b'.att k = { a with fails := 0 } ∧
      RegsIn (fun x => x = rHi 0x548 ∨ x = rHi (0x500 + 4 * k)) b0 b' ∧ b'.sessions = b0.sessions) ∧
    (a.locked = false → ¬good → ∃ b', Gives (.reatt (.port p) token k) b b' ∧
      b'.att k = { a with fails := n, locked := decide (8 ≤ n) } ∧ b'.rn (rHi 0x548) = 2 + 4 * n ∧
      b'.attState k = b0.attState k ∧ b'.rn (rHi 0x120) = min (b0.rn (rHi 0x120) + 1) 0xFFFFFFFF)) ∧
  (∀ (k : PartId) (b : Block), ∃ b', Gives (.reattLockoutEnd k) b b' ∧ b'.att k = { b.att k with locked := false } ∧
    (∀ j : PartId, j ≠ k → b'.att j = b.att j) ∧ ∃ attach, b' = { b with attach := attach }) ∧
  (∀ (r : Requester) (b : Block), Accepts b r (rHi 0x148) → ∃ b', Gives (.vioclr r) b b' ∧
    (∀ c, c < 10 → b'.rn (rHi (0x104 + 4 * c)) = 0) ∧
    RegsIn (fun a => ∃ c, c < 10 ∧ a = rHi (0x104 + 4 * c)) (b.dropHeld r) b' ∧
    b' = { b.dropHeld r with regs := b'.regs }))

/-- R317, R320, R345, R348, R349: a link that goes down, by DL_Down, PERST# or a broken secure stream, leaves PORTSTAT
0 and its streams insecure, has the reads outstanding on it asked for again (R200), counts, orphans the partitions
attached or pending there and ends the port's sessions; a hot or function-level reset orphans the attached ones alone;
training that the port's modes allow sets PORTSTAT, and any other does nothing. -/
def Obligations.PortEvents : Prop :=
  (∀ (p : Port) (i : Instr) (b : Block), b.portLive p.num = true →
    (i = .dlDown p ∨ i = .perst p true ∨ (i = .ideIntegrityFailure p ∧ b.ideSecure p.num = true)) →
    ∃ b', Gives i b b' ∧ b'.rn (rHi (0x10 * p.num)) = 0 ∧
      b'.rn (rHi (4 + 0x10 * p.num)) = min (b.rn (rHi (4 + 0x10 * p.num)) + 1) 0xFFFFFFFF ∧
      (∀ k : PartId, b'.attState k = if b.attPort k = p.num ∧ (b.attState k = 1 ∨ b.attState k = 3) then 2
        else b.attState k) ∧
      b'.sessions = b.sessions.filter (fun x => x.port.num != p.num) ∧ b'.ideSecure p.num = false ∧ b'.dram = b.dram ∧
      (∀ k, (b'.queue k).map (fun en => { en with hreads := [], hwrites := [] }) =
        (b.queue k).map (fun en => { en with hreads := [], hwrites := [] })) ∧
      (∀ (c : CoreId) (store : Bool) (lane : Lane), ∀ en ∈ b'.queue (qKey c (eXfer store) lane.num), ∀ r ∈ en.hreads,
        r.port = p.num → r.got = none → r.fail = 0 → r.req = none)) ∧
  (∀ (p : Port) (i : Instr) (b : Block), b.portLive p.num = true → (i = .hotReset p ∨ i = .functionLevelReset p) →
    ∃ b', Gives i b b' ∧ b'.rn (rHi (0x10 * p.num)) = b.rn (rHi (0x10 * p.num)) ∧
      (∀ k : PartId, b'.attState k = if b.attPort k = p.num ∧ b.attState k = 1 then 2 else b.attState k) ∧
      b'.sessions = b.sessions ∧ b'.queues = b.queues ∧ b'.dram = b.dram) ∧
  (∀ (p : Port) (proto : BitVec 2) (gen : BitVec 3) (width : BitVec 5) (b : Block),
    let may := (b.life = .dawn ∨ b.life = .service) ∧ b.domOn (44 + p.num) = true ∧ (p = .ha ∨ b.bifurcated = true) ∧
      width.toNat ∈ [1, 2, 4, 8, 16] ∧ (b.bifurcated = true → width.toNat ≤ 8) ∧ 1 ≤ gen.toNat ∧
      gen.toNat ≤ (if proto.toNat = 1 ∨ proto.toNat = 2 then 5 else 6) ∧
      (proto.toNat ≠ 0 → b.fld (rMc 0x10) 3 0 ≠ 10)
    (¬may → Gives (.linkUp p proto gen width) b b) ∧
    (may → ∃ b', Gives (.linkUp p proto gen width) b b' ∧
      b'.dlUp p.num = true ∧ b'.fld (rHi (0x10 * p.num)) 2 1 = proto.toNat ∧
      b'.fld (rHi (0x10 * p.num)) 5 3 = gen.toNat ∧ b'.fld (rHi (0x10 * p.num)) 10 6 = width.toNat ∧
      b'.fld (rHi (0x10 * p.num)) 11 11 = 0 ∧ (∀ k : PartId, b'.attState k = b.attState k) ∧ b'.queues = b.queues)) ∧
  (∀ (p : Port) (sid : Nat) (key : IdeKey) (b : Block), b.portLive p.num = true → b.hasIde p.num = true →
    (∃ x ∈ b.sessions, x.port = p ∧ x.sid = sid) → ∃ b', Gives (.ideKeyManagement p sid key) b b' ∧
      b'.ideKeys.get noIdeKey (2 * p.num + b2n key.selective) = some key ∧ b'.ideSecure p.num = true ∧
      b'.fld (rHi (0x10 * p.num)) 11 11 = (if key.selective then b.fld (rHi (0x10 * p.num)) 11 11 else 1) ∧
      b'.fld (rHi (0x10 * p.num)) 10 0 = b.fld (rHi (0x10 * p.num)) 10 0 ∧ b'.sessions = b.sessions)

/-- R85, R273, R352 to R354, R438, R439: a message that is not genuine is discarded as VIO_PEER and changes nothing
else; a genuine one is counted, and then: a write stores its elements, or is answered with no payload where its block
is refused; a read request is answered on the path with the block's data, or with none where the block is refused; read
data lands in the transfer that asked for it; and a remote signal is applied to a counter of its own partition and
blocked at any other. -/
def Obligations.PeerMessages : Prop :=
  (∀ (p : Port) (m : PeerMsg) (kind : Nat) (i : Instr) (b : Block),
    (kind, i) ∈ [(0, Instr.peerWrite p m), (1, .peerReadRequest p m), (2, .peerReadData p m), (3, .peerRemoteSignal p m)] →
    b.life = .service → b.dlUp p.num = true → (∀ k, ¬PeerArrives b p kind m k) →
    ∃ b', Gives i b b' ∧ b'.rn (rHi 0x124) = min (b.rn (rHi 0x124) + 1) 0xFFFFFFFF ∧ b'.rxCtr = b.rxCtr ∧
      b'.scratch = b.scratch ∧ b'.ledger = b.ledger ∧ b'.dram = b.dram ∧ b'.queues = b.queues ∧ b'.peerOut = b.peerOut) ∧
  (∀ (p : Port) (m : PeerMsg) (k d : Nat) (cs : List Nat) (b : Block), PeerArrives b p 0 m k →
    b.peerBlock k true m = some d → msgBox m = [cs] → m.payload.length = ceilDiv (dFormat d).size 8 →
    (∀ key hi tail, placeOf d cs = .sp key hi tail → ∃ b', Gives (.peerWrite p m) b b' ∧
      b'.scratch = elemWriteT b.scratch (dFormat d) key hi tail (payloadElem (dFormat d) m.payload 0) ∧
      b'.rxCtr.get noCount (rxKey k m.key m.source m.path) = m.counter.toNat ∧ b'.ledger = b.ledger ∧
      b'.dram = b.dram ∧ b'.queues = b.queues ∧ b'.hostOut = b.hostOut) ∧
    (∀ a hi tail, placeOf d cs = .led a hi tail → ∃ b', Gives (.peerWrite p m) b b' ∧
      b'.ledger = elemWriteT b.ledger (dFormat d) a hi tail (payloadElem (dFormat d) m.payload 0) ∧
      b'.scratch = b.scratch ∧ b'.dram = b.dram ∧ b'.queues = b.queues)) ∧
  (∀ (p : Port) (m : PeerMsg) (k : Nat) (b : Block), PeerArrives b p 0 m k → m.counter.toNat < 2 ^ 32 - 1 →
    b.canSend k m.source = true → b.peerBlock k true m = none →
    ∃ b' x, Gives (.peerWrite p m) b b' ∧ b'.peerOut = b.peerOut ++ [x] ∧ x.kind = 2 ∧ x.dest = m.source.val ∧
      x.msg.request = m.request ∧ x.msg.payload = [] ∧ b'.scratch = b.scratch ∧ b'.ledger = b.ledger ∧
      b'.dram = b.dram ∧ b'.queues = b.queues) ∧
  (∀ (p : Port) (m : PeerMsg) (k : Nat) (b : Block), PeerArrives b p 1 m k → m.counter.toNat < 2 ^ 32 - 1 →
    b.canSend k m.source = true → b.sramBad = [] →
    ((b.peerBlock k false m = none ∨ ∃ d cs key hi tail, b.peerBlock k false m = some d ∧ msgBox m = [cs] ∧ (dFormat d).size = 8 ∧
      placeOf d cs = .sp key hi tail) → ∃ b' x, Gives (.peerReadRequest p m) b b' ∧ b'.peerOut = b.peerOut ++ [x] ∧
      x.kind = 2 ∧ x.dest = m.source.val ∧ x.msg.path = m.core ∧ x.msg.core = m.path ∧ x.msg.request = m.request ∧
      (b.peerBlock k false m = none → x.msg.payload = []) ∧
      (∀ d cs key hi tail, b.peerBlock k false m = some d → msgBox m = [cs] → placeOf d cs = .sp key hi tail →
        x.msg.payload = [b.scratch.get byteZero key]) ∧
      b'.scratch = b.scratch ∧ b'.ledger = b.ledger ∧ b'.dram = b.dram ∧ b'.queues = b.queues)) ∧
  (∀ (p : Port) (m : PeerMsg) (k i : Nat) (en : Entry) (r : PeerRead) (b : Block), PeerArrives b p 2 m k →
    (b.queue (qKey m.core 4 0)).findIdx? (Entry.peerAsks m.request) = some i →
    (b.queue (qKey m.core 4 0))[i]? = some en → en.preads.find? (fun x => x.request == m.request) = some r →
    en.left = 0 → en.late = none → en.hreads = [] → en.hwrites = [] → en.psends = [] →
    m.payload ≠ [] → ∃ b', Gives (.peerReadData p m) b b' ∧
      b'.scratch = (b.land en.esize m.payload r.elems).scratch ∧
      (b'.queue (qKey m.core 4 0))[i]? = some { en with preads := en.preads.filter (fun x => x.request != m.request) } ∧
      (∀ j, j ≠ qKey m.core 4 0 → b'.queue j = b.queue j) ∧ b'.ledger = b.ledger ∧ b'.dram = b.dram) ∧
  (∀ (p : Port) (m : PeerMsg) (k n amount : Nat) (b : Block), PeerArrives b p 3 m k → m.counter.toNat < 2 ^ 32 - 1 →
    m.coords = [n, amount] →
    (b.ctrOwner n = some k → b.ctrMode n = 0 → b.ctrValue n + amount ≤ b.ctrCap n → b.nwait n = 0 →
      ∃ b', Gives (.peerRemoteSignal p m) b b' ∧ b'.ctrValue n = b.ctrValue n + amount ∧
        b'.rn (rCtr n + 8) = sigRecord { kind := 4, unit := m.source.val } amount ∧
        RegsIn (fun a => a = rCtr n ∨ a = rCtr n + 8) b b') ∧
    (b.ctrOwner n ≠ some k → ∃ b', Gives (.peerRemoteSignal p m) b b' ∧
      b'.rn (rSy 0x10004) = min (b.rn (rSy 0x10004) + 1) 0xFFFFFFFF ∧ ∀ j, b'.ctrValue j = b.ctrValue j))

/-! ### Security -/

/-- R428, R430 to R432: a session opens while its port holds fewer than four; its responder answers blocks 1 to 6,
gives a partition's report to its tenant or the administrator and remembers what it returned; a session's end returns
the PENDING partitions of its port to ORPHANED, and a report that is not acknowledged in time fails the check. R429: an
Aqast message is judged in order: without mutual authentication UnexpectedRequest, during Dawn status 2, malformed
status 3, without its role status 1, and none of these changes anything but, for ATTEST_ACK without its role, a PENDING
partition, which is ORPHANED again (R348). -/
def Obligations.SessionsAndMessages : Prop :=
  ((∀ (p : Port) (key : BitVec 384) (auth : Bool) (b : Block), b.responds p.num = true →
    let n := (b.sessions.filter (fun x => x.port == p)).length
    (4 ≤ n → Gives (.keyExchange p key auth) b { b with spdmOut := b.spdmOut ++ [.error p .sessionLimitExceeded] }) ∧
    (n < 4 → ∃ b', Gives (.keyExchange p key auth) b b' ∧ b'.nextSid = b.nextSid + 1 ∧
      b'.sessions = b.sessions ++ [⟨p, b.nextSid, key, auth, [], []⟩] ∧
      b'.spdmOut = b.spdmOut ++ [.opened p b.nextSid] ∧ b'.rn (rEl 0) = (b.rn (rEl 0) + 1) % 2 ^ 32)) ∧
  (∀ (p : Port) (sid : Nat) (n : BitVec 8) (x : Session) (b : Block), b.responds p.num = true →
    b.session? p sid = some x →
    (1 ≤ n.toNat → n.toNat ≤ 6 → Gives (.getMeasurements p sid n) b
      { b with spdmOut := b.spdmOut ++ [.block p sid n.toNat (leBytes (b.fwDigest (n.toNat - 1)) 48)] }) ∧
    (∀ k : PartId, n.toNat = 0x40 + k.val →
      ((b.isAdmin x || b.isTenant x k) = true → ∃ b', Gives (.getMeasurements p sid n) b b' ∧
        b'.spdmOut = b.spdmOut ++ [.block p sid n.toNat (b.report k)] ∧
        (∃ x' ∈ b'.sessions, x'.sid = sid ∧
          x'.reports = x.reports ++ [⟨k.val, Config.sha384 (b.report k), b.cycle⟩] ∧ x'.passed = x.passed) ∧
        b' = { b with sessions := b'.sessions, spdmOut := b'.spdmOut }) ∧
      ((b.isAdmin x || b.isTenant x k) = false →
        Gives (.getMeasurements p sid n) b { b with spdmOut := b.spdmOut ++ [.error p .unsupportedRequest] }))) ∧
  (∀ (p : Port) (sid : Nat) (b : Block),
    (b.session? p sid = none → Gives (.sessionEnd p sid) b b) ∧
    (∀ x, b.session? p sid = some x → ∃ b', Gives (.sessionEnd p sid) b b' ∧
      b'.sessions = b.sessions.filter (fun x => x.sid != sid) ∧
      (∀ k : PartId, b'.attState k = if b.attState k = 3 ∧ b.attPort k = p.num then 2 else b.attState k) ∧
      b'.attach = b.attach ∧ b'.queues = b.queues)) ∧
  (∀ (p : Port) (sid : Nat) (k : PartId) (x : Session) (b : Block), b.session? p sid = some x →
    (x.reports.any (fun r => r.part == k.val) = false → Gives (.attestAckExpiry p sid k) b b) ∧
    (x.reports.any (fun r => r.part == k.val) = true → ∃ b', Gives (.attestAckExpiry p sid k) b b' ∧
      b'.attState k = (if b.attState k = 3 ∧ b.attPort k = p.num then 2 else b.attState k) ∧
      (∀ y ∈ b'.sessions, y.sid = sid → y.reports.any (fun r => r.part == k.val) = false) ∧
      b'.rn (rEl 0) = (b.rn (rEl 0) + 1) % 2 ^ 32))) ∧
  (∀ (i : Instr) (a : AqastRow) (x : Session) (b : Block), aqastOf b i = some a → b.responds a.port.num = true →
    b.session? a.port a.sid = some x →
    let told := fun m : SpdmMsg => { b with spdmOut := b.spdmOut ++ [m] }
    (x.mutualAuth = false → Gives i b (told (.error a.port .unexpectedRequest))) ∧
    (x.mutualAuth = true → b.life = .dawn → Gives i b (told (.status a.port a.sid 2 none))) ∧
    (x.mutualAuth = true → b.life ≠ .dawn → a.bad = true → Gives i b (told (.status a.port a.sid 3 none))) ∧
    (x.mutualAuth = true → b.life ≠ .dawn → a.bad = false → a.role x = false →
      ((∀ p s part d, i ≠ .attestAck p s part d) → Gives i b (told (.status a.port a.sid 1 none))) ∧
      (∀ p s part d, i = .attestAck p s part d → ∃ b', Gives i b b' ∧
        b'.spdmOut = b.spdmOut ++ [.status a.port a.sid 1 none] ∧
        b'.attState part.toNat = (if b.attState part.toNat = 3 then 2 else b.attState part.toNat) ∧
        b' = { b with regs := b'.regs, spdmOut := b'.spdmOut })))

/-- R344, R425, R429, R430: SET_ADMIN records the administrator's digest; ATTESTACK passes the check for a report
returned within the last second and attaches a PENDING partition under a new token, or fails with status 5; ATTACH
attaches a BOUND, DETACHED partition whose check the session has passed, on a port it is granted. The token is a value
that the spec leaves open (log entry 4). R429, R438, R439, R445: SET_JOB_KEY makes an index that is not ACTIVE hold its
key, JOB_ID and member mask with every counter at 0; DEL_JOB_KEY empties an index that is not in use; JOBCTL is written
only for an index that is VALID or ACTIVE, and with EN makes it the one ACTIVE index. -/
def Obligations.AttachAndJobKeys : Prop :=
  ((∀ (p : Port) (sid : Nat) (digest : List Byte) (a : AqastRow) (x : Session) (b : Block),
    AqastDue b (.setAdmin p sid digest) a x → ∃ b', Gives (.setAdmin p sid digest) b b' ∧
      b'.digestAt (rSb 0x310) 12 = ofBytes digest ∧ b'.fld (rSb 0x300) 0 0 = 1 ∧
      b'.spdmOut = b.spdmOut ++ [.status p sid 0 none] ∧ b'.sessions = b.sessions) ∧
  (∀ (p : Port) (sid : Nat) (part : BitVec 8) (a : AqastRow) (x : Session) (b : Block),
    AqastDue b (.attach p sid part) a x →
    let k := part.toNat
    let told := fun n : Nat => { b with spdmOut := b.spdmOut ++ [.status p sid n none] }
    (x.passed.contains k = false → Gives (.attach p sid part) b (told 5)) ∧
    (x.passed.contains k = true → (b.attState k ≠ 0 ∨ b.partState k ≠ 1) → Gives (.attach p sid part) b (told 2)) ∧
    (x.passed.contains k = true → b.attState k = 0 → b.partState k = 1 → b.portGranted k p.num = false →
      Gives (.attach p sid part) b (told 4)) ∧
    (x.passed.contains k = true → b.attState k = 0 → b.partState k = 1 → b.portGranted k p.num = true →
      ∃ b', Gives (.attach p sid part) b b' ∧ b'.attState k = 1 ∧ b'.attPort k = p.num ∧
        b'.spdmOut = b.spdmOut ++ [.status p sid 0 (some (b'.att k).token)] ∧
        (∀ j : PartId, j.val ≠ k → b'.attState j = b.attState j ∧ b'.att j = b.att j))) ∧
  (∀ (p : Port) (sid : Nat) (part : BitVec 8) (digest : List Byte) (a : AqastRow) (x : Session) (b : Block),
    AqastDue b (.attestAck p sid part digest) a x →
    let k := part.toNat
    let good := x.reports.any (fun r => r.part == k && r.digest.toNat == ofBytes digest &&
      decide (b.cycle ≤ r.since + 1500000000))
    let done := fun b' : Block => ∀ y ∈ b'.sessions, y.sid = sid → y.reports.any (fun r => r.part == k) = false
    (good = false → ∃ b', Gives (.attestAck p sid part digest) b b' ∧ done b' ∧
      b'.spdmOut = b.spdmOut ++ [.status p sid 5 none] ∧
      b'.attState k = (if b.attState k = 3 ∧ b.attPort k = p.num then 2 else b.attState k)) ∧
    (good = true → ∃ b', Gives (.attestAck p sid part digest) b b' ∧ done b' ∧
      (∃ y ∈ b'.sessions, y.sid = sid ∧ y.passed.contains k = true) ∧
      (b.attState k = 3 → b.attPort k = p.num → b'.attState k = 1 ∧ b'.attPort k = p.num ∧
        b'.spdmOut = b.spdmOut ++ [.status p sid 0 (some (b'.att k).token)]) ∧
      (¬(b.attState k = 3 ∧ b.attPort k = p.num) → b'.attState k = b.attState k ∧
        b'.spdmOut = b.spdmOut ++ [.status p sid 0 none])))) ∧
  ((∀ (p : Port) (sid : Nat) (part index : BitVec 8) (id : BitVec 32) (members : BitVec 8) (key : List Byte)
    (a : AqastRow) (x : Session) (b : Block), AqastDue b (.setJobKey p sid part index id members key) a x →
    let k := part.toNat
    let n := index.toNat
    ((b.jobState k n = 2 ∨ b.zeroising.contains k = true) → Gives (.setJobKey p sid part index id members key) b
      { b with spdmOut := b.spdmOut ++ [.status p sid 2 none] }) ∧
    (b.jobState k n ≠ 2 → b.zeroising.contains k = false →
      ∃ b', Gives (.setJobKey p sid part index id members key) b b' ∧ b'.jobState k n = 1 ∧
        b'.jobKeys.get noKey (4 * k + n) = key ∧ b'.rn (rJob k (0x10 + 4 * n)) = id.toNat ∧
        b'.rn (rJob k (0x20 + 4 * n)) = members.toNat ∧ b'.rn (rJob k (0x30 + 4 * n)) = 0 ∧
        (∀ c d : Fin 8, b'.txCtr.get noCount (txKey k n c d) = 0 ∧ b'.rxCtr.get noCount (rxKey k n c d) = 0) ∧
        (∀ m : Fin 4, m.val ≠ n → b'.jobState k m = b.jobState k m ∧
          b'.jobKeys.get noKey (4 * k + m) = b.jobKeys.get noKey (4 * k + m)) ∧
        b'.spdmOut = b.spdmOut ++ [.status p sid 0 none])) ∧
  (∀ (p : Port) (sid : Nat) (part index : BitVec 8) (a : AqastRow) (x : Session) (b : Block),
    AqastDue b (.delJobKey p sid part index) a x →
    let k := part.toNat
    let n := index.toNat
    let used := b.jobState k n = 2 ∧ b.fld (rJob k 0) 2 2 = 1
    (used → Gives (.delJobKey p sid part index) b { b with spdmOut := b.spdmOut ++ [.status p sid 2 none] }) ∧
    (¬used → ∃ b', Gives (.delJobKey p sid part index) b b' ∧ b'.jobState k n = 0 ∧
      b'.jobKeys.get noKey (4 * k + n) = [] ∧ b'.spdmOut = b.spdmOut ++ [.status p sid 0 none] ∧
      (∀ m : Fin 4, m.val ≠ n → b'.jobState k m = b.jobState k m))) ∧
  (∀ (r : Requester) (k : PartId) (v : BitVec 32) (b : Block), Accepts b r (rJob k 0) →
    let b0 := b.dropHeld r
    let n := bits v.toNat 1 0
    (b0.jobState k n ≠ 1 → b0.jobState k n ≠ 2 → Gives (.jobctlWrite r k v) b (b0.writeReject (rJob k 0) v.toNat)) ∧
    ((b0.jobState k n = 1 ∨ b0.jobState k n = 2) → ∃ b', Gives (.jobctlWrite r k v) b b' ∧
      b'.fld (rJob k 0) 2 0 = bits v.toNat 2 0 ∧
      (bits v.toNat 2 2 = 1 → b'.jobState k n = 2 ∧ ∀ m : Fin 4, m.val ≠ n → b'.jobState k m =
        if b0.jobState k m = 2 then 1 else b0.jobState k m) ∧
      (bits v.toNat 2 2 = 0 → ∀ m : Fin 4, b'.jobState k m = b0.jobState k m) ∧
      b' = { b0 with regs := b'.regs } ∧ RegsIn (fun a => a = rJob k 0 ∨ a = rJob k 4) b0 b')))

/-- R423, R424, R259, R280, R344: BIND and RELEASE that a reason refuses set only PSTAT to the first that holds; an
accepted BIND makes the partition BOUND and DETACHED, its cores RUNNING with their counters, descriptors, tables and
loop memory at their initial state and nothing measured; an accepted RELEASE makes it RELEASING and empties its keys;
when its memory has been cleared it is FREE and its cores are OFFLINE. R442: a zeroisation by who may start it empties
the partition's bundle and job keys at once and refuses new ones until it ends, when its sealed range reads as zeros
and ZEROISED is set. -/
def Obligations.PartitionLife : Prop :=
  ((∀ (r : Requester) (k : PartId) (b : Block), Accepts b r (rSb 0x200) →
    let b0 := b.dropHeld r
    let cores := fun c : CoreId => (b0.units k).testBit c = true
    (b0.zeroising.contains k.val = true → Gives (.partBind r k) b (b0.writeReject (rSb 0x200) (k.val + 8))) ∧
    (b0.zeroising.contains k.val = false → b0.bindReason k ≠ 0 →
      Gives (.partBind r k) b (b0.setRn (rSb 0x204) (b0.bindReason k))) ∧
    (b0.zeroising.contains k.val = false → PartBinds b0 k → ∃ b', Gives (.partBind r k) b b' ∧
      b'.partState k = 1 ∧ b'.rn (rSb 0x204) = 0 ∧ b'.attState k = 0 ∧ b'.measures.get noMeasure k = {} ∧
      (∀ c, cores c → b'.fld (rC c 4) 1 0 = 0 ∧ b'.fld (rC c 8) 1 0 = 0 ∧ b'.lmValid c 0 = false ∧ b'.lmValid c 1 = false ∧
        (∀ h : Fin 512, b'.desc? c h = none) ∧ (∀ n : Fin 64, (b'.sfuSlot c n).code = 0) ∧
        (∀ n : Fin 48, b'.ctrMode (64 * c + n) = 0 ∧ b'.ctrValue (64 * c + n) = 0 ∧ b'.ctrCap (64 * c + n) = 65535)) ∧
      (∀ c, ¬cores c → b'.fld (rC c 4) 1 0 = b0.fld (rC c 4) 1 0 ∧ ∀ h : Fin 512, b'.desc? c h = b0.desc? c h) ∧
      b'.scratch = b0.scratch ∧ b'.ledger = b0.ledger ∧ b'.dram = b0.dram ∧ b'.queues = b0.queues)) ∧
  (∀ (r : Requester) (k : PartId) (b : Block), Accepts b r (rSb 0x200) →
    let b0 := b.dropHeld r
    (b0.releaseReason k ≠ 0 → Gives (.partRelease r k) b (b0.setRn (rSb 0x204) (b0.releaseReason k))) ∧
    (PartReleases b0 k → ∃ b', Gives (.partRelease r k) b b' ∧ b'.partState k = 2 ∧ b'.rn (rSb 0x204) = 0 ∧
      (∀ n : Fin 4, b'.jobState k n = 0 ∧ b'.jobKeys.get noKey (4 * k + n) = []) ∧ (∀ n : Fin 16, b'.bundle k n = none) ∧
      b'.scratch = b0.scratch ∧ b'.dram = b0.dram ∧ b'.queues = b0.queues)) ∧
  (∀ (k : PartId) (b : Block),
    (b.partState k ≠ 2 → Gives (.partReleaseDone k) b b) ∧
    (b.partState k = 2 → ∃ b', Gives (.partReleaseDone k) b b' ∧ b'.partState k = 0 ∧
      (∀ a, (b.ledAlloc k).1 ≤ a → a < (b.ledAlloc k).1 + (b.ledAlloc k).2 → b'.ledger.get byteZero a = 0#8) ∧
      (∀ c : CoreId, (b.units k).testBit c = true → b'.fld (rC c 4) 1 0 = 3 ∧ (∀ h : Fin 512, b'.desc? c h = none) ∧
        ∀ a, a < 2 ^ 26 → b'.scratch.get byteZero (spKey c a) = 0#8) ∧
      (∀ (p : PillarId) (d : DieId) (x : BankId) (row : Fin 6136) (col : Fin 64), (b.units k).testBit (8 + p.val) = true →
        b.offline p d = false → b.unresp p d = false →
        b'.colRaw (colKey p d x row col) = packCol 0#256 (colCheck 0#256 row col)) ∧
      (∀ c : CoreId, (b.units k).testBit c = false → ∀ a, a < 2 ^ 26 →
        b'.scratch.get byteZero (spKey c a) = b.scratch.get byteZero (spKey c a))))) ∧
  ((∀ (r : Requester) (k : PartId) (b : Block), b.reqPresent r = true → (b.life = .dawn → r = .mc) →
    Zeroises b r k → ∃ b', Gives (.zeroise r k) b b' ∧ b'.zeroising.contains k.val = true ∧
      (∀ n : Fin 4, b'.jobState k n = 0 ∧ b'.jobKeys.get noKey (4 * k + n) = []) ∧ (∀ n : Fin 16, b'.bundle k n = none) ∧
      (∀ j : PartId, j ≠ k → ∀ n : Fin 16, b'.bundle j n = b.bundle j n) ∧
      b'.scratch = b.scratch ∧ b'.dram = b.dram ∧ b'.queues = b.queues) ∧
  (∀ (k : PartId) (b : Block),
    (b.zeroising.contains k.val = false → Gives (.zeroiseDone k) b b) ∧
    (b.zeroising.contains k.val = true → ∃ b', Gives (.zeroiseDone k) b b' ∧ b'.zeroising.contains k.val = false ∧
      (∀ a, b'.ledger.get byteZero a = if (b.sealedRange k).1 ≤ a ∧ a < (b.sealedRange k).1 + (b.sealedRange k).2 then 0#8
        else b.ledger.get byteZero a) ∧
      b'.fld (rPart k 8) 2 2 = 1 ∧ b'.scratch = b.scratch ∧ b'.dram = b.dram ∧ b'.queues = b.queues)))

/-- R433 to R437: OPEN and DECRYPT begin while no bundle command runs, CLOSE empties its slot, and a write while one
runs is refused; an OPEN that passes every check of R435 opens its slot and is measured, one that fails a check changes
no slot; a DECRYPT of one chunk writes its plaintext, or zeros in its place where the tag fails, and ERR and REASON say
which check failed first. -/
def Obligations.Bundles : Prop :=
  (∀ (r : Requester) (k : PartId) (n : BitVec 4) (b : Block), Accepts b r (rWb k 0) →
    let b0 := b.dropHeld r
    (b0.wbBusy k = true →
      Gives (.bundleOpen r k n) b (b0.writeReject (rWb k 0) (n.toNat + 0x10)) ∧
      Gives (.bundleClose r k n) b (b0.writeReject (rWb k 0) (n.toNat + 0x20)) ∧
      Gives (.decrypt r k n) b (b0.writeReject (rWb k 0) (n.toNat + 0x40))) ∧
    (b0.wbBusy k = false →
      (b0.zeroising.contains k.val = true → Gives (.bundleOpen r k n) b (b0.writeReject (rWb k 0) (n.toNat + 0x10))) ∧
      (b0.zeroising.contains k.val = false → ∃ b', Gives (.bundleOpen r k n) b b' ∧ b'.wbBusy k = true ∧
        b'.bundleJobs.get noBundleJob k = some (.opening n.toNat (b0.rn (rWb k 4))) ∧ b'.bundles = b0.bundles ∧
        RegsIn (fun a => a = rWb k 0 ∨ a = rWb k 0x18) b0 b') ∧
      (∃ b', Gives (.bundleClose r k n) b b' ∧ b'.bundle k n.toNat = none ∧ b'.fld (rWb k 0x1C) n.toNat n.toNat = 0 ∧
        (∀ m : Fin 16, m.val ≠ n.toNat → b'.bundle k m = b0.bundle k m) ∧
        RegsIn (fun a => a = rWb k 0 ∨ a = rWb k 0x1C) b0 b') ∧
      (∃ b', Gives (.decrypt r k n) b b' ∧ b'.wbBusy k = true ∧
        b'.bundleJobs.get noBundleJob k = some (.decrypting n.toNat (b0.rn (rWb k 8)) (b0.rn (rWb k 0xC))
          (b0.rn (rWb k 0x10)) (b0.rn (rWb k 0x14))) ∧ b'.ledger = b0.ledger ∧
        RegsIn (fun a => a = rWb k 0 ∨ a = rWb k 0x18) b0 b'))) ∧
  (∀ (k : PartId) (slot hdr : Nat) (b : Block), b.bundleJobs.get noBundleJob k = some (.opening slot hdr) → slot < 16 →
    let h := b.ledRead hdr 4352
    (∀ w key, BundleOpens b k slot hdr h w key → ∃ b', Gives (.bundleOpenDone k) b b' ∧
      b'.bundle k slot = some { key := key, aad := slice h 8 16, nchunk := numAt h 16 4, lastlen := numAt h 20 4 } ∧ b'.fld (rWb k 0x1C) slot slot = 1 ∧ b'.wbBusy k = false ∧
      b'.fld (rWb k 0x18) 8 1 = 0 ∧ b'.fld (rWb k 0x18) 9 9 = 0 ∧
      (b'.measures.get noMeasure k).loads = (b.measures.get noMeasure k).loads + 1 ∧ b'.ledger = b.ledger) ∧
    (∀ n, b.openCheck k slot hdr h = .error n → ∃ b', Gives (.bundleOpenDone k) b b' ∧
      b'.bundles = b.bundles ∧ b'.wbBusy k = false ∧ b'.fld (rWb k 0x18) 8 1 = n ∧ b'.fld (rWb k 0x18) 9 9 = 1 ∧
      b'.ledger = b.ledger)) ∧
  (∀ (k : PartId) (slot src dst first : Nat) (b : Block),
    b.bundleJobs.get noBundleJob k = some (.decrypting slot src dst first 0) →
    (∀ n, b.decryptCheck k slot src dst first 0 = .error n → ∃ b', Gives (.decryptDone k) b b' ∧
      b'.fld (rWb k 0x18) 8 1 = n ∧ b'.fld (rWb k 0x18) 9 9 = 1 ∧ b'.ledger = b.ledger) ∧
    (∀ x, Decrypts b k slot src dst first x →
      (∀ text, x.chunk first (b.ledRead src 65552) = some text → ∃ b', Gives (.decryptDone k) b b' ∧
        b'.ledger = writeBytes b.ledger dst text ∧ b'.fld (rWb k 0x18) 9 0 = 0) ∧
      (x.chunk first (b.ledRead src 65552) = none → ∃ b', Gives (.decryptDone k) b b' ∧
        (∀ a, b'.ledger.get byteZero a =
          if dst ≤ a ∧ a < dst + x.chunkLen first then 0#8 else b.ledger.get byteZero a) ∧
        b'.fld (rWb k 0x18) 8 1 = 0xA ∧ b'.fld (rWb k 0x18) 9 9 = 1)))

/-! ### The beat and the shelf -/

/-- R358, R361, R373: an edge within 45 µs of the last accepted one is a glitch, which is counted and does nothing else;
an accepted edge in service begins a beat where the external beat drives, only measures it while the beat is lost, and
after the two steps of REARM takes the beat up again, with the broadcast EPOCH where the beat had been lost, or, where
its period lies outside 50 to 500 µs, begins them again. R372 to
R374, R382: without an edge for four nominal periods the beat is lost, BEATSTAT shows it, and a beat of Dusk begins;
the internal oscillator's beats begin one nominal period after the last where it drives, and nowhere else; REARM
begins the retake of a lost beat, and a reserved NOM refuses the write. -/
def Obligations.BeatEdges : Prop :=
  ((∀ (n : Nat) (b : Block) (t : Nat), b.awake = true → b.beat.lastEdge = some t → b.cycle + n - t < 67500 →
    ∃ b', Gives (.beatEdge n) b b' ∧ b'.cycle = b.cycle + n ∧ b'.rn (rEv 0x18) = min (b.rn (rEv 0x18) + 1) 0xFFFFFFFF ∧
      b'.fld (rEv 0xC) 2 2 = 1 ∧ b'.beat.lastEdge = some t ∧ b'.beat.start = b.beat.start ∧ b'.bidx = b.bidx ∧
      b'.epoch = b.epoch ∧ b'.blus = b.blus) ∧
  (∀ (n : Nat) (b : Block), b.life = .service → (∀ t, b.beat.lastEdge = some t → 67500 ≤ b.cycle + n - t) →
    b.beat.src = false →
    let basis := match b.beat.lastEdge with
      | some t => b.cycle + n - t
      | none => b.nominal
    (b.beat.rearm ≠ 3 → b.beatLost = false → ∃ b', Gives (.beatEdge n) b b' ∧
      BeatBegins (b.pass n) b' basis (b.beat.planned && b.beat.tick == 1024) ∧ b'.beat.lastEdge = some (b.cycle + n)) ∧
    (b.beat.rearm ≠ 3 → b.beatLost = true → ∃ b', Gives (.beatEdge n) b b' ∧ b'.beat.lastEdge = some (b.cycle + n) ∧
      b'.beatLost = true ∧ b'.beat.start = b.beat.start ∧ b'.bidx = b.bidx ∧ b'.epoch = b.epoch ∧ b'.blus = b.blus) ∧
    (∀ t, b.beat.rearm = 3 → b.beat.lastEdge = some t →
      (b.cycle + n - t < 75000 ∨ 750000 < b.cycle + n - t) → b.beatLost = true → ∃ b', Gives (.beatEdge n) b b' ∧
      b'.beatLost = true ∧ b'.beat.rearm = 1 ∧ b'.beat.edges = 1 ∧ b'.beat.start = b.beat.start ∧ b'.blus = b.blus) ∧
    (∀ t, b.beat.rearm = 3 → b.beat.lastEdge = some t → 75000 ≤ b.cycle + n - t → b.cycle + n - t ≤ 750000 →
      b.fld (rEv 8) 0 0 = 0 → ∃ b', Gives (.beatEdge n) b b' ∧ b'.beatLost = false ∧
      b'.fld (rEv 0xC) 0 0 = 1 ∧ b'.fld (rEv 0xC) 6 6 = 0 ∧ b'.beat.rearm = 0 ∧ b'.beat.start = b.cycle + n ∧
      (b.beatLost = true → b'.epoch = b.beat.rearmEpoch % 2 ^ 48 ∧ b'.bidx = 0)))) ∧
  ((∀ (b : Block) (t : Nat), b.life = .service → b.beatLost = false → b.beat.src = false → b.fld (rEv 8) 0 0 = 0 →
    b.beat.lastEdge = some t → ∃ b', Gives .beatLoss b b' ∧
      BeatBegins (b.passTo (t + 4 * b.nominal)) b' b.nominal false ∧ b'.beatLost = true ∧ b'.beat.env = 0 ∧
      b'.fld (rEv 0xC) 1 0 = 2 ∧ b'.cycle = max b.cycle (t + 4 * b.nominal)) ∧
  (∀ b : Block, (b.life ≠ .service ∨ b.beatLost = true ∨ b.beat.src = true) → Gives .beatLoss b b) ∧
  (∀ b : Block, b.life = .service → b.internalDrive = true → ∃ b', Gives .internalBeat b b' ∧
    BeatBegins (b.passTo (b.beat.start + b.nominal)) b' b.nominal (b.beat.planned && b.beat.tick == 1024) ∧
    b'.cycle = max b.cycle (b.beat.start + b.nominal)) ∧
  (∀ b : Block, b.internalDrive = false → Gives .internalBeat b b) ∧
  (∀ (r : Requester) (b : Block), Accepts b r (rEv 8) → b.rn (rEv 8) < 2 ^ 13 → b.fld (rEv 8) 1 1 = 0 →
    let b0 := b.dropHeld r
    let nom := b.fld (rEv 8) 12 2
    (nom < 200 ∨ 2000 < nom → Gives (.beatRearm r) b (b0.writeReject (rEv 8) (b.rn (rEv 8) + 2))) ∧
    (200 ≤ nom → nom ≤ 2000 → b.beatLost = false → ∃ b', Gives (.beatRearm r) b b' ∧
      (∀ a, b'.rn a = b0.rn a) ∧ b'.beat = b0.beat ∧ b'.blus = b0.blus) ∧
    (200 ≤ nom → nom ≤ 2000 → b.beatLost = true → ∃ b', Gives (.beatRearm r) b b' ∧ b'.fld (rEv 0xC) 6 6 = 1 ∧
      b'.beat.rearm = (if b.beat.rearm = 0 then 1 else b.beat.rearm) ∧ RegsIn (fun a => a = rEv 0xC) b0 b' ∧
      b'.blus = b0.blus)))

/-- R132 to R134, R359, R370, R371, R379: a tick begins at its cycle; the first tick of a segment brings the limits
planned in the last tick of the one before, whose plan holds its share of the lit budget and its allotment; a thermal
trip that is due is in force from then on, shown and counted, and no bank is lit. -/
def Obligations.Ticks : Prop :=
  (∀ b : Block, (1024 ≤ b.beat.tick ∨ b.awake = false) → Gives .tickStart b b) ∧
  (∀ b : Block, b.beat.tick < 1024 → b.awake = true →
    let k := b.beat.tick
    let at_ := b.beat.start + k * b.beat.basis / 1024
    ∃ b', Gives .tickStart b b' ∧ b'.beat.tick = k + 1 ∧ b'.cycle = max b.cycle at_ ∧
      b'.bidx = b.bidx ∧ b'.epoch = b.epoch ∧ b'.beat.start = b.beat.start ∧
      b'.beat.cur = (if k % 64 = 0 then b.beat.next else b.beat.cur) ∧
      (k % 64 = 0 → b'.fld (rEv 0x80) 14 0 =
        (if b'.tripped = true ∨ b.life = .twilight then 0 else b.beat.next.l % 2 ^ 15)) ∧
      (k % 64 = 63 → b'.beat.planned = true ∧
        (k < 1023 → b.life = .service → b.beat.fresh = false → ∃ d, b'.beat.next =
          ⟨min (litBudget b.beat.env - d) (1024 * (b.beat.allot[k / 64 + 1]?).getD 0),
           min 256 (min (litBudget b.beat.env - d) (1024 * (b.beat.allot[k / 64 + 1]?).getD 0)), d⟩) ∧
        (k = 1023 → b.life = .service → b'.beat.next.l ≤ litBudget b'.beat.env)) ∧
      (b.beat.tripDue = true → b.tripped = false → b'.tripped = true ∧ b'.beat.tripDue = false ∧
        b'.fld (rEv 0xB8) 1 1 = 1 ∧ b'.rn (rEv 0xBC) = min (b.rn (rEv 0xBC) + 1) 0xFFFFFFFF ∧
        ∀ x, (b'.blu x).lit = false))

/-- R362 to R366, R382, R506: a valid schedule frame becomes the pending schedule; an EPOCH broadcast is kept for the
next beat and is the second step of REARM; a frame or broadcast that is not valid is discarded and counted; a private
read returns sixteen bytes that end in their CRC; ENTDAA gives an address to a module without one; COMMIT of SCHEDCTL
awaits the next beat. -/
def Obligations.ShelfAndSchedule : Prop :=
  (∀ (bytes : List Byte) (b : Block), b.awake = true → b.i3cAddr ≠ none →
    let x := ofBytes bytes
    (frameOk x bytes = true → ∃ b', Gives (.scheduleFrame bytes) b b' ∧
      b'.pendingSched = some (⟨(List.range 16).map (fun i => bits x (8 * i + 12) (8 * i + 8)), bits x 137 136⟩,
        bits x 153 144) ∧ b'.activeSched = b.activeSched ∧
      ∃ regs, b' = { b with regs := regs, beat := { b.beat with frameAt := some b.cycle } }) ∧
    (frameOk x bytes = false → ∃ b', Gives (.scheduleFrame bytes) b b' ∧
      b'.rn (rEv 0x1C) = min (b.rn (rEv 0x1C) + 1) 0xFFFFFFFF ∧ b'.fld (rEv 0xC) 5 5 = 1 ∧
      b'.pendingSched = b.pendingSched ∧ b'.beat = b.beat)) ∧
  (∀ (bytes : List Byte) (b : Block), b.awake = true →
    let x := ofBytes bytes
    let ok := bytes.length = 8 ∧ bits x 63 48 = (crc32c (bytes.take 6)).toNat % 2 ^ 16
    (ok → ∃ b', Gives (.epochBroadcast bytes) b b' ∧ b'.beat.bcast = some (bits x 47 0) ∧
      b'.beat.rearm = (if b.beat.rearm = 2 then 3 else b.beat.rearm) ∧
      (b.beat.rearm = 2 → b'.beat.rearmEpoch = bits x 47 0) ∧ b'.bidx = b.bidx ∧ b'.epoch = b.epoch ∧
      b'.blus = b.blus) ∧
    (¬ok → ∃ b', Gives (.epochBroadcast bytes) b b' ∧ b'.rn (rEv 0x1C) = min (b.rn (rEv 0x1C) + 1) 0xFFFFFFFF ∧
      b'.fld (rEv 0xC) 5 5 = 1 ∧ b'.beat = b.beat)) ∧
  (∀ b : Block, b.awake = true → b.i3cAddr ≠ none → ∃ x : List Byte,
    Gives .privateRead b { b with shelfOut := b.shelfOut ++ [x] } ∧ x.length = 16 ∧
      x.drop 12 = leBytes (crc32c (x.take 12)).toNat 4 ∧ bits (ofBytes x) 2 0 = b.fld (rEv 0) 2 0 ∧
      bits (ofBytes x) 3 3 = b.fld (rEv 0) 5 5 ∧ bits (ofBytes x) 4 4 = b.fld (rEv 0xB8) 0 0 ∧
      bits (ofBytes x) 5 5 = b.fld (rEv 0) 7 7 ∧ bits (ofBytes x) 7 6 = 0 ∧
      bits (ofBytes x) 9 8 = (if b.life = .dawn ∨ b.life = .twilight then 3 else b.beat.env % 4) ∧
      bits (ofBytes x) 15 10 = 0 ∧ bits (ofBytes x) 25 16 = b.bidx ∧ bits (ofBytes x) 31 26 = 0 ∧
      bits (ofBytes x) 63 32 = b.fld (rEv 0xA0) 31 0 ∧
      bits (ofBytes x) 95 64 = (b.rn (rEv 0x88) + b.rn (rEv 0x8C)) % 2 ^ 32) ∧
  (∀ (a : BitVec 7) (b : Block), b.awake = true → b.i3cAddr = none →
    ∃ x, Gives (.entdaa a) b { b with i3cAddr := some a, shelfOut := b.shelfOut ++ [x] }) ∧
  (∀ (a : BitVec 7) (b : Block), b.i3cAddr ≠ none → Gives (.entdaa a) b b) ∧
  (∀ (r : Requester) (host : Bool) (b : Block), Accepts b r (rEv 0x70) →
    ∃ b', Gives (.schedctlCommit r host) b b' ∧ b'.fld (rEv 0x70) 0 0 = b2n host ∧ b'.beat.commit = true ∧
      b'.beat.host = b.beat.host ∧ RegsIn (fun a => a = rEv 0x70) (b.dropHeld r) b')

/-! ### Power, heat and Twilight -/

/-- R375, R376: a DOMCTL write is refused while a domain switches, where a pillar stack and its controller would differ,
and where a changed domain's condition does not hold; an accepted one queues the domains it changes, lowest first, and
DOMSWITCH shows the first. R376, R377, R481: the domain that is switching has become what DOMCTL wants, no other has,
and the next begins or none is left; one that is off has lost its contents and nothing else has; a core that comes on
is OFFLINE, and a pillar that comes on is in DELAY with its delays being applied. When it loses them is the model's
choice (log entry 48). -/
def Obligations.DomainControl : Prop :=
  (∀ (r : Requester) (i : Fin 3) (value : BitVec 32) (b : Block), Accepts b r (rEv (0x100 + 4 * i.val)) →
    let b0 := b.dropHeld r
    let v := if i.val = 2 then value.toNat % 2 ^ 19 else value.toNat
    let want := fun d : Nat => if d / 32 = i.val then v.testBit (d % 32) else b0.domWanted d
    let changed := (List.range 83).filter (fun d => want d != b0.domWanted d)
    let bad := b0.fld (rEv 0x11C) 0 0 = 1 ∨ (∃ n : Fin 16, want (51 + n.val) ≠ want (67 + n.val)) ∨
      ∃ d ∈ changed, ¬MaySwitch b0 d want
    (bad → Gives (.domctlWrite r i value) b (b0.writeReject (rEv (0x100 + 4 * i.val)) value.toNat)) ∧
    (¬bad → ∃ b', Gives (.domctlWrite r i value) b b' ∧ b'.rn (rEv (0x100 + 4 * i.val)) = v ∧
      b'.domQueue = (if changed = [] then b0.domQueue else changed) ∧
      (∀ d t, changed = d :: t → b'.rn (rEv 0x11C) = 1 + 2 * d) ∧
      RegsIn (fun a => a = rEv (0x100 + 4 * i.val) ∨ a = rEv 0x11C) b0 b' ∧
      b' = { b0 with regs := b'.regs, domQueue := b'.domQueue })) ∧
  ((∀ b : Block, b.domQueue = [] → Gives .domainReady b b) ∧
  (∀ (b : Block) (d : Nat) (rest : List Nat), b.domQueue = d :: rest → d < 83 →
    ∃ b', Gives .domainReady b b' ∧ b'.domQueue = rest ∧ b'.domOn d = b.domWanted d ∧
      (∀ e, e < 83 → e ≠ d → b'.domOn e = b.domOn e) ∧ (rest = [] → b'.fld (rEv 0x11C) 0 0 = 0) ∧
      (∀ e t, rest = e :: t → b'.rn (rEv 0x11C) = 1 + 2 * e) ∧
      (b.domWanted d = true → b'.scratch = b.scratch ∧ b'.ledger = b.ledger ∧ b'.dram = b.dram ∧ b'.queues = b.queues ∧
        (d < 8 → b'.fld (rC d 4) 1 0 = 3) ∧
        (51 ≤ d → d < 67 → b.domOn (d + 16) = true →
          b'.fld (rP (d - 51) 0) 2 0 = 1 ∧ (b'.pillar (d - 51)).applying = true)) ∧
      (b.domWanted d = false →
        (d < 8 → (∀ h : Fin 512, b'.desc? d h = none) ∧ (∀ e : Fin 7, ∀ l : Lane, b'.queue (qKey d e l.num) = []) ∧
          b'.fld (rC d 4) 1 0 = 3 ∧ b'.lmValid d 0 = false ∧ b'.lmValid d 1 = false) ∧
        (∀ c a, c < 8 → a < 2 ^ 26 → b'.scratch.get byteZero (spKey c a) =
          if d = 16 + c then 0#8 else b.scratch.get byteZero (spKey c a)) ∧
        (∀ a, a < 2 ^ 25 → d ≠ 44 → d ≠ 45 → b'.ledger.get byteZero a =
          if d = 40 + a / 2 ^ 23 then 0#8 else b.ledger.get byteZero a))))

/-- R378, R379, R381: a reading of the hub's sensors shows the hottest and makes a trip due at 105 degrees or with a die
at 95; the trip ends only at or below 100 and 90; a critical reading begins Twilight; the coolant's and the supply's
readings are shown with their warnings. -/
def Obligations.HeatAndSupply : Prop :=
  (∀ (t : List (BitVec 8)) (b : Block), t.length = 16 → b.awake = true →
    let hot := (t.map BitVec.toNat).foldl max 0
    ∃ b', Gives (.hubSensorRead t) b b' ∧ b'.fld (rEv 0xB0) 7 0 = hot ∧
      (105 ≤ hot → b'.beat.tripDue = true) ∧ (∀ p d, p < 16 → d < 17 → b'.fld (rDie p d) 17 10 ≤ b'.fld (rEv 0xB0) 15 8) ∧
      (95 ≤ b'.fld (rEv 0xB0) 15 8 → b'.beat.tripDue = true) ∧
      (hot < 105 → b'.fld (rEv 0xB0) 15 8 < 95 → b'.beat = b.beat) ∧ RegsIn (fun a => a = rEv 0xB0) b b' ∧
      b'.blus = b.blus) ∧
  (∀ b : Block,
    let cool := b.tripped = true ∧ b.fld (rEv 0xB0) 7 0 ≤ 100 ∧ b.fld (rEv 0xB0) 15 8 ≤ 90
    (cool → ∃ b', Gives .thermalTripEnd b b' ∧ b'.tripped = false ∧
      (b.life = .service → b'.fld (rEv 0x80) 14 0 = b.beat.cur.l % 2 ^ 15) ∧ b'.beat = b.beat ∧ b'.blus = b.blus) ∧
    (¬cool → Gives .thermalTripEnd b b)) ∧
  (∀ b : Block,
    let critical := b.mayFall = true ∧ (115 ≤ b.fld (rEv 0xB0) 7 0 ∨ 100 ≤ b.fld (rEv 0xB0) 15 8)
    (critical → ∃ b', Gives .criticalThermal b b' ∧ Falls b b' 2 none) ∧ (¬critical → Gives .criticalThermal b b)) ∧
  (∀ (inlet outlet : BitVec 8) (flow : BitVec 16) (b : Block), b.awake = true →
    ∃ b', Gives (.coolantMeasure inlet outlet flow) b b' ∧ b'.fld (rEv 0xB0) 23 16 = inlet.toNat ∧
      b'.fld (rEv 0xB0) 31 24 = outlet.toNat ∧ b'.fld (rEv 0xB4) 15 0 = flow.toNat ∧
      (b'.fld (rEv 0xB4) 16 16 = 1 ↔ 45 < inlet.toNat ∨ flow.toNat < b.fld (rEv 0xB4) 27 17) ∧
      b'.fld (rEv 0xB4) 27 17 = b.fld (rEv 0xB4) 27 17 ∧ b'.blus = b.blus ∧ b'.queues = b.queues) ∧
  (∀ (low : Bool) (mv : BitVec 16) (b : Block), (low = true ↔ mv.toNat < 40000) → b.awake = true →
    ∃ b', Gives (.vinLowChange low mv) b b' ∧ b'.rn (rEv 0xA4) = mv.toNat ∧ b'.fld (rEv 0) 8 8 = b2n low ∧
      b'.blus = b.blus ∧ b'.queues = b.queues)

/-- R392, R418, R489, R504: the supply's failure, TWILIGHT with its CONFIRM, a reset with its CONFIRM and MRST# begin
Twilight with their causes, in service or in a Dawn that has begun; a wrong CONFIRM refuses the write; GUARCLR clears
LAPSED and BROKEN alone; MRST# below ten microseconds does nothing, and in Dawn begins Dawn again. R390, R391, R393: 2
µs after Twilight begins nothing is queued or executes any more and the image of the seal is taken, with cause,
SESSION and GUAR; 50 µs after it every domain is off but those the seal and INTACT name; the commit record makes the
image the seal of its area and the other area stays. -/
def Obligations.TwilightAndSeal : Prop :=
  ((∀ b : Block, b.mayFall = true → ∃ b', Gives .supplyLow b b' ∧ Falls b b' 1 none ∧ b'.supplyOk = false) ∧
  (∀ b : Block, b.life = .dawn → b.fld (rMc 0x10) 3 0 = 0 → ∃ b', Gives .supplyLow b b' ∧
    b'.life = if b.cell then .night else .dark) ∧
  (∀ (r : Requester) (x : BitVec 16) (b : Block), Accepts b r (rJr 4) →
    let b0 := b.dropHeld r
    (x ≠ 0x7A11#16 → Gives (.jctlTwilight r x) b (b0.writeReject (rJr 4) (1 + x.toNat <<< 16))) ∧
    (x = 0x7A11#16 → b0.mayFall = true → ∃ b', Gives (.jctlTwilight r x) b b' ∧ Falls b0 b' 3 none) ∧
    (x = 0x7A11#16 → b0.mayFall = false → Gives (.jctlTwilight r x) b b0) ∧
    Gives (.guarclr r) b (b0.setFld (rJr 8) 9 8 0)) ∧
  (∀ (r : Requester) (x : BitVec 16) (full : Bool) (b : Block), Accepts b r (rMc 0x18) →
    let b0 := b.dropHeld r
    let i := if full then Instr.fullReset r x else .moduleReset r x
    (x ≠ 0xDA07#16 → Gives i b (b0.writeReject (rMc 0x18) ((if full then 2 else 1) + x.toNat <<< 16))) ∧
    (x = 0xDA07#16 → b0.life = .service → ∃ b1 b', Gives i b b' ∧ Falls b1 b' 4 (some (if full then 3 else 2)) ∧
      b1.cycle = b0.cycle ∧ b1.life = b0.life ∧ b1.scratch = b0.scratch ∧
      ∀ p : PillarId, b'.fld (rP p 0x194) 2 0 ≠ 1 ∧ b'.fld (rP p 0x194) 2 0 ≠ 2) ∧
    (x = 0xDA07#16 → b0.life ≠ .service → Gives i b b0)) ∧
  (∀ (n : Nat) (b : Block), n < 10 → Gives (.mrst n) b b) ∧
  (∀ (n : Nat) (b : Block), 20 ≤ n →
    (b.life = .night ∨ b.life = .dark → Gives (.mrst n) b b) ∧
    (b.life = .service → ∃ b1 b', Gives (.mrst n) b b' ∧ Falls b1 b' 4 (some 2) ∧ b1.cycle = b.cycle ∧ b'.mrstHeld = true) ∧
    (b.life = .dawn → b.fld (rMc 0x10) 3 0 ≠ 0 → b.fld (rMc 0x10) 3 0 ≠ 10 → ∃ b', Gives (.mrst n) b b' ∧
      b'.life = .dawn ∧ b'.fld (rMc 0x10) 3 0 = 1 ∧ b'.fld (rMc 0x10) 6 4 = b.fld (rMc 0x10) 6 4 ∧ b'.mrstHeld = true ∧
      b'.queues = [])) ∧
  (∀ b : Block, ∃ b', Gives .mrstRelease b b' ∧ b'.mrstHeld = false ∧
    (b.life = .dawn → b.fld (rMc 0x10) 3 0 = 0 → b.supplyOk = true → b'.fld (rMc 0x10) 3 0 = 1) ∧
    (¬(b.life = .dawn ∧ b.fld (rMc 0x10) 3 0 = 0 ∧ b.supplyOk = true) → b' = { b with mrstHeld := false }))) ∧
  ((∀ (b : Block) (t : Twilight), b.twilight = some t → b.life = .twilight → t.quiesced = false →
    ∃ b', Gives .quiescePoint b b' ∧ b'.twilight = some { t with quiesced := true } ∧ b'.queues = [] ∧ b'.items = [] ∧
      b'.calls = [] ∧ b'.ops = [] ∧ b'.cycle = max b.cycle (t.since + 3000) ∧
      (t.sealless = true → b'.sealing = none) ∧
      (t.sealless = false → ∃ x, b'.sealing = some x ∧ x.cause = t.cause ∧ x.session = b.rn (rJr 0x90) ∧
        x.guar = b.rn (rJr 8) ∧ x.intact = b.intactMask t.reset ∧ x.body.descs = b.descs ∧ x.body.loopMem = b.loopMem ∧
        x.body.attach = b.attach ∧ x.body.baselines = b.baselines)) ∧
  (∀ (b : Block) (t : Twilight), b.twilight = some t → b.life = .twilight → t.quiesced = true → t.programming = false →
    ∃ b', Gives .sealProgramStart b b' ∧ b'.twilight = some { t with programming := true } ∧ b'.fld (rJr 0) 2 0 = 2 ∧
      b'.cycle = max b.cycle (t.since + 75000) ∧ (∀ p : Port, b'.rn (rHi (0x10 * p.num)) = 0) ∧
      (∀ d, d < 83 → b'.domOn d = (b.domOn d && (decide (d ∈ [40, 46, 47, 49, 50]) ||
        (b.intactMask t.reset).testBit d))) ∧ b'.sealing = b.sealing) ∧
  (∀ (b : Block) (t : Twilight) (good : Bool) (duration : BitVec 16) (energy : BitVec 12),
    b.twilight = some t → b.life = .twilight → t.programming = true → t.reset.getD 1 < 8 →
    let area := b.fld (rJr 0) 4 4
    let mask := if good then b.intactMask t.reset else 0
    ∃ b', Gives (.sealCommit good duration energy) b b' ∧
      (∀ a, b'.seals.get noSeal a = if a = area ∧ b.sealing.isSome then b.sealing.map Seal.committed
        else b.seals.get noSeal a) ∧
      (∀ x, b.sealing = some x → b'.fld (rJr 0x20) 31 0 = x.length % 2 ^ 32 ∧ b'.fld (rJr 0x20) 47 32 = duration.toNat ∧ b'.fld (rJr 0x20) 63 52 = energy.toNat) ∧
      (good = true → b'.life = .dawn ∧ b'.fld (rMc 0x10) 6 4 = t.reset.getD 1 ∧ b'.intact = mask) ∧
      (good = false → b'.life = if b.cell then .night else .dark) ∧ b'.queues = [] ∧ b'.lines = [] ∧ b'.sessions = [] ∧
      (∀ c a, c < 8 → a < 2 ^ 26 → b'.scratch.get byteZero (spKey c a) =
        if mask.testBit (16 + c) then b.scratch.get byteZero (spKey c a) else 0#8) ∧
      (∀ a, a < 2 ^ 25 → b'.ledger.get byteZero a =
        if mask.testBit (40 + a / 2 ^ 23) then b.ledger.get byteZero a else 0#8)))

/-! ### Dawn -/

/-- R394, R477, R508: a supply that qualifies begins the Dawn of its KIND at BOOT, unless MRST# holds it in QUALIFY; a
Night or a module without power wakes with KIND 0; a step's report does nothing in any other step of Dawn. R391, R395,
R480, R488, R493: Dawn starts the later copy of each firmware image that passes and stops at FW_FAIL where an image or
the configuration does not; SECURE loads the saved standing orders or disables all, finds the seal of the session just
ended, and chooses the area that does not hold the last seal. R404, R481, R491: ALARM copies the alarm ring into the
log and empties it, and a lost always-on domain is shown as NIGHT_GAP and starts the timestamp again; POWER brings the
domains to the power profile; DELAY initialises the pillars that are in DELAY, with the pending clears of the spare
map in force. -/
def Obligations.DawnStarts : Prop :=
  ((∀ b : Block, (b.life = .night ∨ b.life = .dark ∨ (b.life = .dawn ∧ b.fld (rMc 0x10) 3 0 = 0)) →
    ∃ b', Gives .supplyQualified b b' ∧ b'.life = .dawn ∧ b'.supplyOk = true ∧
      b'.fld (rMc 0x10) 6 4 = (if b.life = .dawn then b.fld (rMc 0x10) 6 4 else 0) ∧
      b'.fld (rMc 0x10) 3 0 = (if b.mrstHeld then 0 else 1) ∧ b'.seals = b.seals ∧ b'.norOrders = b.norOrders) ∧
  (∀ b : Block, b.life = .service ∨ b.life = .twilight → Gives .supplyQualified b b) ∧
  (∀ (b : Block) (mcA mcB fw cfg tbl : Bool) (answers : List (List DieAnswer)) (failing : List (Nat × BitVec 4))
    (cores : BitVec 8) (seqs : BitVec 16) (led : Bool) (i : Instr) (n : Nat), answers.length = 16 →
    (∀ a ∈ answers, a.length = 17) → (∀ x ∈ failing, x.2.toNat ≤ 4) →
    (i, n) ∈ [(Instr.dawnBoot mcA mcB, 1), (.dawnSecure fw cfg tbl, 2), (.dawnAlarm, 3), (.dawnPower, 4),
      (.dawnDelay answers, 5), (.dawnTest failing cores seqs led, 6), (.dawnReplay, 7), (.dawnCommit, 7)] →
    b.dawnStep ≠ n → Gives i b b)) ∧
  ((∀ (mcA mcB : Bool) (b : Block), b.dawnStep = 1 →
    let first := if b.fwCopy 0 0 < b.fwCopy 0 1 then 1 else 0
    let pass := fun c : Nat => if c = 0 then mcA else mcB
    let c := if pass first then first else 1 - first
    ∃ b', Gives (.dawnBoot mcA mcB) b b' ∧
      (pass c = true → b'.dawnStep = 2 ∧ b'.fld (rMc 0x10) 7 7 = c ∧ b'.fwStarted.get noVersion 0 = c ∧
        b'.fwRun.get noVersion 0 = b.fwCopy 0 c) ∧
      (pass c = false → b'.dawnStep = 10 ∧ b'.domOn 44 = true ∧ b'.domOn 45 = true) ∧
      (∀ d ∈ [40, 46, 47, 48, 49, 50], b'.domOn d = true) ∧ b'.orderEvents = []) ∧
  (∀ (fw cfg tbl : Bool) (b : Block), b.dawnStep = 2 → ∃ b', Gives (.dawnSecure fw cfg tbl) b b' ∧
    ((fw && cfg) = false → b'.dawnStep = 10) ∧
    ((fw && cfg) = true → b'.dawnStep = 3 ∧ b'.fld (rJr 0) 3 3 = 0 ∧
      (∀ i ∈ [1, 2, 3], b'.fwRun.get noVersion i = max (b.fwCopy i 0) (b.fwCopy i 1)) ∧
      (∀ i, i < 128 → b'.rn (rSo (0x100 + 4 * i)) = if tbl then (b.norOrders.get noWordAt i).toNat else 0) ∧
      b'.rn (rSo 0) = b2n (tbl && b.norArm) ∧
      (∀ x, b'.found = some x → x.session = b.rn (rJr 0x90) ∧ x.complete = true ∧
        ∃ a, a < 2 ∧ b.seals.get noSeal a = some x) ∧
      (b'.found = none → ∀ a x, a < 2 → b.seals.get noSeal a = some x → x.complete = true → x.session ≠ b.rn (rJr 0x90)) ∧
      (∀ a x, a < 2 → b.seals.get noSeal a = some x → x.complete = true →
        (∀ y, b.seals.get noSeal (1 - a) = some y → y.complete = true → y.session < x.session) → b'.fld (rJr 0) 4 4 = 1 - a)))) ∧
  ((∀ b : Block, b.dawnStep = 3 → ∃ b', Gives .dawnAlarm b b' ∧ b'.dawnStep = 4 ∧ b'.alarms = [] ∧
    b'.fld (rAl 0) 14 7 = b.alarms.length % 256 ∧
    (∀ x ∈ b.alarms, 1 ≤ x.source → x.source ≤ 4 → b'.fld (rAl 0) (2 + x.source) (2 + x.source) = 1) ∧
    (b.aonLost = true → b'.fld (rAl 0) 1 0 = 1 ∧ b'.timeBase = b.dawnAt ∧ b'.aonLost = false) ∧
    (b.aonLost = false → b'.timeBase = b.timeBase)) ∧
  (∀ b : Block, b.dawnStep = 4 → ∃ b', Gives .dawnPower b b' ∧ b'.dawnStep = 5 ∧
    (∀ d, d < 83 → b'.domOn d = b.profiled d ∧ b'.domWanted d = b.profiled d) ∧
    (∀ c : CoreId, b.profiled c = true → b.domOn c = false → b'.fld (rC c 4) 1 0 = 3) ∧
    (∀ p : PillarId, b.profiled (51 + p) = true → b.profiled (67 + p) = true → b.domOn (67 + p) = false →
      b'.fld (rP p 0) 2 0 = 1) ∧
    (b'.bifurcated = true ↔ b.fld (rHi 0x20) 0 0 = 1)) ∧
  (∀ (answers : List (List DieAnswer)) (b : Block), answers.length = 16 → (∀ a ∈ answers, a.length = 17) →
    (∀ a ∈ answers, ∀ x ∈ a, x.readBack = 0#288) → b.dawnStep = 5 →
    ∃ b', Gives (.dawnDelay answers) b b' ∧ b'.dawnStep = 6 ∧ b'.clrPend = [] ∧
      (∀ p ∈ b.clrPend, b'.spareMap.get noSpare p = none) ∧
      (∀ p : PillarId, p.val ∉ b.clrPend → b'.spareMap.get noSpare p = b.spareMap.get noSpare p ∧
        ((b.domOn (51 + p) && b.domOn (67 + p) && b.fld (rP p 0) 2 0 == 1) = false →
          b'.fld (rP p 0) 2 0 = b.fld (rP p 0) 2 0) ∧
        ((b.domOn (51 + p) && b.domOn (67 + p) && b.fld (rP p 0) 2 0 == 1) = true →
          let map := b.spareMap.get noSpare p
          let ok := fun d : Nat => (((answers[p.val]?).getD [])[d]?).any (fun a =>
            a.identity.any (fun w => w.extractLsb' 0 16 == 0x5A17#16 && (w.extractLsb' 16 5).toNat == d))
          b'.fld (rP p 0) 2 0 = if (map.isSome = true ∧ ok 16 = true) ∨
            ∃ d : Fin 16, map ≠ some d.val ∧ ok d.val = true then 3 else 4))))

/-- R482 to R484, R494: TEST notes the bank-lane units that failed and counts them, leaves off the core or the sequencer
that failed with what belongs to it, and shows in PARTS what is left on. R391, R401, R386, R418: the erased area is
empty and the seal is ready, and a hold-up test shows its string, the energy of all five and whether the bank is
healthy, which sets or ends the first condition of the guarantee. -/
def Obligations.DawnTestsAndSeal : Prop :=
  (∀ (failing : List (Nat × BitVec 4)) (cores : BitVec 8) (seqs : BitVec 16) (led : Bool) (b : Block),
    (∀ x ∈ failing, x.2.toNat ≤ 4) → b.dawnStep = 6 →
    let counted := failing.filter (fun x => b.testDies.contains (x.1 / 256))
    ∃ b', Gives (.dawnTest failing cores seqs led) b b' ∧ b'.dawnStep = 7 ∧ b'.fld (rJr 0) 2 0 = 3 ∧
      b'.testedDies = b.testDies ∧
      (∀ x ∈ counted, (b'.blu x.1).tested = true ∧ (b'.blu x.1).passed = false) ∧
      (∀ k, (∀ x ∈ counted, x.1 ≠ k) → (b'.blu k).tested = false) ∧
      (∀ p : PillarId, b.pillarOn p = true → b'.rn (rP p 0xC30) =
        min (counted.filter (fun x => x.1 / 256 / 17 == p.val)).length 0xFFFFFFFF) ∧
      (∀ c : CoreId, b'.domOn c = (b.domOn c && cores.toNat.testBit c) ∧
        (b.domOn c = true → cores.toNat.testBit c = false → b'.domOn (8 + c) = false ∧ b'.domOn (16 + c) = false) ∧
        b'.fld (rMc 0x40) (2 + c) (2 + c) = b2n (b'.domOn c)) ∧
      (∀ q : SeqId, b'.domOn (24 + q) = (b.domOn (24 + q) && seqs.toNat.testBit q) ∧
        b'.fld (rMc 0x40) (10 + q) (10 + q) = b2n (b'.domOn (24 + q))) ∧ b'.fld (rMc 0x40) 44 44 = b2n led) ∧
  ((∀ b : Block,
    let due := 3 ≤ b.dawnStep ∧ b.dawnStep ≤ 8 ∧ b.fld (rJr 0) 3 3 = 0
    (¬due → Gives .sealAreaErased b b) ∧
    (due → ∃ b', Gives .sealAreaErased b b' ∧ b'.fld (rJr 0) 3 3 = 1 ∧
      b'.seals.get noSeal (b.fld (rJr 0) 4 4) = none ∧
      (∀ a, a ≠ b.fld (rJr 0) 4 4 → b'.seals.get noSeal a = b.seals.get noSeal a) ∧
      ((b.rn (rJr 0x90) = 0 ∨ b.found ≠ none) → b'.fld (rJr 8) 1 1 = 1) ∧
      RegsIn (fun a => a = rJr 0 ∨ a = rJr 8) b b')) ∧
  (∀ (i : Fin 5) (pass : Bool) (e : BitVec 16) (b : Block),
    let due := b.life = .service ∨ (4 ≤ b.dawnStep ∧ b.dawnStep ≤ 8)
    (¬due → Gives (.holdupTest i pass e) b b) ∧
    (due → ∃ b', Gives (.holdupTest i pass e) b b' ∧ b'.fld (rJr 0x18) i i = b2n (!pass) ∧
      (∀ j : Fin 5, j ≠ i → b'.fld (rJr 0x18) j j = b.fld (rJr 0x18) j j) ∧
      b'.stringEnergy.get noEnergy i = e.toNat ∧
      (let total := ((List.range 5).map (b'.stringEnergy.get noEnergy)).foldl (· + ·) 0
       b'.fld (rJr 0x18) 21 6 = min total 0xFFFF ∧
        (b'.fld (rJr 0x18) 5 5 = 1 ↔ onesIn (b'.fld (rJr 0x18) 4 0) 5 ≤ 1 ∧ 1200 ≤ total)) ∧
      b'.fld (rJr 8) 0 0 = b'.fld (rJr 0x18) 5 5 ∧
      (b.fld (rJr 8) 0 0 = 1 → b'.fld (rJr 0x18) 5 5 = 0 → b'.fld (rJr 8) 8 8 = 1) ∧
      (b.stringsTested.length ≠ 5 → b'.stringsTested.length = 5 → b'.fld (rJr 0x18) 5 5 = 0 → b'.fld (rJr 8) 8 8 = 1) ∧
      b'.queues = b.queues ∧ b'.items = b.items)))

/-- R395, R400, R485, R487: without a seal of its session REPLAY answers FIRST or BROKEN and runs the cores of BOUND
partitions; with one it restores the journal, loses no accepted item and leaves no partition attached; both happen
once; COMMIT begins service with a new SESSION and the waits and fault modes that replay held back. -/
def Obligations.DawnReplaysAndCommits : Prop :=
  (∀ b : Block, b.dawnStep = 7 → b.replayed = true → Gives .dawnReplay b b) ∧
  (∀ b : Block, b.dawnStep = 7 → b.replayed = false → b.found = none → ∃ b', Gives .dawnReplay b b' ∧ b'.replayed = true ∧
    b'.rn (rJr 0x28) = (if b.rn (rJr 0x90) = 0 then 1 else 2) ∧
    (b.rn (rJr 0x90) ≠ 0 → b'.fld (rJr 8) 9 8 = 3) ∧
    (∀ k : PartId, b.partState k = 1 → b'.attState k = 0 ∧
      ∀ c : CoreId, (b.units k).testBit c = true → b'.fld (rC c 4) 1 0 = 0 ∧ b'.fld (rC c 8) 1 0 = 1 ∧
        b'.rn (rC c 0x2300) = 1000) ∧ b'.items = b.items ∧ b'.queues = b.queues) ∧
  (∀ (b : Block) (x : Seal), b.dawnStep = 7 → b.replayed = false → b.found = some x → ∃ b', Gives .dawnReplay b b' ∧
    b'.replayed = true ∧ (∀ i ∈ x.body.items, ∃ j ∈ b'.items, j.id = i.id) ∧
    (∀ k : PartId, b'.attState k ≠ 1 ∧ b'.attState k ≠ 3) ∧ b'.loopMem = x.body.loopMem) ∧
  (∀ b : Block, b.dawnStep = 7 →
    let ready := b.replayed = true ∧ b.queues = [] ∧ (∀ i ∈ b.items, i.phase = .complete ∨ i.kind = .fence) ∧
      b.fld (rJr 0) 3 3 = 1 ∧ b.stringsTested.length = 5
    (¬ready → Gives .dawnCommit b b) ∧
    (ready → (∀ x ∈ b.heldBack, x.1 = rJr 0x3C ∨ ∃ c : CoreId, x.1 = rC c 8 ∨ x.1 = rC c 0x2300 ∨ x.1 = rC c 0x2304) →
      ∃ b', Gives .dawnCommit b b' ∧ b'.life = .service ∧ b'.fld (rMc 0x10) 3 0 = 9 ∧ b'.fld (rJr 0) 2 0 = 0 ∧
        b'.rn (rJr 0x90) = (b.rn (rJr 0x90) + 1) % 2 ^ 64 ∧ b'.found = none ∧ b'.heldBack = [] ∧
        (b.beat.rearm = 3 → b'.beat.rearm = 3) ∧
        (b.beat.rearm ≠ 3 → b.fld (rEv 8) 0 0 = 0 → b.beat.src = false → b'.beatLost = true)))

/-! ### Alarms, standing orders and firmware -/

/-- R402, R403, R505: the second of two asserted samples asserts a rested source, which is then an event while the
supply is present and an entry of the alarm ring while it is not; the first of two does not; a deasserted sample ends
the assertion; a cell reading is shown and judges temperature and voltage. R403, R404, R508: RTCSET sets the clock; a
cell that fails in Night loses the always-on domain, with its log and its alarms, but not what NOR holds; a cell that
is fitted to a module without power begins Night. -/
def Obligations.AlarmsAndAlwaysOn : Prop :=
  ((∀ (t l : Bool) (b : Block), b.life = .dark → Gives (.alarmSample t l) b b) ∧
  (∀ (leak : Bool) (b : Block), b.life ≠ .dark →
    (∃ b', Gives (.alarmSample false leak) b b' ∧ (b'.source 1).on = false ∧ (b'.source 1).last = false) ∧
    ((b.source 1).last = false → ∃ b', Gives (.alarmSample true leak) b b' ∧ (b'.source 1).last = true ∧
      (b'.source 1).on = (b.source 1).on) ∧
    ((b.source 1).last = true → (b.source 1).on = false → (b.source 1).everOff = true →
      ∃ b', Gives (.alarmSample true leak) b b' ∧ (b'.source 1).on = true ∧ (b'.source 1).latched = some b.cycle ∧
        (b.fld (rAl 0x20) 63 63 = 0 → b'.fld (rAl 0x20) 47 0 = b.rtcNow ∧ b'.fld (rAl 0x20) 63 63 = 1) ∧
        (b.supplied = true → b'.fld (rAl 0) 2 2 = 1 ∧ b'.alarms = b.alarms) ∧
        (b.supplied = false → leak = false → b'.rn (rEl 0) = b.rn (rEl 0) ∧
          b'.alarms = (if b.alarms.length < 64 then b.alarms else b.alarms.drop 1) ++ [⟨b.rtcNow, 1, 0⟩]))) ∧
  (∀ (mv : BitVec 12) (c : BitVec 8) (b : Block), b.life ≠ .dark → ∃ b', Gives (.cellMeasure mv c) b b' ∧
    b'.fld (rAl 0x18) 11 0 = mv.toNat ∧ b'.fld (rAl 0x18) 19 12 = c.toNat ∧
    ((b'.source 3).last = true ↔ c.toInt < -20 ∨ 70 < c.toInt) ∧ ((b'.source 4).last = true ↔ mv.toNat < 2600)) ∧
  (∀ (mv : BitVec 12) (c : BitVec 8) (b : Block), b.life = .dark → Gives (.cellMeasure mv c) b b)) ∧
  ((∀ (r : Requester) (t : BitVec 48) (b : Block), Accepts b r (rAl 0x10) → ∃ b', Gives (.rtcset r t) b b' ∧
    b'.rtcNow = t.toNat ∧ b'.fld (rAl 0) 1 1 = 1 ∧ RegsIn (fun a => a = rAl 0) (b.dropHeld r) b') ∧
  (∀ b : Block, (b.life = .night → ∃ b', Gives .alwaysOnPowerLoss b b' ∧ b'.life = .dark ∧ b'.cell = false ∧
      b'.evlog = [] ∧ b'.alarms = [] ∧ b'.orderEvents = [] ∧ b'.aonLost = true ∧ b'.rn (rEl 0) = 0 ∧ b'.rtcNow = 0 ∧
      b'.seals = b.seals ∧ b'.norOrders = b.norOrders ∧ b'.spareMap = b.spareMap) ∧
    (b.life ≠ .night → Gives .alwaysOnPowerLoss b b)) ∧
  (∀ b : Block, (b.life = .dark → ∃ b', Gives .backupCellFitted b b' ∧ b'.life = .night ∧ b'.cell = true) ∧
    (b.life ≠ .dark → Gives .backupCellFitted b { b with cell := true })))

/-- R410, R416: the oldest event that the orders have still to consider is taken; while the table is armed the first
order that matches it fires, is counted and remembers when, and no other order is counted; LOSTCLR clears LOST. R411:
ARM is refused over a table with a bad entry, whose number BADENT shows, and otherwise arms it; disarming is never
refused; SAVE copies the table and ARM into NOR. R491, R493: an update is refused while one runs; an accepted image is
written into the copy that the last Dawn did not start and the other copies stay; a clear of the spare map is refused
where no spare is mapped, and otherwise waits for the next Dawn. -/
def Obligations.OrdersAndFirmware : Prop :=
  ((∀ b : Block, (b.life ≠ .service ∨ b.orderEvents = []) → Gives .orderFire b b) ∧
  (∀ (b : Block) (e : LoggedEvent) (rest : List LoggedEvent), b.life = .service → b.orderEvents = e :: rest →
    (b.fld (rSo 0) 0 0 = 0 ∨ (∀ i, i < 32 → b.orderMatches e i = false) →
      Gives .orderFire b { b with orderEvents := rest }) ∧
    (∀ i, b.fld (rSo 0) 0 0 = 1 → i < 32 → b.orderMatches e i = true → (∀ j, j < i → b.orderMatches e j = false) →
      ∃ b', Gives .orderFire b b' ∧ b'.rn (rSo (0x400 + 4 * i)) = min (b.rn (rSo (0x400 + 4 * i)) + 1) 0xFFFFFFFF ∧
        b'.orderAt.get neverFired i = some b.cycle ∧
        ∀ j, j < 32 → j ≠ i → b'.rn (rSo (0x400 + 4 * j)) = b.rn (rSo (0x400 + 4 * j)) ∧
          b'.orderAt.get neverFired j = b.orderAt.get neverFired j)) ∧
  (∀ (r : Requester) (b : Block), Accepts b r (rEl 0xC) → Gives (.elLostclr r) b ((b.dropHeld r).setRn (rEl 8) 0))) ∧
  (∀ (r : Requester) (b : Block), Accepts b r (rSo 0) →
    let b0 := b.dropHeld r
    (Gives (.soArm r false) b (b0.setFld (rSo 0) 0 0 0)) ∧
    (∀ i, i < 32 → b0.orderBad i = true → (∀ j, j < i → b0.orderBad j = false) →
      Gives (.soArm r true) b ((b0.setFld (rSo 0) 7 2 (i + 1)).writeReject (rSo 0) 1)) ∧
    ((∀ i, i < 32 → b0.orderBad i = false) → Gives (.soArm r true) b ((b0.setFld (rSo 0) 7 2 0).setFld (rSo 0) 0 0 1)) ∧
    (b.fld (rSo 0) 0 0 = 0 ∨ (∀ i, i < 32 → b0.orderBad i = false) → ∃ b', Gives (.soSave r) b b' ∧
      (∀ i, i < 128 → b'.norOrders.get noWordAt i = b.reg (rSo (0x100 + 4 * i))) ∧
      (b'.norArm = true ↔ b.fld (rSo 0) 0 0 = 1) ∧ b'.fld (rSo 0) 0 0 = b.fld (rSo 0) 0 0 ∧
      RegsIn (fun a => a = rSo 0) b0 b')) ∧
  ((∀ (r : Requester) (i : BitVec 2) (b : Block), Accepts b r (rMc 0x20) →
    let b0 := b.dropHeld r
    (b0.fld (rMc 0x24) 0 0 = 1 → Gives (.fwUpdate r i) b (b0.writeReject (rMc 0x20) (i.toNat + 4))) ∧
    (b0.fld (rMc 0x24) 0 0 = 0 → Gives (.fwUpdate r i) b
      { b0.setFld (rMc 0x24) 0 0 1 with fwJob := some i.toNat })) ∧
  (∀ (n : BitVec 3) (b : Block) (i : Nat), 1 ≤ n.toNat → n.toNat ≤ 4 → b.life = .service → b.fwJob = some i →
    b.fwStarted.get noVersion i < 2 → ∃ b', Gives (.fwUpdateDone n) b b' ∧ b'.fwJob = none ∧ b'.fld (rMc 0x24) 0 0 = 0 ∧
      b'.fld (rMc 0x24) 3 1 = n.toNat ∧
      (n.toNat ≠ 1 → b'.fwCopies = b.fwCopies) ∧
      (n.toNat = 1 → b'.fld (rMc 0x24) 4 4 = 1 ∧ b'.fwCopy i (1 - b.fwStarted.get noVersion i) = b.fwNext ∧
        ∀ j c, c < 2 → (j ≠ i ∨ c = b.fwStarted.get noVersion i) → b'.fwCopy j c = b.fwCopy j c)) ∧
  (∀ (n : BitVec 3) (b : Block), 1 ≤ n.toNat → n.toNat ≤ 4 → b.life ≠ .service ∨ b.fwJob = none →
    Gives (.fwUpdateDone n) b b) ∧
  (∀ (r : Requester) (p : PillarId) (b : Block), Accepts b r (rMc 0x30) →
    let b0 := b.dropHeld r
    (b0.spareMap.get noSpare p = none →
      Gives (.sparemapClear r p) b (b0.writeReject (rMc 0x30) (p.val <<< 32 + 2 ^ 36))) ∧
    (b0.spareMap.get noSpare p ≠ none → ∃ b', Gives (.sparemapClear r p) b b' ∧
      b'.fld (rMc 0x30) (16 + p) (16 + p) = 1 ∧ p.val ∈ b'.clrPend ∧ b'.spareMap = b0.spareMap ∧
      RegsIn (fun a => a = rMc 0x30) b0 b')))

/-! ### Plans and sequencers -/

/-- R462: a plan command that a reason refuses changes nothing but REASON and the log; LOAD and MOVE then begin, START
and RESTART run the plan from ENTRY or RESTART in a first window, STOP leaves it STOPPED with no store in flight and no
WAITEV, and UNLOAD leaves plan memory and stack zero. R461, R462, R465, R432: an image that passes its checks is in
plan memory with its entry and limits, is measured and LOADED, and one that fails leaves only REASON; a move that ends
leaves the sibling running at RESTART with the plan's memory, and the sequencer IDLE with none. -/
def Obligations.PlanCommands : Prop :=
  (∀ (r : Requester) (q : SeqId) (b : Block), Accepts b r (rQ q 0) →
    let b0 := b.dropHeld r
    (∀ i n, (i, n) ∈ [(Instr.planLoad r q, 0), (.planStart r q, 1), (.planRestart r q, 2), (.planStop r q, 3),
        (.planMove r q, 4), (.planUnload r q, 5)] → b0.planReason q n ≠ 0 →
      Gives i b (b0.planRefuse q (b0.planReason q n))) ∧
    (∀ n, n < 6 → (b0.planBusy q = true ∨ b0.planState q ∉ planAccepts n) → b0.planReason q n = 1) ∧
    (PlanTakes b0 q 0 → ∃ b', Gives (.planLoad r q) b b' ∧ b'.planBusy q = true ∧ (b'.seq q).job = some .loading ∧
      b'.planState q = b0.planState q ∧ b'.planMem = b0.planMem ∧ b'.stackMem = b0.stackMem) ∧
    (PlanTakes b0 q 4 → ∃ b', Gives (.planMove r q) b b' ∧ b'.planBusy q = true ∧ (b'.seq q).job = some .moving ∧
      b'.planState q = b0.planState q ∧ b'.planMem = b0.planMem ∧ b'.stackMem = b0.stackMem) ∧
    (PlanTakes b0 q 1 → ∃ b', Gives (.planStart r q) b b' ∧ b'.planState q = 2 ∧
      b'.seqPc q = (b0.seq q).entry % 2 ^ 64 ∧ (∀ g : Fin 8, b'.rn (rQ q (0x20 + 4 * g)) = 0) ∧ b'.fdepth q = 0 ∧
      b'.resFrames q = 1 ∧ b'.spilled q = 0 ∧ b'.spillPtr q = 0x20000 ∧ b'.inTrap q = false ∧ b'.planMem = b0.planMem) ∧
    (PlanTakes b0 q 2 → ∃ b', Gives (.planRestart r q) b b' ∧ b'.planState q = 2 ∧
      b'.seqPc q = (b0.seq q).restart % 2 ^ 64 ∧ b'.fdepth q = 0 ∧ b'.resFrames q = 1 ∧ b'.spilled q = 0 ∧
      b'.spillPtr q = 0x20000 ∧ b'.inTrap q = false ∧
      (∀ g : Fin 8, b'.rn (rQ q (0x20 + 4 * g)) = b0.rn (rQ q (0x20 + 4 * g))) ∧ b'.stackMem = b0.stackMem) ∧
    (PlanTakes b0 q 3 → ∃ b', Gives (.planStop r q) b b' ∧ b'.planState q = 5 ∧ (b'.seq q).wait = none ∧
      (b'.seq q).stores = [] ∧ b'.seqPc q = b0.seqPc q ∧ b'.planMem = b0.planMem ∧ b'.stackMem = b0.stackMem) ∧
    (PlanTakes b0 q 5 → ∃ b', Gives (.planUnload r q) b b' ∧ b'.planState q = 0 ∧
      (∀ a, a < 32768 → b'.planMem.get byteZero (q * 32768 + a) = 0#8) ∧
      (∀ a, a < 65536 → b'.stackMem.get byteZero (q * 65536 + a) = 0#8) ∧ b'.ledger = b0.ledger)) ∧
  ((∀ (q : SeqId) (b : Block), (b.seq q).job = some .loading → b.domOn (24 + q) = true → b.life = .service →
    let a := b.rn (rQ q 4)
    let h := b.ledRead a 64
    let code := imageField h 8 4
    (ImageLoads b q h → ∃ b', Gives (.planLoadDone q) b b' ∧ b'.planState q = 1 ∧ b'.planBusy q = false ∧
      (b'.seq q).job = none ∧ (b'.seq q).entry = imageField h 12 4 ∧ (b'.seq q).restart = imageField h 16 4 ∧
      (b'.seq q).splim = imageField h 20 4 ∧
      (∀ x, x < code → b'.planMem.get byteZero (q * 32768 + x) = b.ledger.get byteZero (a + 64 + x)) ∧
      (∀ x, code ≤ x → x < 32768 → b'.planMem.get byteZero (q * 32768 + x) = 0#8) ∧
      (∀ k, b.seqOwner q = some k →
        (b'.measures.get noMeasure k).loads = (b.measures.get noMeasure k).loads + 1) ∧ b'.ledger = b.ledger) ∧
    (b.imageReason q ≠ 0 → ∃ b', Gives (.planLoadDone q) b b' ∧ b'.fld (rQ q 8) 7 4 = b.imageReason q ∧
      b'.planBusy q = false ∧ b'.planState q = b.planState q ∧ b'.planMem = b.planMem ∧ b'.stackMem = b.stackMem)) ∧
  (∀ (q : SeqId) (b : Block), (b.seq q).job = some .moving → b.life = .service → b.sramBad = [] →
    b.planMem.wf byteZero = true →
    let t := sibling q
    (¬SiblingFree b q → ∃ b', Gives (.planMoveDone q) b b' ∧ b'.fld (rQ q 8) 7 4 = 6 ∧ b'.planBusy q = false ∧
      b'.planState q = b.planState q ∧ b'.planMem = b.planMem ∧ b'.stackMem = b.stackMem) ∧
    (SiblingFree b q → ∃ b', Gives (.planMoveDone q) b b' ∧ b'.planState q = 0 ∧ b'.planState t = 2 ∧
      b'.seqPc t = (b.seq q).restart % 2 ^ 64 ∧
      (∀ g : Fin 8, b'.rn (rQ t (0x20 + 4 * g)) = b.rn (rQ q (0x20 + 4 * g)) % 2 ^ 64) ∧
      (∀ x, x < 32768 → b'.planMem.get byteZero (t * 32768 + x) = b.planMem.get byteZero (q * 32768 + x) ∧
        b'.planMem.get byteZero (q * 32768 + x) = 0#8) ∧ b'.ledger = b.ledger)))

/-- R455, R466: an arithmetic instruction sets RD from its operands, LUI from its immediate, and each moves PC on by 4,
counts itself and changes nothing else. -/
def Obligations.SeqArithmetic : Prop :=
  (∀ (i : Instr) op f (q : SeqId) (w : Nat) (b : Block), SeqRegisterRow q i op f → SeqRuns b q op w →
    ∃ b', Gives i b b' ∧ SeqCompletes b b' q ((b.seqPc q + 4) % 2 ^ 32) ∧ SeqOnly b b' ∧
      SeqSets b b' q (wRd w) (f (b.seqReg q (wRa w)) (b.seqReg q (wRb w)))) ∧
  (∀ (i : Instr) op f (q : SeqId) (w : Nat) (b : Block), SeqImmediateRow q i op f → SeqRuns b q op w →
    ∃ b', Gives i b b' ∧ SeqCompletes b b' q ((b.seqPc q + 4) % 2 ^ 32) ∧ SeqOnly b b' ∧
      SeqSets b b' q (wRd w) (f (b.seqReg q (wRa w)) (wImm w))) ∧
  (∀ (q : SeqId) (w : Nat) (b : Block), SeqRuns b q 0x20 w →
    ∃ b', Gives (.seqLui q) b b' ∧ SeqCompletes b b' q ((b.seqPc q + 4) % 2 ^ 32) ∧ SeqOnly b b' ∧
      SeqSets b b' q (wRd w) (BitVec.ofNat 32 (bits w 31 13 * 2 ^ 13)))

/-- R455, R459, R463: a branch goes to its target when its condition holds and on otherwise, JMP always goes; TIME reads
the timestamp and latches it, TIMEH reads the latched high half; HALT leaves the plan HALTED with PC on it. R459:
WAITEV with an event selected begins a wait and leaves PC on it, and without one is an operand fault; while it waits
no other instruction of the plan runs; the wake answers the pending selected events, which are pending no longer, and
does nothing while there is none. -/
def Obligations.SeqControl : Prop :=
  ((∀ (i : Instr) op f (q : SeqId) (w : Nat) (b : Block), SeqBranchRow q i op f → SeqRuns b q op w →
    ∃ b', Gives i b b' ∧ SeqOnly b b' ∧ SeqCompletes b b' q
      (if f (b.seqReg q (wRd w)) (b.seqReg q (wRa w)) then target (b.seqPc q) (wOffB w)
       else (b.seqPc q + 4) % 2 ^ 32) ∧ ∀ n, b'.seqReg q n = b.seqReg q n) ∧
  (∀ (q : SeqId) (w : Nat) (b : Block), SeqRuns b q 0x38 w → ∃ b', Gives (.seqJmp q) b b' ∧ SeqOnly b b' ∧
    SeqCompletes b b' q (target (b.seqPc q) (wOffJ w)) ∧ ∀ n, b'.seqReg q n = b.seqReg q n) ∧
  (∀ (q : SeqId) (w : Nat) (b : Block), SeqRuns b q 0x44 w → ∃ b', Gives (.seqTime q) b b' ∧ SeqOnly b b' ∧
    SeqCompletes b b' q ((b.seqPc q + 4) % 2 ^ 32) ∧ SeqSets b b' q (wRd w) (BitVec.ofNat 32 b.now) ∧
    (b'.seq q).time = BitVec.ofNat 64 b.now) ∧
  (∀ (q : SeqId) (w : Nat) (b : Block), SeqRuns b q 0x45 w → ∃ b', Gives (.seqTimeh q) b b' ∧ SeqOnly b b' ∧
    SeqCompletes b b' q ((b.seqPc q + 4) % 2 ^ 32) ∧
    SeqSets b b' q (wRd w) (BitVec.ofNat 32 ((b.seq q).time.toNat / 2 ^ 32))) ∧
  (∀ (q : SeqId) (w : Nat) (b : Block), SeqRuns b q 0x46 w → ∃ b', Gives (.seqHalt q) b b' ∧ b'.planState q = 3 ∧
    b'.seqPc q = b.seqPc q ∧ (∀ n, b'.seqReg q n = b.seqReg q n) ∧ (b'.seq q).stores = [] ∧
    b'.planMem = b.planMem ∧ b'.stackMem = b.stackMem)) ∧
  ((∀ (q : SeqId) (w : Nat) (b : Block), SeqRuns b q 0x43 w →
    let m := (b.seqReg q (wRa w)).toNat
    let n := (b.seqReg q (wRb w)).toNat
    let bad := m = 0 ∨ (m.testBit 2 = true ∧ n = 0)
    (bad → ∃ b', Gives (.seqWaitev q) b b' ∧ PlanFaults b b' q 0xC5 4) ∧
    (¬bad → ∃ b', Gives (.seqWaitev q) b b' ∧ (b'.seq q).wait = some ⟨m, n, b.cycle⟩ ∧ b'.seqPc q = b.seqPc q ∧
      ∃ seqs, b' = { b with seqs := seqs })) ∧
  (∀ (i : Instr) (q : SeqId) (b : Block), SeqRow q i → (b.seq q).wait ≠ none → b.inTrap q = false → Gives i b b) ∧
  (∀ (q : SeqId) (x : WaitEv) (w : Nat) (b : Block), b.seqActive q = true → (b.seq q).wait = some x →
    b.seqWord q = some w → wOp w = 0x43 → wordReserved w = false →
    let e := b.pendingEvents q x
    (e = 0 → Gives (.seqWaitevWake q) b b) ∧
    (e ≠ 0 → ∃ b', Gives (.seqWaitevWake q) b b' ∧ SeqCompletes b b' q ((b.seqPc q + 4) % 2 ^ 32) ∧ SeqOnly b b' ∧
      (b'.seq q).wait = none ∧ SeqSets b b' q (wRd w) (BitVec.ofNat 32 e) ∧
      (e.testBit 0 = true → ∀ n ∈ b.planRings q, (b'.seq q).seenHead.get noneSeen n = b.rn (rRing n 0x14)) ∧
      (e.testBit 1 = true → ∀ n ∈ b.planRings q, (b'.seq q).seenCredit.get noneSeen n = b.rn (rRg n 0)))))

/-- R447, R448: a load whose words hold no error reads plan memory, the stack or the Ledger as the sequencer sees it,
and zero- extends what it reads; a misaligned load, or one that no map gives, is a plan fault on its address. R448,
R449, R426: a store writes the stack at once and the Ledger in flight, where the sequencer itself already sees it, and
its other bytes nowhere; a store to a register is a register write; any other is a plan fault; SFENCE makes every
earlier Ledger store visible. When a Ledger store becomes visible is the model's choice (log entry 96). -/
def Obligations.SeqLoadsAndStores : Prop :=
  (∀ (q : SeqId) (w : Nat) (b : Block) (word : Bool), SeqRuns b q (if word then 0x28 else 0x2A) w → b.sramBad = [] →
    let i := if word then Instr.seqLdW q else .seqLdBu q
    let n := if word then 4 else 1
    let a := (b.seqReg q (wRa w) + wImm w).toNat
    let reads := fun v : Nat => ∃ b', Gives i b b' ∧ SeqCompletes b b' q ((b.seqPc q + 4) % 2 ^ 32) ∧ SeqOnly b b' ∧
      SeqSets b b' q (wRd w) (BitVec.ofNat 32 v)
    (a % n = 0 → word = true → a < 0x8000 → reads (ofBytes (readBytes b.planMem (32768 * q + a) 4))) ∧
    (a % n = 0 → 0x10000 ≤ a → a < 0x20000 → reads (ofBytes (readBytes b.stackMem (65536 * q + (a - 0x10000)) n))) ∧
    (a % n = 0 → 0x10000000 ≤ a → a < 0x12000000 → b.seqLedMay q (a - 0x10000000) n = true →
      reads (ofBytes (b.seqLedBytes q (a - 0x10000000) n))) ∧
    (word = true → a % 4 = 0 → 0x40000000 ≤ a → b.seqMay q (a - 0x40000000) = true →
      ∃ v b', Gives i b b' ∧ b'.seqPc q = (b.seqPc q + 4) % 2 ^ 32 ∧ SeqSets b b' q (wRd w) v ∧
        b'.stackMem = b.stackMem ∧ b'.ledger = b.ledger) ∧
    ((a % n ≠ 0 ∨ (0x8000 ≤ a ∧ a < 0x10000) ∨ (0x10000000 ≤ a ∧ a < 0x12000000 ∧
        b.seqLedMay q (a - 0x10000000) n = false) ∨ (word = false ∧ (a < 0x8000 ∨ 0x12000000 ≤ a)) ∨
        (0x20000 ≤ a ∧ a < 0x10000000)) →
      ∃ b', Gives i b b' ∧ PlanFaults b b' q 0xC2 a)) ∧
  ((∀ (q : SeqId) (w : Nat) (b : Block) (word : Bool), SeqRuns b q (if word then 0x29 else 0x2B) w →
    let i := if word then Instr.seqStW q else .seqStB q
    let n := if word then 4 else 1
    let a := (b.seqReg q (wRa w) + wImm w).toNat
    let v := (b.seqReg q (wRd w)).toNat
    (a % n = 0 → 0x10000 ≤ a → a < 0x20000 → ∃ b', Gives i b b' ∧
      SeqCompletes b b' q ((b.seqPc q + 4) % 2 ^ 32) ∧ (∀ m, b'.seqReg q m = b.seqReg q m) ∧
      (∀ x, b'.stackMem.get byteZero x =
        if 65536 * q + (a - 0x10000) ≤ x ∧ x < 65536 * q + (a - 0x10000) + n then
          BitVec.ofNat 8 (v / 256 ^ (x - (65536 * q + (a - 0x10000)))) else b.stackMem.get byteZero x) ∧
      b'.ledger = b.ledger ∧ b'.planMem = b.planMem) ∧
    (a % n = 0 → 0x10000000 ≤ a → a < 0x12000000 → b.seqLedMay q (a - 0x10000000) n = true → ∃ b', Gives i b b' ∧
      SeqCompletes b b' q ((b.seqPc q + 4) % 2 ^ 32) ∧ SeqOnly b b' ∧ (∀ m, b'.seqReg q m = b.seqReg q m) ∧
      (∀ x, b'.seqLedByte q x = if a - 0x10000000 ≤ x ∧ x < a - 0x10000000 + n then
          BitVec.ofNat 8 (v / 256 ^ (x - (a - 0x10000000))) else b.seqLedByte q x)) ∧
    (word = true → a % 4 = 0 → 0x40000000 ≤ a → b.seqMay q (a - 0x40000000) = true →
      Gives i b ((b.write32 (.seq q) (a - 0x40000000) v).seqNext q)) ∧
    ((a % n ≠ 0 ∨ a < 0x10000 ∨ (0x20000 ≤ a ∧ a < 0x10000000) ∨ (0x12000000 ≤ a ∧ a < 0x40000000) ∨
        (word = false ∧ 0x12000000 ≤ a)) → ∃ b', Gives i b b' ∧ PlanFaults b b' q 0xC2 a)) ∧
  (∀ (q : SeqId) (w : Nat) (b : Block), SeqRuns b q 0x42 w → ∃ b', Gives (.seqSfence q) b b' ∧
    SeqCompletes b b' q ((b.seqPc q + 4) % 2 ^ 32) ∧ (b'.seq q).stores = [] ∧
    (∀ x, b'.ledger.get byteZero x = b.seqLedByte q x) ∧ (∀ m, b'.seqReg q m = b.seqReg q m) ∧
    b'.stackMem = b.stackMem))

/-- R451 to R453: CALL and CALLR open a frame with the first four registers of the caller and the return address; with
seven frames resident they trap, the oldest frame then stands on the stack, and TRET executes the call again; RET goes
back to the return address with the four registers, traps to load a spilled frame, and without one is a stack fault; a
window instruction in a trap is a double fault. That the handler moves its frame in one step is the model's choice
(log entry 99). -/
def Obligations.SeqCallsAndReturns : Prop :=
  (∀ (q : SeqId) (w : Nat) (b : Block) (direct : Bool), SeqRuns b q (if direct then 0x39 else 0x3A) w →
    let i := if direct then Instr.seqCall q else .seqCallr q
    let pc := if direct then target (b.seqPc q) (wOffJ w) else (b.seqReg q (wRa w)).toNat
    let d := b.fdepth q
    (b.resFrames q < 7 → ∃ b', Gives i b b' ∧ SeqCompletes b b' q pc ∧ SeqOnly b b' ∧ b'.fdepth q = (d + 1) % 2048 ∧
      b'.resFrames q = b.resFrames q + 1 ∧ b'.spilled q = b.spilled q ∧
      (∀ n : Fin 4, b'.winReg q (d + 1) n = b.winReg q d n) ∧
      b'.winReg q (d + 1) 15 = BitVec.ofNat 32 (b.seqPc q + 4) ∧
      (∀ n : Fin 16, b'.winReg q d n = b.winReg q d n)) ∧
    (b.resFrames q = 7 → (b.seq q).splim + 64 ≤ b.spillPtr q →
      ∃ b', Gives i b b' ∧ b'.inTrap q = true ∧ b'.seqPc q = b.seqPc q ∧ b'.spillPtr q = b.spillPtr q - 64 ∧
        b'.resFrames q = 6 ∧ b'.spilled q = (b.spilled q + 1) % 2048 ∧ b'.fdepth q = d ∧
        (∀ n : Fin 16, ofBytes (readBytes b'.stackMem (65536 * q + (b.spillPtr q - 64 - 0x10000) + 4 * n) 4) =
          (b.winReg q (d - 6) n).toNat)) ∧
    (b.resFrames q = 7 → b.spillPtr q < (b.seq q).splim + 64 → ∃ b', Gives i b b' ∧ PlanFaults b b' q 0xC3 1)) ∧
  (∀ (q : SeqId) (w : Nat) (b : Block), SeqRuns b q 0x3B w →
    let d := b.fdepth q
    (1 < b.resFrames q → ∃ b', Gives (.seqRet q) b b' ∧ SeqCompletes b b' q (b.winReg q d 15).toNat ∧
      SeqOnly b b' ∧ b'.fdepth q = d - 1 ∧ b'.resFrames q = b.resFrames q - 1 ∧
      (∀ n : Fin 4, b'.winReg q (d - 1) n = b.winReg q d n)) ∧
    (b.resFrames q ≤ 1 → 0 < b.spilled q → b.sramBad = [] →
      ∃ b', Gives (.seqRet q) b b' ∧ b'.inTrap q = true ∧
      b'.seqPc q = b.seqPc q ∧ b'.spillPtr q = (b.spillPtr q + 64) % 2 ^ 64 ∧ b'.resFrames q = 2 ∧ b'.spilled q = b.spilled q - 1 ∧
      (∀ n : Fin 16, b'.winReg q (d - 1) n = BitVec.ofNat 32
        (ofBytes (readBytes b.stackMem (65536 * q + (b.spillPtr q - 0x10000) + 4 * n) 4)))) ∧
    (b.resFrames q ≤ 1 → b.spilled q = 0 → ∃ b', Gives (.seqRet q) b b' ∧ PlanFaults b b' q 0xC3 2)) ∧
  (∀ (q : SeqId) (w : Nat) (b : Block), b.seqActive q = true → b.inTrap q = true → b.seqWord q = some w →
    ((wOp w = 0x39 ∨ wOp w = 0x3A) → b.resFrames q < 7 → ∃ b', Gives (.seqTret q) b b' ∧ b'.inTrap q = false ∧
      b'.fdepth q = (b.fdepth q + 1) % 2048 ∧
      b'.seqPc q = (if wOp w = 0x39 then target (b.seqPc q) (wOffJ w) else (b.seqReg q (wRa w)).toNat)) ∧
    (wOp w = 0x3B → 1 < b.resFrames q → ∃ b', Gives (.seqTret q) b b' ∧ b'.inTrap q = false ∧
      b'.fdepth q = b.fdepth q - 1 ∧ b'.seqPc q = (b.winReg q (b.fdepth q) 15).toNat)) ∧
  (∀ (q : SeqId) (w : Nat) (b : Block) (row : Instr × Nat), row ∈ [(Instr.seqCall q, 0x39), (.seqCallr q, 0x3A),
    (.seqRet q, 0x3B)] → b.seqActive q = true → (b.seq q).wait = none → b.inTrap q = true → b.seqWord q = some w →
    wOp w = row.2 → ∃ b', Gives row.1 b b' ∧ PlanFaults b b' q 0xC4 w)

/-- R457, R458: PUT writes the line at its place with a good LCHK and answers 1, or answers 0 and writes none where the
ring has no credit, and a ring or an address that is not the plan's is an operand fault; SIG signals its counter by
its amount, and an amount or a counter out of range is an operand fault. -/
def Obligations.SeqPutAndSig : Prop :=
  (∀ (q : SeqId) (w : Nat) (b : Block), SeqRuns b q 0x40 w → b.sramBad = [] →
    let n := (b.seqReg q (wRa w)).toNat
    let a := (b.seqReg q (wRb w)).toNat
    let k := b.rn (rPutn q n)
    let ok := a % 64 = 0 ∧ 0x10000 ≤ a ∧ a < 0x20000
    (n ∉ b.planRings q → ∃ b', Gives (.seqPut q) b b' ∧ PlanFaults b b' q 0xC5 1) ∧
    (n ∈ b.planRings q → ¬ok → ∃ b', Gives (.seqPut q) b b' ∧ PlanFaults b b' q 0xC5 2) ∧
    (n ∈ b.planRings q → ok → 8192 ≤ sub32 k (b.rn (rRg n 0)) → ∃ b', Gives (.seqPut q) b b' ∧ SeqOnly b b' ∧
      SeqCompletes b b' q ((b.seqPc q + 4) % 2 ^ 32) ∧ SeqSets b b' q (wRd w) 0#32) ∧
    (n ∈ b.planRings q → ok → sub32 k (b.rn (rRg n 0)) < 8192 → b.life = .service → ∃ b' t, Gives (.seqPut q) b b' ∧
      b'.seqPc q = (b.seqPc q + 4) % 2 ^ 32 ∧ SeqSets b b' q (wRd w) 1#32 ∧
      b'.rn (rPutn q n) = (k + 1) % 2 ^ 32 ∧
      (∀ m p, m < 9 → p < 8192 → b'.lineAt m p = if m = n ∧ p = k % 8192 then
        some ⟨putLine (readBytes b.stackMem (65536 * q + (a - 0x10000)) 64), t⟩ else b.lineAt m p) ∧
      b'.stackMem = b.stackMem ∧ b'.ledger = b.ledger)) ∧
  (∀ (q : SeqId) (w : Nat) (b : Block), SeqRuns b q 0x41 w →
    let n := (b.seqReg q (wRa w)).toNat
    let m := (b.seqReg q (wRb w)).toNat
    ((m = 0 ∨ 65535 < m ∨ 8192 ≤ n) → ∃ b', Gives (.seqSig q) b b' ∧ PlanFaults b b' q 0xC5 3) ∧
    (1 ≤ m → m ≤ 65535 → n < 8192 → Gives (.seqSig q) b
      ((b.signalLogged (reqSource (.seq q)) (b.foreignReq (.seq q) n) 0 n m).seqNext q)))

/-- R448, R454, R456, R463: whichever instruction is commanded, a PC that cannot be fetched from, a word that is no
instruction of a plan, and a word with a reserved field are plan faults, and nothing runs in a plan that is not
RUNNING. -/
def Obligations.SeqFetchFaults : Prop :=
  ∀ (i : Instr) (q : SeqId) (b : Block), SeqRow q i → b.inTrap q = false →
    (b.seqActive q = false → Gives i b b) ∧
    (b.seqActive q = true → (b.seq q).wait = none →
      (b.seqWord q = none → ∃ b', Gives i b b' ∧ PlanFaults b b' q 0xC2 (b.seqPc q)) ∧
      (∀ w, b.seqWord q = some w → (opDefined (wOp w) = false ∨ wOp w = 0x47) →
        ∃ b', Gives i b b' ∧ PlanFaults b b' q 0xC0 w) ∧
      (∀ w, b.seqWord q = some w → opDefined (wOp w) = true → wOp w ≠ 0x47 → wordReserved w = true →
        ∃ b', Gives i b b' ∧ PlanFaults b b' q 0xC1 w))
end

