-- ==== Sys2Proof/Laws/Tab.lean ====
section
/-!
SUPPORT. What the sparse tables do, once: reading after a write, and that every write keeps the canonical form.
-/
namespace Sys2Proof.Machine
variable {α : Type}

theorem Tab.get_insert_same (d : Nat → α) : ∀ (t : Tab α) (k : Nat) (v : α), (t.insert k v).get d k = v
  | [], k, v => by simp [Tab.insert, Tab.get]
  | (k', v') :: t, k, v => by
    unfold Tab.insert
    split
    · simp [Tab.get]
    · split
      · simp [Tab.get]
      · rename_i h1 h2
        simp only [Tab.get, if_neg h1]
        exact Tab.get_insert_same d t k v

theorem Tab.get_insert_other (d : Nat → α) :
    ∀ (t : Tab α) (k j : Nat) (v : α), j ≠ k → (t.insert k v).get d j = t.get d j
  | [], k, j, v, hj => by simp [Tab.insert, Tab.get, hj]
  | (k', v') :: t, k, j, v, hj => by
    unfold Tab.insert
    split
    · rename_i e; subst e
      simp only [Tab.get, if_neg hj]
    · split
      · simp only [Tab.get, if_neg hj]
      · simp only [Tab.get]
        split
        · rfl
        · exact Tab.get_insert_other d t k j v hj

theorem Tab.get_erase_same (d : Nat → α) : ∀ (t : Tab α) (k : Nat), (t.erase k).get d k = d k
  | [], _ => rfl
  | (k', v') :: t, k => by
    unfold Tab.erase
    split
    · exact Tab.get_erase_same d t k
    · rename_i h; simp only [Tab.get, if_neg h]; exact Tab.get_erase_same d t k

theorem Tab.get_erase_other (d : Nat → α) :
    ∀ (t : Tab α) (k j : Nat), j ≠ k → (t.erase k).get d j = t.get d j
  | [], _, _, _ => rfl
  | (k', v') :: t, k, j, hj => by
    unfold Tab.erase
    split
    · rename_i e; subst e
      simp only [Tab.get, if_neg hj]; exact Tab.get_erase_other d t k j hj
    · simp only [Tab.get]
      split
      · rfl
      · exact Tab.get_erase_other d t k j hj

/-- A read after a write to the same key gives what was written. -/
@[simp] theorem Tab.get_set_same [DecidableEq α] (d : Nat → α) (t : Tab α) (k : Nat) (v : α) :
    (t.set d k v).get d k = v := by
  unfold Tab.set
  split
  · rename_i e; rw [e]; exact Tab.get_erase_same d t k
  · exact Tab.get_insert_same d t k v

/-- A write leaves every other key alone. -/
theorem Tab.get_set_other [DecidableEq α] (d : Nat → α) (t : Tab α) (k j : Nat) (v : α) (hj : j ≠ k) :
    (t.set d k v).get d j = t.get d j := by
  unfold Tab.set
  split
  · exact Tab.get_erase_other d t k j hj
  · exact Tab.get_insert_other d t k j v hj

/-- A read after a write, by cases on the key. -/
theorem Tab.get_set [DecidableEq α] (d : Nat → α) (t : Tab α) (k j : Nat) (v : α) :
    (t.set d k v).get d j = if j = k then v else t.get d j := by
  split
  · rename_i e; subst e; exact Tab.get_set_same d t j v
  · rename_i h; exact Tab.get_set_other d t k j v h

/-- A key outside a dropped range reads as before. -/
theorem Tab.get_dropRange_other (d : Nat → α) (lo hi j : Nat) (hj : ¬(lo ≤ j ∧ j < hi)) :
    ∀ t : Tab α, (t.dropRange lo hi).get d j = t.get d j
  | [] => rfl
  | (k', v') :: t => by
    have ih := Tab.get_dropRange_other d lo hi j hj t
    unfold Tab.dropRange at ih ⊢
    rw [List.filter_cons]
    split
    · simp only [Tab.get]
      split
      · rfl
      · exact ih
    · rename_i h
      rw [ih]
      have hk : j ≠ k' := by
        rintro rfl
        simp only [Bool.not_eq_true', Bool.and_eq_false_iff, decide_eq_false_iff_not, not_or,
          Decidable.not_not] at h
        exact hj h
      simp [Tab.get, hk]

theorem Tab.wfFrom_mono [DecidableEq α] (d : Nat → α) :
    ∀ (t : Tab α) (lo lo' : Nat), lo' ≤ lo → Tab.wfFrom d lo t = true → Tab.wfFrom d lo' t = true
  | [], _, _, _, _ => rfl
  | (k', v) :: t, lo, lo', hl, h => by
    simp only [Tab.wfFrom, Bool.and_eq_true, decide_eq_true_eq] at h ⊢
    exact ⟨⟨by omega, h.1.2⟩, h.2⟩

theorem Tab.wfFrom_erase [DecidableEq α] (d : Nat → α) :
    ∀ (t : Tab α) (lo k : Nat), Tab.wfFrom d lo t = true → Tab.wfFrom d lo (t.erase k) = true
  | [], _, _, _ => rfl
  | (k', v') :: t, lo, k, h => by
    simp only [Tab.wfFrom, Bool.and_eq_true, decide_eq_true_eq] at h
    unfold Tab.erase
    split
    · exact Tab.wfFrom_mono d _ (k' + 1) lo (by omega) (Tab.wfFrom_erase d t _ k h.2)
    · simp only [Tab.wfFrom, Bool.and_eq_true, decide_eq_true_eq]
      exact ⟨h.1, Tab.wfFrom_erase d t _ k h.2⟩

theorem Tab.wfFrom_insert [DecidableEq α] (d : Nat → α) :
    ∀ (t : Tab α) (lo k : Nat) (v : α), Tab.wfFrom d lo t = true → lo ≤ k → v ≠ d k →
      Tab.wfFrom d lo (t.insert k v) = true
  | [], lo, k, v, _, hk, hv => by simp [Tab.insert, Tab.wfFrom, hk, hv]
  | (k', v') :: t, lo, k, v, h, hk, hv => by
    simp only [Tab.wfFrom, Bool.and_eq_true, decide_eq_true_eq] at h
    unfold Tab.insert
    split
    · rename_i e; subst e
      simp only [Tab.wfFrom, Bool.and_eq_true, decide_eq_true_eq]
      exact ⟨⟨hk, hv⟩, h.2⟩
    · split
      · simp only [Tab.wfFrom, Bool.and_eq_true, decide_eq_true_eq]
        exact ⟨⟨hk, hv⟩, ⟨by omega, h.1.2⟩, h.2⟩
      · simp only [Tab.wfFrom, Bool.and_eq_true, decide_eq_true_eq]
        exact ⟨h.1, Tab.wfFrom_insert d t _ k v h.2 (by omega) hv⟩

/-- Every write keeps the canonical form. -/
theorem Tab.wf_set [DecidableEq α] (d : Nat → α) (t : Tab α) (k : Nat) (v : α) (h : t.wf d = true) :
    (t.set d k v).wf d = true := by
  unfold Tab.set
  split
  · exact Tab.wfFrom_erase d t 0 k h
  · exact Tab.wfFrom_insert d t 0 k v h (by omega) (by assumption)

theorem Tab.wfFrom_filter [DecidableEq α] (d : Nat → α) (p : Nat × α → Bool) :
    ∀ (t : Tab α) (lo : Nat), Tab.wfFrom d lo t = true → Tab.wfFrom d lo (t.filter p) = true
  | [], _, _ => rfl
  | (k', v') :: t, lo, h => by
    simp only [Tab.wfFrom, Bool.and_eq_true, decide_eq_true_eq] at h
    rw [List.filter_cons]
    split
    · simp only [Tab.wfFrom, Bool.and_eq_true, decide_eq_true_eq]
      exact ⟨h.1, Tab.wfFrom_filter d p t _ h.2⟩
    · exact Tab.wfFrom_mono d _ (k' + 1) lo (by omega) (Tab.wfFrom_filter d p t _ h.2)

/-- Dropping a range of keys keeps the canonical form. -/
theorem Tab.wf_dropRange [DecidableEq α] (d : Nat → α) (t : Tab α) (lo hi : Nat) (h : t.wf d = true) :
    (t.dropRange lo hi).wf d = true :=
  Tab.wfFrom_filter d _ t 0 h

end Sys2Proof.Machine
end

