-- ==== Sys2Proof/Laws/Bytes.lean ====
section
/-!
SUPPORT. Byte memories: what a write leaves, what it is read back as, and that it keeps the canonical form; the bytes of a
number.
-/
namespace Sys2Proof.Machine

/-- A number's bytes spell the number, as far as they go. -/
theorem ofBytes_leBytes : ∀ n x : Nat, ofBytes (leBytes x n) = x % 256 ^ n
  | 0, x => by simp [leBytes, ofBytes, Nat.mod_one]
  | n + 1, x => by
    have h : x % (256 * 256 ^ n) = x % 256 + 256 * (x / 256 % 256 ^ n) := Nat.mod_mul
    have h1 : 256 ^ (n + 1) = 256 * 256 ^ n := by rw [Nat.pow_succ, Nat.mul_comm]
    have h2 : (2 : Nat) ^ 8 = 256 := rfl
    rw [leBytes, ofBytes, ofBytes_leBytes n, BitVec.toNat_ofNat, Nat.shiftLeft_eq, Nat.shiftRight_eq_div_pow, h1, h, h2]
    omega

/-- Bytes below the first address written stay. -/
theorem get_writeBytes_before (d : List Byte) : ∀ (t : Tab Byte) (a j : Nat), j < a →
    (writeBytes t a d).get byteZero j = t.get byteZero j := by
  induction d with
  | nil => intro t a j h; rfl
  | cons x d ih =>
    intro t a j h
    rw [writeBytes, ih _ _ _ (by omega), Tab.get_set_other _ _ _ _ _ (by omega)]

/-- What is written is read back. -/
theorem readBytes_writeBytes (d : List Byte) : ∀ (t : Tab Byte) (a : Nat), readBytes (writeBytes t a d) a d.length = d := by
  induction d with
  | nil => intro t a; rfl
  | cons x d ih =>
    intro t a
    rw [List.length_cons, readBytes, writeBytes, ih, get_writeBytes_before _ _ _ _ (by omega), Tab.get_set_same]

@[simp] theorem leBytes_length : ∀ n x : Nat, (leBytes x n).length = n
  | 0, _ => rfl
  | n + 1, x => by rw [leBytes, List.length_cons, leBytes_length]

/-- Bytes outside the addresses written stay. -/
theorem get_writeBytes_other (d : List Byte) : ∀ (t : Tab Byte) (a j : Nat), ¬(a ≤ j ∧ j < a + d.length) →
    (writeBytes t a d).get byteZero j = t.get byteZero j := by
  induction d with
  | nil => intro t a j _; rfl
  | cons x d ih =>
    intro t a j h
    rw [List.length_cons] at h
    rw [writeBytes, ih _ _ _ (by omega), Tab.get_set_other _ _ _ _ _ (by omega)]

/-- A write keeps the canonical form. -/
theorem wf_writeBytes (d : List Byte) : ∀ (t : Tab Byte) (a : Nat), t.wf byteZero = true →
    (writeBytes t a d).wf byteZero = true := by
  induction d with
  | nil => intro t a h; exact h
  | cons x d ih => intro t a h; exact ih _ _ (Tab.wf_set _ _ _ _ h)

/-- A write of the Ledger leaves every byte outside it. -/
theorem Block.ledger_other (b : Block) (a j : Nat) (d : List Byte) (h : ¬(a ≤ j ∧ j < a + d.length)) :
    (b.ledWrite a d).ledger.get byteZero j = b.ledger.get byteZero j := get_writeBytes_other d _ _ _ h

/-- What is written to the Ledger is read back. -/
@[simp] theorem Block.ledRead_ledWrite (b : Block) (a : Nat) (d : List Byte) : (b.ledWrite a d).ledRead a d.length = d :=
  readBytes_writeBytes d _ _

/-- What is written to a scratchpad is read back. -/
@[simp] theorem Block.spRead_spWrite (b : Block) (c a : Nat) (d : List Byte) : (b.spWrite c a d).spRead c a d.length = d :=
  readBytes_writeBytes d _ _

/-- The middle of three lists. -/
theorem slice_at (a b c : List Byte) (n m : Nat) (h : a.length = n) (h' : b.length = m) : slice (a ++ (b ++ c)) n m = b := by
  subst h h'
  simp [slice]

end Sys2Proof.Machine
end

