-- ==== Sys2Proof/Laws/Issue.lean ====
section
/-!
SUPPORT. What the head of a queue does at its issue point.
-/
namespace Sys2Proof.Machine

/-- A read that meets no word of an error answers none and changes nothing (R406). -/
theorem sramRead_clean {b : Block} {kind unit a n : Nat}
    (h : ∀ x ∈ b.sramBad, x.kind = kind → x.unit = unit → x.word * 8 < a + n → ¬a < x.word * 8 + 8) :
    b.sramRead kind unit a n = (b, none) := by
  have hit : ∀ x ∈ b.sramBad, (x.kind == kind && x.unit == unit && decide (x.word * 8 < a + n) &&
      decide (a < x.word * 8 + 8)) = false := by
    intro x hx
    by_cases h1 : x.kind = kind <;> by_cases h2 : x.unit = unit <;> by_cases h3 : x.word * 8 < a + n <;> simp [h1, h2, h3]
    exact Nat.le_of_not_lt (h x hx h1 h2 h3)
  unfold Block.sramRead
  have hs : b.sramBad.filter (fun x => (x.kind == kind && x.unit == unit && decide (x.word * 8 < a + n) &&
      decide (a < x.word * 8 + 8)) && !x.double) = [] :=
    List.filter_eq_nil_iff.2 (fun x hx => by simp [hit x hx])
  have hf : b.sramBad.find? (fun x => x.kind == kind && x.unit == unit && decide (x.word * 8 < a + n) &&
      decide (a < x.word * 8 + 8)) = none :=
    List.find?_eq_none.2 (fun x hx => by simp [hit x hx])
  simp only [hs, List.isEmpty_nil, ↓reduceIte, hf]

/-- An entry whose descriptor words hold no error comes to issue, checked, over the same block (R406). -/
theorem admit_clean {b : Block} {c e l i : Nat} {en : Entry}
    (h : ∀ x ∈ b.sramBad, x.kind = 3 → x.unit = c → x.word / 4 ∉ (en.handles e).1 ++ (en.handles e).2) :
    b.admitEntry c e l i en = .ok (b, i, { en with checked := true }) := by
  have step : ∀ hs : List Nat, (∀ y ∈ hs, y ∈ (en.handles e).1 ++ (en.handles e).2) → b.readHandles c hs = (b, none) := by
    intro hs
    induction hs with
    | nil => intro _; rfl
    | cons y t ih =>
      intro hy
      have hr : b.sramRead 3 c (32 * y) 32 = (b, none) := sramRead_clean (fun x hx hk hu h1 h2 =>
        h x hx hk hu (by rw [show x.word / 4 = y by omega]; exact hy y (List.mem_cons_self ..)))
      simp only [Block.readHandles, hr]
      exact ih (fun z hz => hy z (List.mem_cons_of_mem _ hz))
  have hd : b.readDescs c e en = (b, none) := by
    unfold Block.readDescs
    split
    · rfl
    · refine step _ (fun y hy => ?_)
      rcases List.mem_append.1 hy with hy | hy
      · exact List.mem_append_left _ hy
      · exact List.mem_append_right _ (List.mem_filter.1 hy).1
  simp only [Block.admitEntry, hd]

/-- An entry that is due passes the gate: the block and the entry as its own effect begins. -/
theorem gate_ok {b : Block} {c e l op maxOut : Nat} {extra : Entry → List CtrUse} {i : Nat} {en : Entry}
    (h : AtIssue b c e l op maxOut extra i en) :
    b.gate c e l op maxOut extra = .ok (b.issuing (qKey c e l) i en, i, en.issuing) := by
  obtain ⟨h1, h2, h3, h4, h5, h6, h7, h8, h9, h10⟩ := h
  have hc : (if en.checked = true then none else b.ctrCheck c (en.commonUses ++ extra en)) = none := by
    split
    · rfl
    · rcases h8 with h8 | h8
      · contradiction
      · exact h8
  have e1 : (!(b.canIssue c l) || decide (maxOut ≤ b.inFlight c e l) || (l == 0 && b.urgentFirst c e maxOut)) = false := by
    by_cases hl : l = 0
    · simp [h1, h3 hl, Nat.not_le.2 h2]
    · simp [h1, hl, Nat.not_le.2 h2]
  have hv : ∀ n, (b.mapEntry (qKey c e l) i (fun en => { en with checked := true })).ctrValue n = b.ctrValue n :=
    fun _ => rfl
  have hi : ¬(en.opcode ≠ op ∨ en.wait.isSome = true) := by simp [h6, h7]
  have ha : ∀ (b' : Block) (en' : Entry), b'.sramBad = b.sramBad → en'.handles e = en.handles e →
      b'.admitEntry c e l i en' = .ok (b', i, { en' with checked := true }) :=
    fun b' en' hb he => admit_clean (by rw [hb, he]; exact h10)
  unfold Block.gate Block.issuing Entry.issuing
  simp only [e1, h4, h5, hc, hv, hi, Bool.false_eq_true, ↓reduceIte]
  cases hw : en.waite <;> cases hg : en.got1 <;> simp only [Bool.and_false, Bool.and_true, Bool.not_false, Bool.not_true,
    Bool.or_false, Bool.or_true, Bool.false_eq_true, ↓reduceIte]
  · rw [ha, hg] <;> rfl
  · rw [ha, hg] <;> rfl
  · rw [if_pos (h9 hw hg), ha] <;> rfl
  · rw [ha, hg] <;> rfl

end Sys2Proof.Machine
end

