-- ==== Sys2Proof/Laws/State.lean ====
section
/-!
SUPPORT. What the base operations on the block leave alone, and what a register reads after a register was written.
-/
namespace Sys2Proof.Machine

@[simp] theorem Block.reg_setReg_same (b : Block) (a : Nat) (v : DWord) : (b.setReg a v).reg a = v := by
  simp [Block.reg, Block.setReg]

theorem Block.reg_setReg_other (b : Block) {a j : Nat} (v : DWord) (h : j ≠ a) : (b.setReg a v).reg j = b.reg j :=
  Tab.get_set_other resetReg b.regs a j v h

@[simp] theorem Block.queue_setReg (b : Block) (a k : Nat) (v : DWord) : (b.setReg a v).queue k = b.queue k := rfl
@[simp] theorem Block.queue_setQueue_same (b : Block) (k : Nat) (q : List Entry) : (b.setQueue k q).queue k = q := by
  simp [Block.queue, Block.setQueue]
theorem Block.queue_setQueue_other (b : Block) {k j : Nat} (q : List Entry) (h : j ≠ k) :
    (b.setQueue k q).queue j = b.queue j := Tab.get_set_other noQueue b.queues k j q h
@[simp] theorem Block.reg_setQueue (b : Block) (k a : Nat) (q : List Entry) : (b.setQueue k q).reg a = b.reg a := rfl
@[simp] theorem Block.reg_mapEntry (b : Block) (k i a : Nat) (f : Entry → Entry) : (b.mapEntry k i f).reg a = b.reg a := rfl
@[simp] theorem Block.reg_mapItem (b : Block) (id a : Nat) (f : Item → Item) : (b.mapItem id f).reg a = b.reg a := rfl

theorem RegsIn.refl {p : Nat → Prop} {b : Block} : RegsIn p b b := ⟨fun _ _ => rfl⟩
theorem RegsIn.trans {p : Nat → Prop} {b b' b'' : Block} (h : RegsIn p b b') (h' : RegsIn p b' b'') : RegsIn p b b'' :=
  ⟨fun a ha => (h'.same a ha).trans (h.same a ha)⟩
theorem RegsIn.setReg {p : Nat → Prop} {b : Block} {a : Nat} {v : DWord} (h : p a) : RegsIn p b (b.setReg a v) :=
  ⟨fun _ hj => Block.reg_setReg_other b v (fun e => hj (e ▸ h))⟩
theorem RegsIn.setRn {p : Nat → Prop} {b : Block} {a n : Nat} (h : p a) : RegsIn p b (b.setRn a n) := RegsIn.setReg h
theorem RegsIn.setCtrValue {p : Nat → Prop} {b : Block} {n v : Nat} (h : p (rCtr n)) : RegsIn p b (b.setCtrValue n v) :=
  RegsIn.setReg h
/-- What keeps the registers as data keeps every one of them. -/
theorem RegsIn.of_regs {p : Nat → Prop} {b b' : Block} (h : b'.regs = b.regs) : RegsIn p b b' :=
  ⟨fun _ _ => by rw [Block.reg, h]; rfl⟩

theorem EntryFrame.refl {b : Block} : EntryFrame b b := ⟨_, _, _, _, _, rfl⟩
theorem EntryFrame.trans {b b' b'' : Block} (h : EntryFrame b b') (h' : EntryFrame b' b'') : EntryFrame b b'' := by
  obtain ⟨_, _, _, _, _, e⟩ := h
  obtain ⟨_, _, _, _, _, e'⟩ := h'
  exact ⟨_, _, _, _, _, by rw [e', e]⟩

theorem EntryFrame.setReg (b : Block) (a : Nat) (v : DWord) : EntryFrame b (b.setReg a v) := ⟨_, _, _, _, _, rfl⟩
theorem EntryFrame.setRn (b : Block) (a n : Nat) : EntryFrame b (b.setRn a n) := EntryFrame.setReg ..
theorem EntryFrame.setCtrValue (b : Block) (n v : Nat) : EntryFrame b (b.setCtrValue n v) := EntryFrame.setReg ..
theorem EntryFrame.setQueue (b : Block) (k : Nat) (q : List Entry) : EntryFrame b (b.setQueue k q) :=
  ⟨_, _, _, _, _, rfl⟩
theorem EntryFrame.mapItem (b : Block) (k : Nat) (f : Item → Item) : EntryFrame b (b.mapItem k f) :=
  ⟨_, _, _, _, _, rfl⟩

/-- A logged event touches the event log, its NEXT and LOST registers, and what the standing orders have to consider. -/
theorem EntryFrame.logEvent (b : Block) (cls unit body : Nat) : EntryFrame b (b.logEvent cls unit body) := by
  unfold Block.logEvent
  extract_lets n old lost t e t1 t2
  have ht : EntryFrame b t := by
    show EntryFrame b (if lost = true then b.bump32 (rEl 8) 1 else b)
    split <;> exact ⟨_, _, _, _, _, rfl⟩
  refine ht.trans ?_
  split <;> exact ⟨_, _, _, _, _, rfl⟩

theorem RegsIn.logEvent {p : Nat → Prop} (h0 : p (rEl 0)) (h8 : p (rEl 8)) (b : Block) (cls unit body : Nat) :
    RegsIn p b (b.logEvent cls unit body) := by
  constructor
  intro a ha
  have n0 : a ≠ rEl 0 := fun e => ha (e ▸ h0)
  have n8 : a ≠ rEl 8 := fun e => ha (e ▸ h8)
  unfold Block.logEvent
  extract_lets n old lost t e t1 t2
  have ht : t.reg a = b.reg a := by
    show (if lost = true then b.bump32 (rEl 8) 1 else b).reg a = _
    split
    · exact Block.reg_setReg_other _ _ n8
    · rfl
  have h2 : t2.reg a = t1.reg a := by
    show (t1.setReg (rEl 0) _).reg a = _
    exact Block.reg_setReg_other _ _ n0
  have h1 : t1.regs = t.regs := rfl
  have h3 : t2.reg a = b.reg a := by rw [h2, Block.reg, h1]; exact ht
  clear_value t2
  split
  · show Tab.get resetReg t2.regs a = _
    exact h3
  · exact h3

theorem EntryFrame.setRec (b : Block) (a r : Nat) : ∀ n, EntryFrame b (b.setRec a r n)
  | 0 => EntryFrame.refl
  | n + 1 => (EntryFrame.setRec b a r n).trans (EntryFrame.setReg ..)

theorem RegsIn.setRec {p : Nat → Prop} (b : Block) (a r : Nat) :
    ∀ n, (∀ i, i < n → p (a + 4 * i)) → RegsIn p b (b.setRec a r n)
  | 0, _ => RegsIn.refl
  | n + 1, h => (RegsIn.setRec b a r n (fun i hi => h i (by omega))).trans (RegsIn.setReg (h n (by omega)))

end Sys2Proof.Machine
end

