-- ==== Sys2Proof/Laws/Entry.lean ====
section
/-!
SUPPORT. What the completion of an entry, with its signal and its fault, can touch.
-/
namespace Sys2Proof.Machine

theorem EntryEnds.refl {c : Nat} {en : Entry} {b : Block} : EntryEnds c en b b := ⟨EntryFrame.refl, RegsIn.refl⟩
theorem EntryEnds.trans {c : Nat} {en : Entry} {b b' b'' : Block} (h : EntryEnds c en b b') (h' : EntryEnds c en b' b'') :
    EntryEnds c en b b'' :=
  ⟨h.1.trans h'.1, RegsIn.trans h.2 h'.2⟩

theorem EntryFrame.foldl {β : Type} (f : Block → β → Block) (h : ∀ b x, EntryFrame b (f b x)) :
    ∀ (l : List β) (b : Block), EntryFrame b (l.foldl f b)
  | [], _ => EntryFrame.refl
  | x :: l, b => (h b x).trans (EntryFrame.foldl f h l (f b x))

theorem RegsIn.foldl {β : Type} {p : Nat → Prop} (f : Block → β → Block) (h : ∀ b x, RegsIn p b (f b x)) :
    ∀ (l : List β) (b : Block), RegsIn p b (l.foldl f b)
  | [], _ => RegsIn.refl
  | x :: l, b => (h b x).trans (RegsIn.foldl f h l (f b x))

/-- A fault record is written into registers of its core and into the event log (R173). -/
theorem EntryFrame.raiseFault (b : Block) (x : FaultSite) (code detail : Nat) (noStop : Bool) :
    EntryFrame b (b.raiseFault x code detail noStop).1 := by
  unfold Block.raiseFault
  extract_lets r ev st t u stop
  have h1 : EntryFrame b t := (EntryFrame.logEvent ..).trans (EntryFrame.setReg ..)
  split
  · exact h1.trans ((EntryFrame.setRec ..).trans (EntryFrame.setReg ..))
  · clear_value stop
    have h2 : EntryFrame t u := by
      show EntryFrame t (if _ then _ else _)
      split
      · exact EntryFrame.refl
      · exact (EntryFrame.setRec ..).trans (EntryFrame.setReg ..)
    refine h1.trans (h2.trans ?_)
    show EntryFrame u (if _ then _ else _)
    split
    · exact EntryFrame.setReg ..
    · exact EntryFrame.refl

theorem RegsIn.raiseFault {c : Nat} {en : Entry} (b : Block) (x : FaultSite) (code detail : Nat) (noStop : Bool)
    (hc : x.core = c) : RegsIn (entryReg c en) b (b.raiseFault x code detail noStop).1 := by
  subst hc
  have m4 : entryReg x.core en (rC x.core 4) := Or.inl (by simp)
  have mc : entryReg x.core en (rC x.core 0xC) := Or.inl (by simp)
  have mr : ∀ o, (o = 0xA0 ∨ o = 0xE0) → ∀ i, i < 8 → entryReg x.core en (rC x.core o + 4 * i) := by
    rintro o (rfl | rfl) i hi <;> exact Or.inr (by unfold rC; omega)
  unfold Block.raiseFault
  extract_lets r ev st t u stop
  have h1 : RegsIn (entryReg x.core en) b t :=
    (RegsIn.logEvent (Or.inl (by simp)) (Or.inl (by simp)) ..).trans (RegsIn.setReg mc)
  split
  · exact h1.trans ((RegsIn.setRec _ _ _ _ (mr _ (Or.inr rfl))).trans (RegsIn.setReg m4))
  · clear_value stop
    have h2 : RegsIn (entryReg x.core en) t u := by
      show RegsIn _ t (if _ then _ else _)
      split
      · exact RegsIn.refl
      · exact (RegsIn.setRec _ _ _ _ (mr _ (Or.inl rfl))).trans (RegsIn.setReg m4)
    refine h1.trans (h2.trans ?_)
    show RegsIn _ u (if _ then _ else _)
    split
    · exact RegsIn.setReg m4
    · exact RegsIn.refl

theorem EntryFrame.retire (b : Block) (k : Nat) : EntryFrame b (b.retire k) := by
  unfold Block.retire
  extract_lets q gone t
  exact (EntryFrame.setQueue b k _).trans (EntryFrame.foldl _ (fun _ _ => EntryFrame.mapItem ..) _ _)

theorem RegsIn.retire {p : Nat → Prop} (b : Block) (k : Nat) : RegsIn p b (b.retire k) := by
  unfold Block.retire
  extract_lets q gone t
  have h : RegsIn p b t := RegsIn.of_regs rfl
  exact h.trans (RegsIn.foldl (fun s en => s.mapItem en.item (Item.entryDone en.slot)) (fun _ _ => RegsIn.of_regs rfl) gone t)

/-- An entry that completes without a signal touches its queue and its item only. -/
theorem EntryEnds.finishEntry {c : Nat} {en : Entry} (b : Block) (k i : Nat) : EntryEnds c en b (b.finishEntry k i) :=
  ⟨(EntryFrame.setQueue ..).trans (EntryFrame.retire ..), 
    RegsIn.trans (b' := b.mapEntry k i (fun en => { en with stage := .finished, wait := none })) (RegsIn.of_regs rfl)
      (RegsIn.retire ..)⟩

/-- A fault of an entry touches its record, its item and its queue. -/
theorem EntryEnds.faultEntry {c e l : Nat} {en : Entry} (b : Block) (i code detail : Nat) (en' : Entry) (noStop : Bool) :
    EntryEnds c en b (b.faultEntry c e l i en' code detail noStop) := by
  unfold Block.faultEntry
  exact EntryEnds.trans (b' := (b.raiseFault (entrySite c e l en') code detail noStop).1)
    ⟨EntryFrame.raiseFault .., RegsIn.raiseFault _ _ _ _ _ rfl⟩
    (EntryEnds.trans (b' := (b.raiseFault (entrySite c e l en') code detail noStop).1.mapItem en'.item
      (fun it => it.fault code (b.raiseFault (entrySite c e l en') code detail noStop).2))
      ⟨EntryFrame.mapItem .., RegsIn.of_regs rfl⟩ (EntryEnds.finishEntry ..))

theorem EntryFrame.grantAt (b : Block) (k i : Nat) (en : Entry) (w : Wait) : EntryFrame b (b.grantAt k i en w) :=
  ⟨_, _, _, _, _, rfl⟩

theorem RegsIn.grantAt {p : Nat → Prop} (b : Block) (k i : Nat) (en : Entry) (w : Wait) (h : p (rCtr w.ctr)) :
    RegsIn p b (b.grantAt k i en w) :=
  RegsIn.trans (b' := b.setCtrValue w.ctr (b.ctrValue w.ctr - w.need)) (RegsIn.setReg h) (RegsIn.of_regs rfl)

/-- One head's turn at counter n touches that counter's VALUE at most. -/
theorem EntryFrame.grantHead (b : Block) (n k : Nat) : EntryFrame b (b.grantHead n k) := by
  unfold Block.grantHead
  split
  · exact EntryFrame.refl
  · split
    · exact EntryFrame.refl
    · split
      · exact EntryFrame.refl
      · split
        · exact EntryFrame.refl
        · split
          · split
            · exact EntryFrame.setQueue ..
            · exact EntryFrame.refl
          · split
            · exact EntryFrame.grantAt ..
            · exact EntryFrame.refl

theorem RegsIn.grantHead {p : Nat → Prop} (b : Block) (n k : Nat) (h : p (rCtr n)) : RegsIn p b (b.grantHead n k) := by
  unfold Block.grantHead
  split
  · exact RegsIn.refl
  · split
    · exact RegsIn.refl
    · split
      · exact RegsIn.refl
      · split
        · exact RegsIn.refl
        · rename_i hw
          have hw := Decidable.not_not.mp hw
          split
          · split
            · exact RegsIn.of_regs rfl
            · exact RegsIn.refl
          · split
            · exact RegsIn.grantAt _ _ _ _ _ (hw ▸ h)
            · exact RegsIn.refl

theorem EntryFrame.grantAll (b : Block) (n : Nat) : EntryFrame b (b.grantAll n) :=
  EntryFrame.foldl _ (fun _ _ => EntryFrame.grantHead ..) _ _

theorem RegsIn.grantAll {p : Nat → Prop} (b : Block) (n : Nat) (h : p (rCtr n)) : RegsIn p b (b.grantAll n) :=
  RegsIn.foldl _ (fun _ _ => RegsIn.grantHead _ _ _ h) _ _

theorem EntryFrame.signal (b : Block) (x : SigSource) (foreign : Bool) (slot n amount : Nat) :
    EntryFrame b (b.signal x foreign slot n amount).1 := by
  unfold Block.signal
  repeat' split
  · exact (EntryFrame.logEvent ..).trans (EntryFrame.setReg ..)
  · exact EntryFrame.setReg ..
  · exact EntryFrame.setReg ..
  · dsimp only
    exact (EntryFrame.setCtrValue b n _).trans ((EntryFrame.setRn _ _ _).trans (EntryFrame.grantAll _ n))

/-- The registers a signal of counter n may write. -/
theorem RegsIn.signal {p : Nat → Prop} (b : Block) (x : SigSource) (foreign : Bool) (slot n amount : Nat)
    (h0 : p (rEl 0)) (h8 : p (rEl 8)) (hb : p (rSy 0x10004)) (hf : p (rSy 0x10008)) (hn : p (rCtr n))
    (hl : p (rCtr n + 8)) : RegsIn p b (b.signal x foreign slot n amount).1 := by
  unfold Block.signal
  repeat' split
  · exact (RegsIn.logEvent h0 h8 ..).trans (RegsIn.setReg hb)
  · exact RegsIn.setReg hf
  · exact RegsIn.setReg hf
  · dsimp only
    exact (RegsIn.setCtrValue hn).trans ((RegsIn.setRn hl).trans (RegsIn.grantAll _ _ hn))

/-- An entry's own common signal touches what its completion may touch. -/
theorem EntryEnds.signal {c : Nat} (b : Block) (x : SigSource) (foreign : Bool) (en : Entry) :
    EntryEnds c en b (b.signal x foreign 0 en.sig 1).1 :=
  ⟨EntryFrame.signal .., RegsIn.signal _ _ _ _ _ _ (Or.inl (by simp)) (Or.inl (by simp)) (Or.inl (by simp))
    (Or.inl (by simp)) (Or.inl (by simp)) (Or.inl (by simp))⟩

/-- The common signal of an entry (R269). -/
theorem EntryEnds.endEntry {c e l : Nat} (b : Block) (i : Nat) (en : Entry) : EntryEnds c en b (b.endEntry c e l i en) := by
  unfold Block.endEntry
  split
  · unfold Block.signalFrom
    dsimp only
    have h := EntryEnds.signal (c := c) b (entrySource c e l en) (b.foreignTo c en.sig) en
    split <;> rename_i e1 <;> rw [e1] at h
    · exact h.trans (EntryEnds.faultEntry ..)
    · exact h.trans (EntryEnds.faultEntry ..)
    · exact h.trans (EntryEnds.finishEntry ..)
  · exact EntryEnds.finishEntry ..

/-- What the common wait of an entry adds before its effect begins. -/
theorem EntryEnds.issuing {c : Nat} (b : Block) (k i : Nat) (en : Entry) : EntryEnds c en b (b.issuing k i en) := by
  unfold Block.issuing
  extract_lets t
  have h : EntryEnds c en b t := ⟨EntryFrame.setQueue .., RegsIn.of_regs rfl⟩
  split
  · exact h.trans ⟨EntryFrame.grantAt .., RegsIn.grantAt _ _ _ _ _ (Or.inl (by simp))⟩
  · exact h

end Sys2Proof.Machine
end

