-- ==== Sys2Proof/Laws/Update.lean ====
section
/-!
SUPPORT. Each base update of the block leaves every other field as it was: one statement an update, a conjunct a field,
which simp takes apart.
-/
namespace Sys2Proof.Machine

@[simp] theorem Block.setReg_fields (b : Block) (a : Nat) (v : DWord) :
    (b.setReg a v).cycle = b.cycle ∧ (b.setReg a v).timeBase = b.timeBase ∧ (b.setReg a v).rtcBase = b.rtcBase ∧
    (b.setReg a v).rtcAt = b.rtcAt ∧ (b.setReg a v).free = b.free ∧ (b.setReg a v).stamp = b.stamp ∧ (b.setReg a
    v).scratch = b.scratch ∧ (b.setReg a v).ledger = b.ledger ∧ (b.setReg a v).loopMem = b.loopMem ∧ (b.setReg a
    v).planMem = b.planMem ∧ (b.setReg a v).stackMem = b.stackMem ∧ (b.setReg a v).descs = b.descs ∧ (b.setReg a
    v).lines = b.lines ∧ (b.setReg a v).rings = b.rings ∧ (b.setReg a v).items = b.items ∧ (b.setReg a v).calls =
    b.calls ∧ (b.setReg a v).queues = b.queues ∧ (b.setReg a v).baselines = b.baselines ∧ (b.setReg a v).winBuf =
    b.winBuf ∧ (b.setReg a v).pathM = b.pathM ∧ (b.setReg a v).pathI = b.pathI ∧ (b.setReg a v).hostOut = b.hostOut
    ∧ (b.setReg a v).latches = b.latches ∧ (b.setReg a v).evlog = b.evlog ∧ (b.setReg a v).orderEvents =
    b.orderEvents ∧ (b.setReg a v).vioLog = b.vioLog ∧ (b.setReg a v).sessions = b.sessions ∧ (b.setReg a v).sramBad
    = b.sramBad ∧ (b.setReg a v).sfuSlots = b.sfuSlots ∧ (b.setReg a v).sfuLoads = b.sfuLoads ∧ (b.setReg a
    v).measures = b.measures ∧ (b.setReg a v).dram = b.dram ∧ (b.setReg a v).dramGen = b.dramGen ∧ (b.setReg a
    v).fills = b.fills ∧ (b.setReg a v).pillars = b.pillars ∧ (b.setReg a v).spareMap = b.spareMap ∧ (b.setReg a
    v).ops = b.ops ∧ (b.setReg a v).opSeq = b.opSeq ∧ (b.setReg a v).bnkFault = b.bnkFault ∧ (b.setReg a v).blus =
    b.blus ∧ (b.setReg a v).spareMarks = b.spareMarks ∧ (b.setReg a v).jobKeys = b.jobKeys ∧ (b.setReg a v).txCtr =
    b.txCtr ∧ (b.setReg a v).rxCtr = b.rxCtr ∧ (b.setReg a v).peerOut = b.peerOut ∧ (b.setReg a v).reqId = b.reqId ∧
    (b.setReg a v).attach = b.attach ∧ (b.setReg a v).nextSid = b.nextSid ∧ (b.setReg a v).spdmOut = b.spdmOut ∧
    (b.setReg a v).ideKeys = b.ideKeys ∧ (b.setReg a v).bifurcated = b.bifurcated ∧ (b.setReg a v).dawnWidth =
    b.dawnWidth ∧ (b.setReg a v).bundles = b.bundles ∧ (b.setReg a v).bundleJobs = b.bundleJobs ∧ (b.setReg a
    v).zeroising = b.zeroising ∧ (b.setReg a v).norOrders = b.norOrders ∧ (b.setReg a v).norArm = b.norArm ∧
    (b.setReg a v).fwRun = b.fwRun ∧ (b.setReg a v).fwCopies = b.fwCopies ∧ (b.setReg a v).fwStarted = b.fwStarted ∧
    (b.setReg a v).fwJob = b.fwJob ∧ (b.setReg a v).fwNext = b.fwNext ∧ (b.setReg a v).seqs = b.seqs ∧ (b.setReg a
    v).beat = b.beat ∧ (b.setReg a v).shelfOut = b.shelfOut ∧ (b.setReg a v).i3cAddr = b.i3cAddr ∧ (b.setReg a
    v).straps = b.straps ∧ (b.setReg a v).domQueue = b.domQueue ∧ (b.setReg a v).seals = b.seals ∧ (b.setReg a
    v).sealing = b.sealing ∧ (b.setReg a v).twilight = b.twilight ∧ (b.setReg a v).found = b.found ∧ (b.setReg a
    v).intact = b.intact ∧ (b.setReg a v).replayed = b.replayed ∧ (b.setReg a v).reissued = b.reissued ∧ (b.setReg a
    v).heldBack = b.heldBack ∧ (b.setReg a v).dawnAt = b.dawnAt ∧ (b.setReg a v).stringsTested = b.stringsTested ∧
    (b.setReg a v).failedParts = b.failedParts ∧ (b.setReg a v).stringEnergy = b.stringEnergy ∧ (b.setReg a
    v).mrstHeld = b.mrstHeld ∧ (b.setReg a v).supplyOk = b.supplyOk ∧ (b.setReg a v).alarms = b.alarms ∧ (b.setReg a
    v).sources = b.sources ∧ (b.setReg a v).aonLost = b.aonLost ∧ (b.setReg a v).cell = b.cell ∧ (b.setReg a
    v).orderAt = b.orderAt ∧ (b.setReg a v).testedDies = b.testedDies ∧ (b.setReg a v).clrPend = b.clrPend ∧
    (b.setReg a v).life = b.life := by
  repeat' apply And.intro
  all_goals rfl

@[simp] theorem Block.setRn_fields (b : Block) (a n : Nat) :
    (b.setRn a n).cycle = b.cycle ∧ (b.setRn a n).timeBase = b.timeBase ∧ (b.setRn a n).rtcBase = b.rtcBase ∧
    (b.setRn a n).rtcAt = b.rtcAt ∧ (b.setRn a n).free = b.free ∧ (b.setRn a n).stamp = b.stamp ∧ (b.setRn a
    n).scratch = b.scratch ∧ (b.setRn a n).ledger = b.ledger ∧ (b.setRn a n).loopMem = b.loopMem ∧ (b.setRn a
    n).planMem = b.planMem ∧ (b.setRn a n).stackMem = b.stackMem ∧ (b.setRn a n).descs = b.descs ∧ (b.setRn a
    n).lines = b.lines ∧ (b.setRn a n).rings = b.rings ∧ (b.setRn a n).items = b.items ∧ (b.setRn a n).calls =
    b.calls ∧ (b.setRn a n).queues = b.queues ∧ (b.setRn a n).baselines = b.baselines ∧ (b.setRn a n).winBuf =
    b.winBuf ∧ (b.setRn a n).pathM = b.pathM ∧ (b.setRn a n).pathI = b.pathI ∧ (b.setRn a n).hostOut = b.hostOut ∧
    (b.setRn a n).latches = b.latches ∧ (b.setRn a n).evlog = b.evlog ∧ (b.setRn a n).orderEvents = b.orderEvents ∧
    (b.setRn a n).vioLog = b.vioLog ∧ (b.setRn a n).sessions = b.sessions ∧ (b.setRn a n).sramBad = b.sramBad ∧
    (b.setRn a n).sfuSlots = b.sfuSlots ∧ (b.setRn a n).sfuLoads = b.sfuLoads ∧ (b.setRn a n).measures = b.measures
    ∧ (b.setRn a n).dram = b.dram ∧ (b.setRn a n).dramGen = b.dramGen ∧ (b.setRn a n).fills = b.fills ∧ (b.setRn a
    n).pillars = b.pillars ∧ (b.setRn a n).spareMap = b.spareMap ∧ (b.setRn a n).ops = b.ops ∧ (b.setRn a n).opSeq =
    b.opSeq ∧ (b.setRn a n).bnkFault = b.bnkFault ∧ (b.setRn a n).blus = b.blus ∧ (b.setRn a n).spareMarks =
    b.spareMarks ∧ (b.setRn a n).jobKeys = b.jobKeys ∧ (b.setRn a n).txCtr = b.txCtr ∧ (b.setRn a n).rxCtr = b.rxCtr
    ∧ (b.setRn a n).peerOut = b.peerOut ∧ (b.setRn a n).reqId = b.reqId ∧ (b.setRn a n).attach = b.attach ∧ (b.setRn
    a n).nextSid = b.nextSid ∧ (b.setRn a n).spdmOut = b.spdmOut ∧ (b.setRn a n).ideKeys = b.ideKeys ∧ (b.setRn a
    n).bifurcated = b.bifurcated ∧ (b.setRn a n).dawnWidth = b.dawnWidth ∧ (b.setRn a n).bundles = b.bundles ∧
    (b.setRn a n).bundleJobs = b.bundleJobs ∧ (b.setRn a n).zeroising = b.zeroising ∧ (b.setRn a n).norOrders =
    b.norOrders ∧ (b.setRn a n).norArm = b.norArm ∧ (b.setRn a n).fwRun = b.fwRun ∧ (b.setRn a n).fwCopies =
    b.fwCopies ∧ (b.setRn a n).fwStarted = b.fwStarted ∧ (b.setRn a n).fwJob = b.fwJob ∧ (b.setRn a n).fwNext =
    b.fwNext ∧ (b.setRn a n).seqs = b.seqs ∧ (b.setRn a n).beat = b.beat ∧ (b.setRn a n).shelfOut = b.shelfOut ∧
    (b.setRn a n).i3cAddr = b.i3cAddr ∧ (b.setRn a n).straps = b.straps ∧ (b.setRn a n).domQueue = b.domQueue ∧
    (b.setRn a n).seals = b.seals ∧ (b.setRn a n).sealing = b.sealing ∧ (b.setRn a n).twilight = b.twilight ∧
    (b.setRn a n).found = b.found ∧ (b.setRn a n).intact = b.intact ∧ (b.setRn a n).replayed = b.replayed ∧ (b.setRn
    a n).reissued = b.reissued ∧ (b.setRn a n).heldBack = b.heldBack ∧ (b.setRn a n).dawnAt = b.dawnAt ∧ (b.setRn a
    n).stringsTested = b.stringsTested ∧ (b.setRn a n).failedParts = b.failedParts ∧ (b.setRn a n).stringEnergy =
    b.stringEnergy ∧ (b.setRn a n).mrstHeld = b.mrstHeld ∧ (b.setRn a n).supplyOk = b.supplyOk ∧ (b.setRn a
    n).alarms = b.alarms ∧ (b.setRn a n).sources = b.sources ∧ (b.setRn a n).aonLost = b.aonLost ∧ (b.setRn a
    n).cell = b.cell ∧ (b.setRn a n).orderAt = b.orderAt ∧ (b.setRn a n).testedDies = b.testedDies ∧ (b.setRn a
    n).clrPend = b.clrPend ∧ (b.setRn a n).life = b.life := by
  repeat' apply And.intro
  all_goals rfl

@[simp] theorem Block.setFld_fields (b : Block) (a hi lo v : Nat) :
    (b.setFld a hi lo v).cycle = b.cycle ∧ (b.setFld a hi lo v).timeBase = b.timeBase ∧ (b.setFld a hi lo v).rtcBase
    = b.rtcBase ∧ (b.setFld a hi lo v).rtcAt = b.rtcAt ∧ (b.setFld a hi lo v).free = b.free ∧ (b.setFld a hi lo
    v).stamp = b.stamp ∧ (b.setFld a hi lo v).scratch = b.scratch ∧ (b.setFld a hi lo v).ledger = b.ledger ∧
    (b.setFld a hi lo v).loopMem = b.loopMem ∧ (b.setFld a hi lo v).planMem = b.planMem ∧ (b.setFld a hi lo
    v).stackMem = b.stackMem ∧ (b.setFld a hi lo v).descs = b.descs ∧ (b.setFld a hi lo v).lines = b.lines ∧
    (b.setFld a hi lo v).rings = b.rings ∧ (b.setFld a hi lo v).items = b.items ∧ (b.setFld a hi lo v).calls =
    b.calls ∧ (b.setFld a hi lo v).queues = b.queues ∧ (b.setFld a hi lo v).baselines = b.baselines ∧ (b.setFld a hi
    lo v).winBuf = b.winBuf ∧ (b.setFld a hi lo v).pathM = b.pathM ∧ (b.setFld a hi lo v).pathI = b.pathI ∧
    (b.setFld a hi lo v).hostOut = b.hostOut ∧ (b.setFld a hi lo v).latches = b.latches ∧ (b.setFld a hi lo v).evlog
    = b.evlog ∧ (b.setFld a hi lo v).orderEvents = b.orderEvents ∧ (b.setFld a hi lo v).vioLog = b.vioLog ∧
    (b.setFld a hi lo v).sessions = b.sessions ∧ (b.setFld a hi lo v).sramBad = b.sramBad ∧ (b.setFld a hi lo
    v).sfuSlots = b.sfuSlots ∧ (b.setFld a hi lo v).sfuLoads = b.sfuLoads ∧ (b.setFld a hi lo v).measures =
    b.measures ∧ (b.setFld a hi lo v).dram = b.dram ∧ (b.setFld a hi lo v).dramGen = b.dramGen ∧ (b.setFld a hi lo
    v).fills = b.fills ∧ (b.setFld a hi lo v).pillars = b.pillars ∧ (b.setFld a hi lo v).spareMap = b.spareMap ∧
    (b.setFld a hi lo v).ops = b.ops ∧ (b.setFld a hi lo v).opSeq = b.opSeq ∧ (b.setFld a hi lo v).bnkFault =
    b.bnkFault ∧ (b.setFld a hi lo v).blus = b.blus ∧ (b.setFld a hi lo v).spareMarks = b.spareMarks ∧ (b.setFld a
    hi lo v).jobKeys = b.jobKeys ∧ (b.setFld a hi lo v).txCtr = b.txCtr ∧ (b.setFld a hi lo v).rxCtr = b.rxCtr ∧
    (b.setFld a hi lo v).peerOut = b.peerOut ∧ (b.setFld a hi lo v).reqId = b.reqId ∧ (b.setFld a hi lo v).attach =
    b.attach ∧ (b.setFld a hi lo v).nextSid = b.nextSid ∧ (b.setFld a hi lo v).spdmOut = b.spdmOut ∧ (b.setFld a hi
    lo v).ideKeys = b.ideKeys ∧ (b.setFld a hi lo v).bifurcated = b.bifurcated ∧ (b.setFld a hi lo v).dawnWidth =
    b.dawnWidth ∧ (b.setFld a hi lo v).bundles = b.bundles ∧ (b.setFld a hi lo v).bundleJobs = b.bundleJobs ∧
    (b.setFld a hi lo v).zeroising = b.zeroising ∧ (b.setFld a hi lo v).norOrders = b.norOrders ∧ (b.setFld a hi lo
    v).norArm = b.norArm ∧ (b.setFld a hi lo v).fwRun = b.fwRun ∧ (b.setFld a hi lo v).fwCopies = b.fwCopies ∧
    (b.setFld a hi lo v).fwStarted = b.fwStarted ∧ (b.setFld a hi lo v).fwJob = b.fwJob ∧ (b.setFld a hi lo
    v).fwNext = b.fwNext ∧ (b.setFld a hi lo v).seqs = b.seqs ∧ (b.setFld a hi lo v).beat = b.beat ∧ (b.setFld a hi
    lo v).shelfOut = b.shelfOut ∧ (b.setFld a hi lo v).i3cAddr = b.i3cAddr ∧ (b.setFld a hi lo v).straps = b.straps
    ∧ (b.setFld a hi lo v).domQueue = b.domQueue ∧ (b.setFld a hi lo v).seals = b.seals ∧ (b.setFld a hi lo
    v).sealing = b.sealing ∧ (b.setFld a hi lo v).twilight = b.twilight ∧ (b.setFld a hi lo v).found = b.found ∧
    (b.setFld a hi lo v).intact = b.intact ∧ (b.setFld a hi lo v).replayed = b.replayed ∧ (b.setFld a hi lo
    v).reissued = b.reissued ∧ (b.setFld a hi lo v).heldBack = b.heldBack ∧ (b.setFld a hi lo v).dawnAt = b.dawnAt ∧
    (b.setFld a hi lo v).stringsTested = b.stringsTested ∧ (b.setFld a hi lo v).failedParts = b.failedParts ∧
    (b.setFld a hi lo v).stringEnergy = b.stringEnergy ∧ (b.setFld a hi lo v).mrstHeld = b.mrstHeld ∧ (b.setFld a hi
    lo v).supplyOk = b.supplyOk ∧ (b.setFld a hi lo v).alarms = b.alarms ∧ (b.setFld a hi lo v).sources = b.sources
    ∧ (b.setFld a hi lo v).aonLost = b.aonLost ∧ (b.setFld a hi lo v).cell = b.cell ∧ (b.setFld a hi lo v).orderAt =
    b.orderAt ∧ (b.setFld a hi lo v).testedDies = b.testedDies ∧ (b.setFld a hi lo v).clrPend = b.clrPend ∧
    (b.setFld a hi lo v).life = b.life := by
  repeat' apply And.intro
  all_goals rfl

@[simp] theorem Block.orReg_fields (b : Block) (a m : Nat) :
    (b.orReg a m).cycle = b.cycle ∧ (b.orReg a m).timeBase = b.timeBase ∧ (b.orReg a m).rtcBase = b.rtcBase ∧
    (b.orReg a m).rtcAt = b.rtcAt ∧ (b.orReg a m).free = b.free ∧ (b.orReg a m).stamp = b.stamp ∧ (b.orReg a
    m).scratch = b.scratch ∧ (b.orReg a m).ledger = b.ledger ∧ (b.orReg a m).loopMem = b.loopMem ∧ (b.orReg a
    m).planMem = b.planMem ∧ (b.orReg a m).stackMem = b.stackMem ∧ (b.orReg a m).descs = b.descs ∧ (b.orReg a
    m).lines = b.lines ∧ (b.orReg a m).rings = b.rings ∧ (b.orReg a m).items = b.items ∧ (b.orReg a m).calls =
    b.calls ∧ (b.orReg a m).queues = b.queues ∧ (b.orReg a m).baselines = b.baselines ∧ (b.orReg a m).winBuf =
    b.winBuf ∧ (b.orReg a m).pathM = b.pathM ∧ (b.orReg a m).pathI = b.pathI ∧ (b.orReg a m).hostOut = b.hostOut ∧
    (b.orReg a m).latches = b.latches ∧ (b.orReg a m).evlog = b.evlog ∧ (b.orReg a m).orderEvents = b.orderEvents ∧
    (b.orReg a m).vioLog = b.vioLog ∧ (b.orReg a m).sessions = b.sessions ∧ (b.orReg a m).sramBad = b.sramBad ∧
    (b.orReg a m).sfuSlots = b.sfuSlots ∧ (b.orReg a m).sfuLoads = b.sfuLoads ∧ (b.orReg a m).measures = b.measures
    ∧ (b.orReg a m).dram = b.dram ∧ (b.orReg a m).dramGen = b.dramGen ∧ (b.orReg a m).fills = b.fills ∧ (b.orReg a
    m).pillars = b.pillars ∧ (b.orReg a m).spareMap = b.spareMap ∧ (b.orReg a m).ops = b.ops ∧ (b.orReg a m).opSeq =
    b.opSeq ∧ (b.orReg a m).bnkFault = b.bnkFault ∧ (b.orReg a m).blus = b.blus ∧ (b.orReg a m).spareMarks =
    b.spareMarks ∧ (b.orReg a m).jobKeys = b.jobKeys ∧ (b.orReg a m).txCtr = b.txCtr ∧ (b.orReg a m).rxCtr = b.rxCtr
    ∧ (b.orReg a m).peerOut = b.peerOut ∧ (b.orReg a m).reqId = b.reqId ∧ (b.orReg a m).attach = b.attach ∧ (b.orReg
    a m).nextSid = b.nextSid ∧ (b.orReg a m).spdmOut = b.spdmOut ∧ (b.orReg a m).ideKeys = b.ideKeys ∧ (b.orReg a
    m).bifurcated = b.bifurcated ∧ (b.orReg a m).dawnWidth = b.dawnWidth ∧ (b.orReg a m).bundles = b.bundles ∧
    (b.orReg a m).bundleJobs = b.bundleJobs ∧ (b.orReg a m).zeroising = b.zeroising ∧ (b.orReg a m).norOrders =
    b.norOrders ∧ (b.orReg a m).norArm = b.norArm ∧ (b.orReg a m).fwRun = b.fwRun ∧ (b.orReg a m).fwCopies =
    b.fwCopies ∧ (b.orReg a m).fwStarted = b.fwStarted ∧ (b.orReg a m).fwJob = b.fwJob ∧ (b.orReg a m).fwNext =
    b.fwNext ∧ (b.orReg a m).seqs = b.seqs ∧ (b.orReg a m).beat = b.beat ∧ (b.orReg a m).shelfOut = b.shelfOut ∧
    (b.orReg a m).i3cAddr = b.i3cAddr ∧ (b.orReg a m).straps = b.straps ∧ (b.orReg a m).domQueue = b.domQueue ∧
    (b.orReg a m).seals = b.seals ∧ (b.orReg a m).sealing = b.sealing ∧ (b.orReg a m).twilight = b.twilight ∧
    (b.orReg a m).found = b.found ∧ (b.orReg a m).intact = b.intact ∧ (b.orReg a m).replayed = b.replayed ∧ (b.orReg
    a m).reissued = b.reissued ∧ (b.orReg a m).heldBack = b.heldBack ∧ (b.orReg a m).dawnAt = b.dawnAt ∧ (b.orReg a
    m).stringsTested = b.stringsTested ∧ (b.orReg a m).failedParts = b.failedParts ∧ (b.orReg a m).stringEnergy =
    b.stringEnergy ∧ (b.orReg a m).mrstHeld = b.mrstHeld ∧ (b.orReg a m).supplyOk = b.supplyOk ∧ (b.orReg a
    m).alarms = b.alarms ∧ (b.orReg a m).sources = b.sources ∧ (b.orReg a m).aonLost = b.aonLost ∧ (b.orReg a
    m).cell = b.cell ∧ (b.orReg a m).orderAt = b.orderAt ∧ (b.orReg a m).testedDies = b.testedDies ∧ (b.orReg a
    m).clrPend = b.clrPend ∧ (b.orReg a m).life = b.life := by
  repeat' apply And.intro
  all_goals rfl

@[simp] theorem Block.bump32_fields (b : Block) (a n : Nat) :
    (b.bump32 a n).cycle = b.cycle ∧ (b.bump32 a n).timeBase = b.timeBase ∧ (b.bump32 a n).rtcBase = b.rtcBase ∧
    (b.bump32 a n).rtcAt = b.rtcAt ∧ (b.bump32 a n).free = b.free ∧ (b.bump32 a n).stamp = b.stamp ∧ (b.bump32 a
    n).scratch = b.scratch ∧ (b.bump32 a n).ledger = b.ledger ∧ (b.bump32 a n).loopMem = b.loopMem ∧ (b.bump32 a
    n).planMem = b.planMem ∧ (b.bump32 a n).stackMem = b.stackMem ∧ (b.bump32 a n).descs = b.descs ∧ (b.bump32 a
    n).lines = b.lines ∧ (b.bump32 a n).rings = b.rings ∧ (b.bump32 a n).items = b.items ∧ (b.bump32 a n).calls =
    b.calls ∧ (b.bump32 a n).queues = b.queues ∧ (b.bump32 a n).baselines = b.baselines ∧ (b.bump32 a n).winBuf =
    b.winBuf ∧ (b.bump32 a n).pathM = b.pathM ∧ (b.bump32 a n).pathI = b.pathI ∧ (b.bump32 a n).hostOut = b.hostOut
    ∧ (b.bump32 a n).latches = b.latches ∧ (b.bump32 a n).evlog = b.evlog ∧ (b.bump32 a n).orderEvents =
    b.orderEvents ∧ (b.bump32 a n).vioLog = b.vioLog ∧ (b.bump32 a n).sessions = b.sessions ∧ (b.bump32 a n).sramBad
    = b.sramBad ∧ (b.bump32 a n).sfuSlots = b.sfuSlots ∧ (b.bump32 a n).sfuLoads = b.sfuLoads ∧ (b.bump32 a
    n).measures = b.measures ∧ (b.bump32 a n).dram = b.dram ∧ (b.bump32 a n).dramGen = b.dramGen ∧ (b.bump32 a
    n).fills = b.fills ∧ (b.bump32 a n).pillars = b.pillars ∧ (b.bump32 a n).spareMap = b.spareMap ∧ (b.bump32 a
    n).ops = b.ops ∧ (b.bump32 a n).opSeq = b.opSeq ∧ (b.bump32 a n).bnkFault = b.bnkFault ∧ (b.bump32 a n).blus =
    b.blus ∧ (b.bump32 a n).spareMarks = b.spareMarks ∧ (b.bump32 a n).jobKeys = b.jobKeys ∧ (b.bump32 a n).txCtr =
    b.txCtr ∧ (b.bump32 a n).rxCtr = b.rxCtr ∧ (b.bump32 a n).peerOut = b.peerOut ∧ (b.bump32 a n).reqId = b.reqId ∧
    (b.bump32 a n).attach = b.attach ∧ (b.bump32 a n).nextSid = b.nextSid ∧ (b.bump32 a n).spdmOut = b.spdmOut ∧
    (b.bump32 a n).ideKeys = b.ideKeys ∧ (b.bump32 a n).bifurcated = b.bifurcated ∧ (b.bump32 a n).dawnWidth =
    b.dawnWidth ∧ (b.bump32 a n).bundles = b.bundles ∧ (b.bump32 a n).bundleJobs = b.bundleJobs ∧ (b.bump32 a
    n).zeroising = b.zeroising ∧ (b.bump32 a n).norOrders = b.norOrders ∧ (b.bump32 a n).norArm = b.norArm ∧
    (b.bump32 a n).fwRun = b.fwRun ∧ (b.bump32 a n).fwCopies = b.fwCopies ∧ (b.bump32 a n).fwStarted = b.fwStarted ∧
    (b.bump32 a n).fwJob = b.fwJob ∧ (b.bump32 a n).fwNext = b.fwNext ∧ (b.bump32 a n).seqs = b.seqs ∧ (b.bump32 a
    n).beat = b.beat ∧ (b.bump32 a n).shelfOut = b.shelfOut ∧ (b.bump32 a n).i3cAddr = b.i3cAddr ∧ (b.bump32 a
    n).straps = b.straps ∧ (b.bump32 a n).domQueue = b.domQueue ∧ (b.bump32 a n).seals = b.seals ∧ (b.bump32 a
    n).sealing = b.sealing ∧ (b.bump32 a n).twilight = b.twilight ∧ (b.bump32 a n).found = b.found ∧ (b.bump32 a
    n).intact = b.intact ∧ (b.bump32 a n).replayed = b.replayed ∧ (b.bump32 a n).reissued = b.reissued ∧ (b.bump32 a
    n).heldBack = b.heldBack ∧ (b.bump32 a n).dawnAt = b.dawnAt ∧ (b.bump32 a n).stringsTested = b.stringsTested ∧
    (b.bump32 a n).failedParts = b.failedParts ∧ (b.bump32 a n).stringEnergy = b.stringEnergy ∧ (b.bump32 a
    n).mrstHeld = b.mrstHeld ∧ (b.bump32 a n).supplyOk = b.supplyOk ∧ (b.bump32 a n).alarms = b.alarms ∧ (b.bump32 a
    n).sources = b.sources ∧ (b.bump32 a n).aonLost = b.aonLost ∧ (b.bump32 a n).cell = b.cell ∧ (b.bump32 a
    n).orderAt = b.orderAt ∧ (b.bump32 a n).testedDies = b.testedDies ∧ (b.bump32 a n).clrPend = b.clrPend ∧
    (b.bump32 a n).life = b.life := by
  repeat' apply And.intro
  all_goals rfl

@[simp] theorem Block.bumpMod32_fields (b : Block) (a n : Nat) :
    (b.bumpMod32 a n).cycle = b.cycle ∧ (b.bumpMod32 a n).timeBase = b.timeBase ∧ (b.bumpMod32 a n).rtcBase =
    b.rtcBase ∧ (b.bumpMod32 a n).rtcAt = b.rtcAt ∧ (b.bumpMod32 a n).free = b.free ∧ (b.bumpMod32 a n).stamp =
    b.stamp ∧ (b.bumpMod32 a n).scratch = b.scratch ∧ (b.bumpMod32 a n).ledger = b.ledger ∧ (b.bumpMod32 a
    n).loopMem = b.loopMem ∧ (b.bumpMod32 a n).planMem = b.planMem ∧ (b.bumpMod32 a n).stackMem = b.stackMem ∧
    (b.bumpMod32 a n).descs = b.descs ∧ (b.bumpMod32 a n).lines = b.lines ∧ (b.bumpMod32 a n).rings = b.rings ∧
    (b.bumpMod32 a n).items = b.items ∧ (b.bumpMod32 a n).calls = b.calls ∧ (b.bumpMod32 a n).queues = b.queues ∧
    (b.bumpMod32 a n).baselines = b.baselines ∧ (b.bumpMod32 a n).winBuf = b.winBuf ∧ (b.bumpMod32 a n).pathM =
    b.pathM ∧ (b.bumpMod32 a n).pathI = b.pathI ∧ (b.bumpMod32 a n).hostOut = b.hostOut ∧ (b.bumpMod32 a n).latches
    = b.latches ∧ (b.bumpMod32 a n).evlog = b.evlog ∧ (b.bumpMod32 a n).orderEvents = b.orderEvents ∧ (b.bumpMod32 a
    n).vioLog = b.vioLog ∧ (b.bumpMod32 a n).sessions = b.sessions ∧ (b.bumpMod32 a n).sramBad = b.sramBad ∧
    (b.bumpMod32 a n).sfuSlots = b.sfuSlots ∧ (b.bumpMod32 a n).sfuLoads = b.sfuLoads ∧ (b.bumpMod32 a n).measures =
    b.measures ∧ (b.bumpMod32 a n).dram = b.dram ∧ (b.bumpMod32 a n).dramGen = b.dramGen ∧ (b.bumpMod32 a n).fills =
    b.fills ∧ (b.bumpMod32 a n).pillars = b.pillars ∧ (b.bumpMod32 a n).spareMap = b.spareMap ∧ (b.bumpMod32 a
    n).ops = b.ops ∧ (b.bumpMod32 a n).opSeq = b.opSeq ∧ (b.bumpMod32 a n).bnkFault = b.bnkFault ∧ (b.bumpMod32 a
    n).blus = b.blus ∧ (b.bumpMod32 a n).spareMarks = b.spareMarks ∧ (b.bumpMod32 a n).jobKeys = b.jobKeys ∧
    (b.bumpMod32 a n).txCtr = b.txCtr ∧ (b.bumpMod32 a n).rxCtr = b.rxCtr ∧ (b.bumpMod32 a n).peerOut = b.peerOut ∧
    (b.bumpMod32 a n).reqId = b.reqId ∧ (b.bumpMod32 a n).attach = b.attach ∧ (b.bumpMod32 a n).nextSid = b.nextSid
    ∧ (b.bumpMod32 a n).spdmOut = b.spdmOut ∧ (b.bumpMod32 a n).ideKeys = b.ideKeys ∧ (b.bumpMod32 a n).bifurcated =
    b.bifurcated ∧ (b.bumpMod32 a n).dawnWidth = b.dawnWidth ∧ (b.bumpMod32 a n).bundles = b.bundles ∧ (b.bumpMod32
    a n).bundleJobs = b.bundleJobs ∧ (b.bumpMod32 a n).zeroising = b.zeroising ∧ (b.bumpMod32 a n).norOrders =
    b.norOrders ∧ (b.bumpMod32 a n).norArm = b.norArm ∧ (b.bumpMod32 a n).fwRun = b.fwRun ∧ (b.bumpMod32 a
    n).fwCopies = b.fwCopies ∧ (b.bumpMod32 a n).fwStarted = b.fwStarted ∧ (b.bumpMod32 a n).fwJob = b.fwJob ∧
    (b.bumpMod32 a n).fwNext = b.fwNext ∧ (b.bumpMod32 a n).seqs = b.seqs ∧ (b.bumpMod32 a n).beat = b.beat ∧
    (b.bumpMod32 a n).shelfOut = b.shelfOut ∧ (b.bumpMod32 a n).i3cAddr = b.i3cAddr ∧ (b.bumpMod32 a n).straps =
    b.straps ∧ (b.bumpMod32 a n).domQueue = b.domQueue ∧ (b.bumpMod32 a n).seals = b.seals ∧ (b.bumpMod32 a
    n).sealing = b.sealing ∧ (b.bumpMod32 a n).twilight = b.twilight ∧ (b.bumpMod32 a n).found = b.found ∧
    (b.bumpMod32 a n).intact = b.intact ∧ (b.bumpMod32 a n).replayed = b.replayed ∧ (b.bumpMod32 a n).reissued =
    b.reissued ∧ (b.bumpMod32 a n).heldBack = b.heldBack ∧ (b.bumpMod32 a n).dawnAt = b.dawnAt ∧ (b.bumpMod32 a
    n).stringsTested = b.stringsTested ∧ (b.bumpMod32 a n).failedParts = b.failedParts ∧ (b.bumpMod32 a
    n).stringEnergy = b.stringEnergy ∧ (b.bumpMod32 a n).mrstHeld = b.mrstHeld ∧ (b.bumpMod32 a n).supplyOk =
    b.supplyOk ∧ (b.bumpMod32 a n).alarms = b.alarms ∧ (b.bumpMod32 a n).sources = b.sources ∧ (b.bumpMod32 a
    n).aonLost = b.aonLost ∧ (b.bumpMod32 a n).cell = b.cell ∧ (b.bumpMod32 a n).orderAt = b.orderAt ∧ (b.bumpMod32
    a n).testedDies = b.testedDies ∧ (b.bumpMod32 a n).clrPend = b.clrPend ∧ (b.bumpMod32 a n).life = b.life := by
  repeat' apply And.intro
  all_goals rfl

@[simp] theorem Block.setCtrValue_fields (b : Block) (n v : Nat) :
    (b.setCtrValue n v).cycle = b.cycle ∧ (b.setCtrValue n v).timeBase = b.timeBase ∧ (b.setCtrValue n v).rtcBase =
    b.rtcBase ∧ (b.setCtrValue n v).rtcAt = b.rtcAt ∧ (b.setCtrValue n v).free = b.free ∧ (b.setCtrValue n v).stamp
    = b.stamp ∧ (b.setCtrValue n v).scratch = b.scratch ∧ (b.setCtrValue n v).ledger = b.ledger ∧ (b.setCtrValue n
    v).loopMem = b.loopMem ∧ (b.setCtrValue n v).planMem = b.planMem ∧ (b.setCtrValue n v).stackMem = b.stackMem ∧
    (b.setCtrValue n v).descs = b.descs ∧ (b.setCtrValue n v).lines = b.lines ∧ (b.setCtrValue n v).rings = b.rings
    ∧ (b.setCtrValue n v).items = b.items ∧ (b.setCtrValue n v).calls = b.calls ∧ (b.setCtrValue n v).queues =
    b.queues ∧ (b.setCtrValue n v).baselines = b.baselines ∧ (b.setCtrValue n v).winBuf = b.winBuf ∧ (b.setCtrValue
    n v).pathM = b.pathM ∧ (b.setCtrValue n v).pathI = b.pathI ∧ (b.setCtrValue n v).hostOut = b.hostOut ∧
    (b.setCtrValue n v).latches = b.latches ∧ (b.setCtrValue n v).evlog = b.evlog ∧ (b.setCtrValue n v).orderEvents
    = b.orderEvents ∧ (b.setCtrValue n v).vioLog = b.vioLog ∧ (b.setCtrValue n v).sessions = b.sessions ∧
    (b.setCtrValue n v).sramBad = b.sramBad ∧ (b.setCtrValue n v).sfuSlots = b.sfuSlots ∧ (b.setCtrValue n
    v).sfuLoads = b.sfuLoads ∧ (b.setCtrValue n v).measures = b.measures ∧ (b.setCtrValue n v).dram = b.dram ∧
    (b.setCtrValue n v).dramGen = b.dramGen ∧ (b.setCtrValue n v).fills = b.fills ∧ (b.setCtrValue n v).pillars =
    b.pillars ∧ (b.setCtrValue n v).spareMap = b.spareMap ∧ (b.setCtrValue n v).ops = b.ops ∧ (b.setCtrValue n
    v).opSeq = b.opSeq ∧ (b.setCtrValue n v).bnkFault = b.bnkFault ∧ (b.setCtrValue n v).blus = b.blus ∧
    (b.setCtrValue n v).spareMarks = b.spareMarks ∧ (b.setCtrValue n v).jobKeys = b.jobKeys ∧ (b.setCtrValue n
    v).txCtr = b.txCtr ∧ (b.setCtrValue n v).rxCtr = b.rxCtr ∧ (b.setCtrValue n v).peerOut = b.peerOut ∧
    (b.setCtrValue n v).reqId = b.reqId ∧ (b.setCtrValue n v).attach = b.attach ∧ (b.setCtrValue n v).nextSid =
    b.nextSid ∧ (b.setCtrValue n v).spdmOut = b.spdmOut ∧ (b.setCtrValue n v).ideKeys = b.ideKeys ∧ (b.setCtrValue n
    v).bifurcated = b.bifurcated ∧ (b.setCtrValue n v).dawnWidth = b.dawnWidth ∧ (b.setCtrValue n v).bundles =
    b.bundles ∧ (b.setCtrValue n v).bundleJobs = b.bundleJobs ∧ (b.setCtrValue n v).zeroising = b.zeroising ∧
    (b.setCtrValue n v).norOrders = b.norOrders ∧ (b.setCtrValue n v).norArm = b.norArm ∧ (b.setCtrValue n v).fwRun
    = b.fwRun ∧ (b.setCtrValue n v).fwCopies = b.fwCopies ∧ (b.setCtrValue n v).fwStarted = b.fwStarted ∧
    (b.setCtrValue n v).fwJob = b.fwJob ∧ (b.setCtrValue n v).fwNext = b.fwNext ∧ (b.setCtrValue n v).seqs = b.seqs
    ∧ (b.setCtrValue n v).beat = b.beat ∧ (b.setCtrValue n v).shelfOut = b.shelfOut ∧ (b.setCtrValue n v).i3cAddr =
    b.i3cAddr ∧ (b.setCtrValue n v).straps = b.straps ∧ (b.setCtrValue n v).domQueue = b.domQueue ∧ (b.setCtrValue n
    v).seals = b.seals ∧ (b.setCtrValue n v).sealing = b.sealing ∧ (b.setCtrValue n v).twilight = b.twilight ∧
    (b.setCtrValue n v).found = b.found ∧ (b.setCtrValue n v).intact = b.intact ∧ (b.setCtrValue n v).replayed =
    b.replayed ∧ (b.setCtrValue n v).reissued = b.reissued ∧ (b.setCtrValue n v).heldBack = b.heldBack ∧
    (b.setCtrValue n v).dawnAt = b.dawnAt ∧ (b.setCtrValue n v).stringsTested = b.stringsTested ∧ (b.setCtrValue n
    v).failedParts = b.failedParts ∧ (b.setCtrValue n v).stringEnergy = b.stringEnergy ∧ (b.setCtrValue n
    v).mrstHeld = b.mrstHeld ∧ (b.setCtrValue n v).supplyOk = b.supplyOk ∧ (b.setCtrValue n v).alarms = b.alarms ∧
    (b.setCtrValue n v).sources = b.sources ∧ (b.setCtrValue n v).aonLost = b.aonLost ∧ (b.setCtrValue n v).cell =
    b.cell ∧ (b.setCtrValue n v).orderAt = b.orderAt ∧ (b.setCtrValue n v).testedDies = b.testedDies ∧
    (b.setCtrValue n v).clrPend = b.clrPend ∧ (b.setCtrValue n v).life = b.life := by
  repeat' apply And.intro
  all_goals rfl

@[simp] theorem Block.resetRegs_fields (b : Block) (lo hi : Nat) :
    (b.resetRegs lo hi).cycle = b.cycle ∧ (b.resetRegs lo hi).timeBase = b.timeBase ∧ (b.resetRegs lo hi).rtcBase =
    b.rtcBase ∧ (b.resetRegs lo hi).rtcAt = b.rtcAt ∧ (b.resetRegs lo hi).free = b.free ∧ (b.resetRegs lo hi).stamp
    = b.stamp ∧ (b.resetRegs lo hi).scratch = b.scratch ∧ (b.resetRegs lo hi).ledger = b.ledger ∧ (b.resetRegs lo
    hi).loopMem = b.loopMem ∧ (b.resetRegs lo hi).planMem = b.planMem ∧ (b.resetRegs lo hi).stackMem = b.stackMem ∧
    (b.resetRegs lo hi).descs = b.descs ∧ (b.resetRegs lo hi).lines = b.lines ∧ (b.resetRegs lo hi).rings = b.rings
    ∧ (b.resetRegs lo hi).items = b.items ∧ (b.resetRegs lo hi).calls = b.calls ∧ (b.resetRegs lo hi).queues =
    b.queues ∧ (b.resetRegs lo hi).baselines = b.baselines ∧ (b.resetRegs lo hi).winBuf = b.winBuf ∧ (b.resetRegs lo
    hi).pathM = b.pathM ∧ (b.resetRegs lo hi).pathI = b.pathI ∧ (b.resetRegs lo hi).hostOut = b.hostOut ∧
    (b.resetRegs lo hi).latches = b.latches ∧ (b.resetRegs lo hi).evlog = b.evlog ∧ (b.resetRegs lo hi).orderEvents
    = b.orderEvents ∧ (b.resetRegs lo hi).vioLog = b.vioLog ∧ (b.resetRegs lo hi).sessions = b.sessions ∧
    (b.resetRegs lo hi).sramBad = b.sramBad ∧ (b.resetRegs lo hi).sfuSlots = b.sfuSlots ∧ (b.resetRegs lo
    hi).sfuLoads = b.sfuLoads ∧ (b.resetRegs lo hi).measures = b.measures ∧ (b.resetRegs lo hi).dram = b.dram ∧
    (b.resetRegs lo hi).dramGen = b.dramGen ∧ (b.resetRegs lo hi).fills = b.fills ∧ (b.resetRegs lo hi).pillars =
    b.pillars ∧ (b.resetRegs lo hi).spareMap = b.spareMap ∧ (b.resetRegs lo hi).ops = b.ops ∧ (b.resetRegs lo
    hi).opSeq = b.opSeq ∧ (b.resetRegs lo hi).bnkFault = b.bnkFault ∧ (b.resetRegs lo hi).blus = b.blus ∧
    (b.resetRegs lo hi).spareMarks = b.spareMarks ∧ (b.resetRegs lo hi).jobKeys = b.jobKeys ∧ (b.resetRegs lo
    hi).txCtr = b.txCtr ∧ (b.resetRegs lo hi).rxCtr = b.rxCtr ∧ (b.resetRegs lo hi).peerOut = b.peerOut ∧
    (b.resetRegs lo hi).reqId = b.reqId ∧ (b.resetRegs lo hi).attach = b.attach ∧ (b.resetRegs lo hi).nextSid =
    b.nextSid ∧ (b.resetRegs lo hi).spdmOut = b.spdmOut ∧ (b.resetRegs lo hi).ideKeys = b.ideKeys ∧ (b.resetRegs lo
    hi).bifurcated = b.bifurcated ∧ (b.resetRegs lo hi).dawnWidth = b.dawnWidth ∧ (b.resetRegs lo hi).bundles =
    b.bundles ∧ (b.resetRegs lo hi).bundleJobs = b.bundleJobs ∧ (b.resetRegs lo hi).zeroising = b.zeroising ∧
    (b.resetRegs lo hi).norOrders = b.norOrders ∧ (b.resetRegs lo hi).norArm = b.norArm ∧ (b.resetRegs lo hi).fwRun
    = b.fwRun ∧ (b.resetRegs lo hi).fwCopies = b.fwCopies ∧ (b.resetRegs lo hi).fwStarted = b.fwStarted ∧
    (b.resetRegs lo hi).fwJob = b.fwJob ∧ (b.resetRegs lo hi).fwNext = b.fwNext ∧ (b.resetRegs lo hi).seqs = b.seqs
    ∧ (b.resetRegs lo hi).beat = b.beat ∧ (b.resetRegs lo hi).shelfOut = b.shelfOut ∧ (b.resetRegs lo hi).i3cAddr =
    b.i3cAddr ∧ (b.resetRegs lo hi).straps = b.straps ∧ (b.resetRegs lo hi).domQueue = b.domQueue ∧ (b.resetRegs lo
    hi).seals = b.seals ∧ (b.resetRegs lo hi).sealing = b.sealing ∧ (b.resetRegs lo hi).twilight = b.twilight ∧
    (b.resetRegs lo hi).found = b.found ∧ (b.resetRegs lo hi).intact = b.intact ∧ (b.resetRegs lo hi).replayed =
    b.replayed ∧ (b.resetRegs lo hi).reissued = b.reissued ∧ (b.resetRegs lo hi).heldBack = b.heldBack ∧
    (b.resetRegs lo hi).dawnAt = b.dawnAt ∧ (b.resetRegs lo hi).stringsTested = b.stringsTested ∧ (b.resetRegs lo
    hi).failedParts = b.failedParts ∧ (b.resetRegs lo hi).stringEnergy = b.stringEnergy ∧ (b.resetRegs lo
    hi).mrstHeld = b.mrstHeld ∧ (b.resetRegs lo hi).supplyOk = b.supplyOk ∧ (b.resetRegs lo hi).alarms = b.alarms ∧
    (b.resetRegs lo hi).sources = b.sources ∧ (b.resetRegs lo hi).aonLost = b.aonLost ∧ (b.resetRegs lo hi).cell =
    b.cell ∧ (b.resetRegs lo hi).orderAt = b.orderAt ∧ (b.resetRegs lo hi).testedDies = b.testedDies ∧ (b.resetRegs
    lo hi).clrPend = b.clrPend ∧ (b.resetRegs lo hi).life = b.life := by
  repeat' apply And.intro
  all_goals rfl

@[simp] theorem Block.setQueue_fields (b : Block) (k : Nat) (q : List Entry) :
    (b.setQueue k q).cycle = b.cycle ∧ (b.setQueue k q).timeBase = b.timeBase ∧ (b.setQueue k q).rtcBase = b.rtcBase
    ∧ (b.setQueue k q).rtcAt = b.rtcAt ∧ (b.setQueue k q).free = b.free ∧ (b.setQueue k q).stamp = b.stamp ∧
    (b.setQueue k q).regs = b.regs ∧ (b.setQueue k q).scratch = b.scratch ∧ (b.setQueue k q).ledger = b.ledger ∧
    (b.setQueue k q).loopMem = b.loopMem ∧ (b.setQueue k q).planMem = b.planMem ∧ (b.setQueue k q).stackMem =
    b.stackMem ∧ (b.setQueue k q).descs = b.descs ∧ (b.setQueue k q).lines = b.lines ∧ (b.setQueue k q).rings =
    b.rings ∧ (b.setQueue k q).items = b.items ∧ (b.setQueue k q).calls = b.calls ∧ (b.setQueue k q).baselines =
    b.baselines ∧ (b.setQueue k q).winBuf = b.winBuf ∧ (b.setQueue k q).pathM = b.pathM ∧ (b.setQueue k q).pathI =
    b.pathI ∧ (b.setQueue k q).hostOut = b.hostOut ∧ (b.setQueue k q).latches = b.latches ∧ (b.setQueue k q).evlog =
    b.evlog ∧ (b.setQueue k q).orderEvents = b.orderEvents ∧ (b.setQueue k q).vioLog = b.vioLog ∧ (b.setQueue k
    q).sessions = b.sessions ∧ (b.setQueue k q).sramBad = b.sramBad ∧ (b.setQueue k q).sfuSlots = b.sfuSlots ∧
    (b.setQueue k q).sfuLoads = b.sfuLoads ∧ (b.setQueue k q).measures = b.measures ∧ (b.setQueue k q).dram = b.dram
    ∧ (b.setQueue k q).dramGen = b.dramGen ∧ (b.setQueue k q).fills = b.fills ∧ (b.setQueue k q).pillars = b.pillars
    ∧ (b.setQueue k q).spareMap = b.spareMap ∧ (b.setQueue k q).ops = b.ops ∧ (b.setQueue k q).opSeq = b.opSeq ∧
    (b.setQueue k q).bnkFault = b.bnkFault ∧ (b.setQueue k q).blus = b.blus ∧ (b.setQueue k q).spareMarks =
    b.spareMarks ∧ (b.setQueue k q).jobKeys = b.jobKeys ∧ (b.setQueue k q).txCtr = b.txCtr ∧ (b.setQueue k q).rxCtr
    = b.rxCtr ∧ (b.setQueue k q).peerOut = b.peerOut ∧ (b.setQueue k q).reqId = b.reqId ∧ (b.setQueue k q).attach =
    b.attach ∧ (b.setQueue k q).nextSid = b.nextSid ∧ (b.setQueue k q).spdmOut = b.spdmOut ∧ (b.setQueue k
    q).ideKeys = b.ideKeys ∧ (b.setQueue k q).bifurcated = b.bifurcated ∧ (b.setQueue k q).dawnWidth = b.dawnWidth ∧
    (b.setQueue k q).bundles = b.bundles ∧ (b.setQueue k q).bundleJobs = b.bundleJobs ∧ (b.setQueue k q).zeroising =
    b.zeroising ∧ (b.setQueue k q).norOrders = b.norOrders ∧ (b.setQueue k q).norArm = b.norArm ∧ (b.setQueue k
    q).fwRun = b.fwRun ∧ (b.setQueue k q).fwCopies = b.fwCopies ∧ (b.setQueue k q).fwStarted = b.fwStarted ∧
    (b.setQueue k q).fwJob = b.fwJob ∧ (b.setQueue k q).fwNext = b.fwNext ∧ (b.setQueue k q).seqs = b.seqs ∧
    (b.setQueue k q).beat = b.beat ∧ (b.setQueue k q).shelfOut = b.shelfOut ∧ (b.setQueue k q).i3cAddr = b.i3cAddr ∧
    (b.setQueue k q).straps = b.straps ∧ (b.setQueue k q).domQueue = b.domQueue ∧ (b.setQueue k q).seals = b.seals ∧
    (b.setQueue k q).sealing = b.sealing ∧ (b.setQueue k q).twilight = b.twilight ∧ (b.setQueue k q).found = b.found
    ∧ (b.setQueue k q).intact = b.intact ∧ (b.setQueue k q).replayed = b.replayed ∧ (b.setQueue k q).reissued =
    b.reissued ∧ (b.setQueue k q).heldBack = b.heldBack ∧ (b.setQueue k q).dawnAt = b.dawnAt ∧ (b.setQueue k
    q).stringsTested = b.stringsTested ∧ (b.setQueue k q).failedParts = b.failedParts ∧ (b.setQueue k
    q).stringEnergy = b.stringEnergy ∧ (b.setQueue k q).mrstHeld = b.mrstHeld ∧ (b.setQueue k q).supplyOk =
    b.supplyOk ∧ (b.setQueue k q).alarms = b.alarms ∧ (b.setQueue k q).sources = b.sources ∧ (b.setQueue k
    q).aonLost = b.aonLost ∧ (b.setQueue k q).cell = b.cell ∧ (b.setQueue k q).orderAt = b.orderAt ∧ (b.setQueue k
    q).testedDies = b.testedDies ∧ (b.setQueue k q).clrPend = b.clrPend ∧ (b.setQueue k q).life = b.life := by
  repeat' apply And.intro
  all_goals rfl

@[simp] theorem Block.mapEntry_fields (b : Block) (k i : Nat) (f : Entry → Entry) :
    (b.mapEntry k i f).cycle = b.cycle ∧ (b.mapEntry k i f).timeBase = b.timeBase ∧ (b.mapEntry k i f).rtcBase =
    b.rtcBase ∧ (b.mapEntry k i f).rtcAt = b.rtcAt ∧ (b.mapEntry k i f).free = b.free ∧ (b.mapEntry k i f).stamp =
    b.stamp ∧ (b.mapEntry k i f).regs = b.regs ∧ (b.mapEntry k i f).scratch = b.scratch ∧ (b.mapEntry k i f).ledger
    = b.ledger ∧ (b.mapEntry k i f).loopMem = b.loopMem ∧ (b.mapEntry k i f).planMem = b.planMem ∧ (b.mapEntry k i
    f).stackMem = b.stackMem ∧ (b.mapEntry k i f).descs = b.descs ∧ (b.mapEntry k i f).lines = b.lines ∧ (b.mapEntry
    k i f).rings = b.rings ∧ (b.mapEntry k i f).items = b.items ∧ (b.mapEntry k i f).calls = b.calls ∧ (b.mapEntry k
    i f).baselines = b.baselines ∧ (b.mapEntry k i f).winBuf = b.winBuf ∧ (b.mapEntry k i f).pathM = b.pathM ∧
    (b.mapEntry k i f).pathI = b.pathI ∧ (b.mapEntry k i f).hostOut = b.hostOut ∧ (b.mapEntry k i f).latches =
    b.latches ∧ (b.mapEntry k i f).evlog = b.evlog ∧ (b.mapEntry k i f).orderEvents = b.orderEvents ∧ (b.mapEntry k
    i f).vioLog = b.vioLog ∧ (b.mapEntry k i f).sessions = b.sessions ∧ (b.mapEntry k i f).sramBad = b.sramBad ∧
    (b.mapEntry k i f).sfuSlots = b.sfuSlots ∧ (b.mapEntry k i f).sfuLoads = b.sfuLoads ∧ (b.mapEntry k i
    f).measures = b.measures ∧ (b.mapEntry k i f).dram = b.dram ∧ (b.mapEntry k i f).dramGen = b.dramGen ∧
    (b.mapEntry k i f).fills = b.fills ∧ (b.mapEntry k i f).pillars = b.pillars ∧ (b.mapEntry k i f).spareMap =
    b.spareMap ∧ (b.mapEntry k i f).ops = b.ops ∧ (b.mapEntry k i f).opSeq = b.opSeq ∧ (b.mapEntry k i f).bnkFault =
    b.bnkFault ∧ (b.mapEntry k i f).blus = b.blus ∧ (b.mapEntry k i f).spareMarks = b.spareMarks ∧ (b.mapEntry k i
    f).jobKeys = b.jobKeys ∧ (b.mapEntry k i f).txCtr = b.txCtr ∧ (b.mapEntry k i f).rxCtr = b.rxCtr ∧ (b.mapEntry k
    i f).peerOut = b.peerOut ∧ (b.mapEntry k i f).reqId = b.reqId ∧ (b.mapEntry k i f).attach = b.attach ∧
    (b.mapEntry k i f).nextSid = b.nextSid ∧ (b.mapEntry k i f).spdmOut = b.spdmOut ∧ (b.mapEntry k i f).ideKeys =
    b.ideKeys ∧ (b.mapEntry k i f).bifurcated = b.bifurcated ∧ (b.mapEntry k i f).dawnWidth = b.dawnWidth ∧
    (b.mapEntry k i f).bundles = b.bundles ∧ (b.mapEntry k i f).bundleJobs = b.bundleJobs ∧ (b.mapEntry k i
    f).zeroising = b.zeroising ∧ (b.mapEntry k i f).norOrders = b.norOrders ∧ (b.mapEntry k i f).norArm = b.norArm ∧
    (b.mapEntry k i f).fwRun = b.fwRun ∧ (b.mapEntry k i f).fwCopies = b.fwCopies ∧ (b.mapEntry k i f).fwStarted =
    b.fwStarted ∧ (b.mapEntry k i f).fwJob = b.fwJob ∧ (b.mapEntry k i f).fwNext = b.fwNext ∧ (b.mapEntry k i
    f).seqs = b.seqs ∧ (b.mapEntry k i f).beat = b.beat ∧ (b.mapEntry k i f).shelfOut = b.shelfOut ∧ (b.mapEntry k i
    f).i3cAddr = b.i3cAddr ∧ (b.mapEntry k i f).straps = b.straps ∧ (b.mapEntry k i f).domQueue = b.domQueue ∧
    (b.mapEntry k i f).seals = b.seals ∧ (b.mapEntry k i f).sealing = b.sealing ∧ (b.mapEntry k i f).twilight =
    b.twilight ∧ (b.mapEntry k i f).found = b.found ∧ (b.mapEntry k i f).intact = b.intact ∧ (b.mapEntry k i
    f).replayed = b.replayed ∧ (b.mapEntry k i f).reissued = b.reissued ∧ (b.mapEntry k i f).heldBack = b.heldBack ∧
    (b.mapEntry k i f).dawnAt = b.dawnAt ∧ (b.mapEntry k i f).stringsTested = b.stringsTested ∧ (b.mapEntry k i
    f).failedParts = b.failedParts ∧ (b.mapEntry k i f).stringEnergy = b.stringEnergy ∧ (b.mapEntry k i f).mrstHeld
    = b.mrstHeld ∧ (b.mapEntry k i f).supplyOk = b.supplyOk ∧ (b.mapEntry k i f).alarms = b.alarms ∧ (b.mapEntry k i
    f).sources = b.sources ∧ (b.mapEntry k i f).aonLost = b.aonLost ∧ (b.mapEntry k i f).cell = b.cell ∧ (b.mapEntry
    k i f).orderAt = b.orderAt ∧ (b.mapEntry k i f).testedDies = b.testedDies ∧ (b.mapEntry k i f).clrPend =
    b.clrPend ∧ (b.mapEntry k i f).life = b.life := by
  repeat' apply And.intro
  all_goals rfl

@[simp] theorem Block.mapItem_fields (b : Block) (id : Nat) (f : Item → Item) :
    (b.mapItem id f).cycle = b.cycle ∧ (b.mapItem id f).timeBase = b.timeBase ∧ (b.mapItem id f).rtcBase = b.rtcBase
    ∧ (b.mapItem id f).rtcAt = b.rtcAt ∧ (b.mapItem id f).free = b.free ∧ (b.mapItem id f).stamp = b.stamp ∧
    (b.mapItem id f).regs = b.regs ∧ (b.mapItem id f).scratch = b.scratch ∧ (b.mapItem id f).ledger = b.ledger ∧
    (b.mapItem id f).loopMem = b.loopMem ∧ (b.mapItem id f).planMem = b.planMem ∧ (b.mapItem id f).stackMem =
    b.stackMem ∧ (b.mapItem id f).descs = b.descs ∧ (b.mapItem id f).lines = b.lines ∧ (b.mapItem id f).rings =
    b.rings ∧ (b.mapItem id f).calls = b.calls ∧ (b.mapItem id f).queues = b.queues ∧ (b.mapItem id f).baselines =
    b.baselines ∧ (b.mapItem id f).winBuf = b.winBuf ∧ (b.mapItem id f).pathM = b.pathM ∧ (b.mapItem id f).pathI =
    b.pathI ∧ (b.mapItem id f).hostOut = b.hostOut ∧ (b.mapItem id f).latches = b.latches ∧ (b.mapItem id f).evlog =
    b.evlog ∧ (b.mapItem id f).orderEvents = b.orderEvents ∧ (b.mapItem id f).vioLog = b.vioLog ∧ (b.mapItem id
    f).sessions = b.sessions ∧ (b.mapItem id f).sramBad = b.sramBad ∧ (b.mapItem id f).sfuSlots = b.sfuSlots ∧
    (b.mapItem id f).sfuLoads = b.sfuLoads ∧ (b.mapItem id f).measures = b.measures ∧ (b.mapItem id f).dram = b.dram
    ∧ (b.mapItem id f).dramGen = b.dramGen ∧ (b.mapItem id f).fills = b.fills ∧ (b.mapItem id f).pillars = b.pillars
    ∧ (b.mapItem id f).spareMap = b.spareMap ∧ (b.mapItem id f).ops = b.ops ∧ (b.mapItem id f).opSeq = b.opSeq ∧
    (b.mapItem id f).bnkFault = b.bnkFault ∧ (b.mapItem id f).blus = b.blus ∧ (b.mapItem id f).spareMarks =
    b.spareMarks ∧ (b.mapItem id f).jobKeys = b.jobKeys ∧ (b.mapItem id f).txCtr = b.txCtr ∧ (b.mapItem id f).rxCtr
    = b.rxCtr ∧ (b.mapItem id f).peerOut = b.peerOut ∧ (b.mapItem id f).reqId = b.reqId ∧ (b.mapItem id f).attach =
    b.attach ∧ (b.mapItem id f).nextSid = b.nextSid ∧ (b.mapItem id f).spdmOut = b.spdmOut ∧ (b.mapItem id
    f).ideKeys = b.ideKeys ∧ (b.mapItem id f).bifurcated = b.bifurcated ∧ (b.mapItem id f).dawnWidth = b.dawnWidth ∧
    (b.mapItem id f).bundles = b.bundles ∧ (b.mapItem id f).bundleJobs = b.bundleJobs ∧ (b.mapItem id f).zeroising =
    b.zeroising ∧ (b.mapItem id f).norOrders = b.norOrders ∧ (b.mapItem id f).norArm = b.norArm ∧ (b.mapItem id
    f).fwRun = b.fwRun ∧ (b.mapItem id f).fwCopies = b.fwCopies ∧ (b.mapItem id f).fwStarted = b.fwStarted ∧
    (b.mapItem id f).fwJob = b.fwJob ∧ (b.mapItem id f).fwNext = b.fwNext ∧ (b.mapItem id f).seqs = b.seqs ∧
    (b.mapItem id f).beat = b.beat ∧ (b.mapItem id f).shelfOut = b.shelfOut ∧ (b.mapItem id f).i3cAddr = b.i3cAddr ∧
    (b.mapItem id f).straps = b.straps ∧ (b.mapItem id f).domQueue = b.domQueue ∧ (b.mapItem id f).seals = b.seals ∧
    (b.mapItem id f).sealing = b.sealing ∧ (b.mapItem id f).twilight = b.twilight ∧ (b.mapItem id f).found = b.found
    ∧ (b.mapItem id f).intact = b.intact ∧ (b.mapItem id f).replayed = b.replayed ∧ (b.mapItem id f).reissued =
    b.reissued ∧ (b.mapItem id f).heldBack = b.heldBack ∧ (b.mapItem id f).dawnAt = b.dawnAt ∧ (b.mapItem id
    f).stringsTested = b.stringsTested ∧ (b.mapItem id f).failedParts = b.failedParts ∧ (b.mapItem id
    f).stringEnergy = b.stringEnergy ∧ (b.mapItem id f).mrstHeld = b.mrstHeld ∧ (b.mapItem id f).supplyOk =
    b.supplyOk ∧ (b.mapItem id f).alarms = b.alarms ∧ (b.mapItem id f).sources = b.sources ∧ (b.mapItem id
    f).aonLost = b.aonLost ∧ (b.mapItem id f).cell = b.cell ∧ (b.mapItem id f).orderAt = b.orderAt ∧ (b.mapItem id
    f).testedDies = b.testedDies ∧ (b.mapItem id f).clrPend = b.clrPend ∧ (b.mapItem id f).life = b.life := by
  repeat' apply And.intro
  all_goals rfl

@[simp] theorem Block.setCall_fields (b : Block) (c : Nat) (x : Option LoopCall) :
    (b.setCall c x).cycle = b.cycle ∧ (b.setCall c x).timeBase = b.timeBase ∧ (b.setCall c x).rtcBase = b.rtcBase ∧
    (b.setCall c x).rtcAt = b.rtcAt ∧ (b.setCall c x).free = b.free ∧ (b.setCall c x).stamp = b.stamp ∧ (b.setCall c
    x).regs = b.regs ∧ (b.setCall c x).scratch = b.scratch ∧ (b.setCall c x).ledger = b.ledger ∧ (b.setCall c
    x).loopMem = b.loopMem ∧ (b.setCall c x).planMem = b.planMem ∧ (b.setCall c x).stackMem = b.stackMem ∧
    (b.setCall c x).descs = b.descs ∧ (b.setCall c x).lines = b.lines ∧ (b.setCall c x).rings = b.rings ∧ (b.setCall
    c x).items = b.items ∧ (b.setCall c x).queues = b.queues ∧ (b.setCall c x).baselines = b.baselines ∧ (b.setCall
    c x).winBuf = b.winBuf ∧ (b.setCall c x).pathM = b.pathM ∧ (b.setCall c x).pathI = b.pathI ∧ (b.setCall c
    x).hostOut = b.hostOut ∧ (b.setCall c x).latches = b.latches ∧ (b.setCall c x).evlog = b.evlog ∧ (b.setCall c
    x).orderEvents = b.orderEvents ∧ (b.setCall c x).vioLog = b.vioLog ∧ (b.setCall c x).sessions = b.sessions ∧
    (b.setCall c x).sramBad = b.sramBad ∧ (b.setCall c x).sfuSlots = b.sfuSlots ∧ (b.setCall c x).sfuLoads =
    b.sfuLoads ∧ (b.setCall c x).measures = b.measures ∧ (b.setCall c x).dram = b.dram ∧ (b.setCall c x).dramGen =
    b.dramGen ∧ (b.setCall c x).fills = b.fills ∧ (b.setCall c x).pillars = b.pillars ∧ (b.setCall c x).spareMap =
    b.spareMap ∧ (b.setCall c x).ops = b.ops ∧ (b.setCall c x).opSeq = b.opSeq ∧ (b.setCall c x).bnkFault =
    b.bnkFault ∧ (b.setCall c x).blus = b.blus ∧ (b.setCall c x).spareMarks = b.spareMarks ∧ (b.setCall c x).jobKeys
    = b.jobKeys ∧ (b.setCall c x).txCtr = b.txCtr ∧ (b.setCall c x).rxCtr = b.rxCtr ∧ (b.setCall c x).peerOut =
    b.peerOut ∧ (b.setCall c x).reqId = b.reqId ∧ (b.setCall c x).attach = b.attach ∧ (b.setCall c x).nextSid =
    b.nextSid ∧ (b.setCall c x).spdmOut = b.spdmOut ∧ (b.setCall c x).ideKeys = b.ideKeys ∧ (b.setCall c
    x).bifurcated = b.bifurcated ∧ (b.setCall c x).dawnWidth = b.dawnWidth ∧ (b.setCall c x).bundles = b.bundles ∧
    (b.setCall c x).bundleJobs = b.bundleJobs ∧ (b.setCall c x).zeroising = b.zeroising ∧ (b.setCall c x).norOrders
    = b.norOrders ∧ (b.setCall c x).norArm = b.norArm ∧ (b.setCall c x).fwRun = b.fwRun ∧ (b.setCall c x).fwCopies =
    b.fwCopies ∧ (b.setCall c x).fwStarted = b.fwStarted ∧ (b.setCall c x).fwJob = b.fwJob ∧ (b.setCall c x).fwNext
    = b.fwNext ∧ (b.setCall c x).seqs = b.seqs ∧ (b.setCall c x).beat = b.beat ∧ (b.setCall c x).shelfOut =
    b.shelfOut ∧ (b.setCall c x).i3cAddr = b.i3cAddr ∧ (b.setCall c x).straps = b.straps ∧ (b.setCall c x).domQueue
    = b.domQueue ∧ (b.setCall c x).seals = b.seals ∧ (b.setCall c x).sealing = b.sealing ∧ (b.setCall c x).twilight
    = b.twilight ∧ (b.setCall c x).found = b.found ∧ (b.setCall c x).intact = b.intact ∧ (b.setCall c x).replayed =
    b.replayed ∧ (b.setCall c x).reissued = b.reissued ∧ (b.setCall c x).heldBack = b.heldBack ∧ (b.setCall c
    x).dawnAt = b.dawnAt ∧ (b.setCall c x).stringsTested = b.stringsTested ∧ (b.setCall c x).failedParts =
    b.failedParts ∧ (b.setCall c x).stringEnergy = b.stringEnergy ∧ (b.setCall c x).mrstHeld = b.mrstHeld ∧
    (b.setCall c x).supplyOk = b.supplyOk ∧ (b.setCall c x).alarms = b.alarms ∧ (b.setCall c x).sources = b.sources
    ∧ (b.setCall c x).aonLost = b.aonLost ∧ (b.setCall c x).cell = b.cell ∧ (b.setCall c x).orderAt = b.orderAt ∧
    (b.setCall c x).testedDies = b.testedDies ∧ (b.setCall c x).clrPend = b.clrPend ∧ (b.setCall c x).life = b.life := by
  repeat' apply And.intro
  all_goals rfl

@[simp] theorem Block.setDesc_fields (b : Block) (c h : Nat) (d : Option Desc) :
    (b.setDesc c h d).cycle = b.cycle ∧ (b.setDesc c h d).timeBase = b.timeBase ∧ (b.setDesc c h d).rtcBase =
    b.rtcBase ∧ (b.setDesc c h d).rtcAt = b.rtcAt ∧ (b.setDesc c h d).free = b.free ∧ (b.setDesc c h d).stamp =
    b.stamp ∧ (b.setDesc c h d).regs = b.regs ∧ (b.setDesc c h d).scratch = b.scratch ∧ (b.setDesc c h d).ledger =
    b.ledger ∧ (b.setDesc c h d).loopMem = b.loopMem ∧ (b.setDesc c h d).planMem = b.planMem ∧ (b.setDesc c h
    d).stackMem = b.stackMem ∧ (b.setDesc c h d).lines = b.lines ∧ (b.setDesc c h d).rings = b.rings ∧ (b.setDesc c
    h d).items = b.items ∧ (b.setDesc c h d).calls = b.calls ∧ (b.setDesc c h d).queues = b.queues ∧ (b.setDesc c h
    d).baselines = b.baselines ∧ (b.setDesc c h d).winBuf = b.winBuf ∧ (b.setDesc c h d).pathM = b.pathM ∧
    (b.setDesc c h d).pathI = b.pathI ∧ (b.setDesc c h d).hostOut = b.hostOut ∧ (b.setDesc c h d).latches =
    b.latches ∧ (b.setDesc c h d).evlog = b.evlog ∧ (b.setDesc c h d).orderEvents = b.orderEvents ∧ (b.setDesc c h
    d).vioLog = b.vioLog ∧ (b.setDesc c h d).sessions = b.sessions ∧ (b.setDesc c h d).sramBad = b.sramBad ∧
    (b.setDesc c h d).sfuSlots = b.sfuSlots ∧ (b.setDesc c h d).sfuLoads = b.sfuLoads ∧ (b.setDesc c h d).measures =
    b.measures ∧ (b.setDesc c h d).dram = b.dram ∧ (b.setDesc c h d).dramGen = b.dramGen ∧ (b.setDesc c h d).fills =
    b.fills ∧ (b.setDesc c h d).pillars = b.pillars ∧ (b.setDesc c h d).spareMap = b.spareMap ∧ (b.setDesc c h
    d).ops = b.ops ∧ (b.setDesc c h d).opSeq = b.opSeq ∧ (b.setDesc c h d).bnkFault = b.bnkFault ∧ (b.setDesc c h
    d).blus = b.blus ∧ (b.setDesc c h d).spareMarks = b.spareMarks ∧ (b.setDesc c h d).jobKeys = b.jobKeys ∧
    (b.setDesc c h d).txCtr = b.txCtr ∧ (b.setDesc c h d).rxCtr = b.rxCtr ∧ (b.setDesc c h d).peerOut = b.peerOut ∧
    (b.setDesc c h d).reqId = b.reqId ∧ (b.setDesc c h d).attach = b.attach ∧ (b.setDesc c h d).nextSid = b.nextSid
    ∧ (b.setDesc c h d).spdmOut = b.spdmOut ∧ (b.setDesc c h d).ideKeys = b.ideKeys ∧ (b.setDesc c h d).bifurcated =
    b.bifurcated ∧ (b.setDesc c h d).dawnWidth = b.dawnWidth ∧ (b.setDesc c h d).bundles = b.bundles ∧ (b.setDesc c
    h d).bundleJobs = b.bundleJobs ∧ (b.setDesc c h d).zeroising = b.zeroising ∧ (b.setDesc c h d).norOrders =
    b.norOrders ∧ (b.setDesc c h d).norArm = b.norArm ∧ (b.setDesc c h d).fwRun = b.fwRun ∧ (b.setDesc c h
    d).fwCopies = b.fwCopies ∧ (b.setDesc c h d).fwStarted = b.fwStarted ∧ (b.setDesc c h d).fwJob = b.fwJob ∧
    (b.setDesc c h d).fwNext = b.fwNext ∧ (b.setDesc c h d).seqs = b.seqs ∧ (b.setDesc c h d).beat = b.beat ∧
    (b.setDesc c h d).shelfOut = b.shelfOut ∧ (b.setDesc c h d).i3cAddr = b.i3cAddr ∧ (b.setDesc c h d).straps =
    b.straps ∧ (b.setDesc c h d).domQueue = b.domQueue ∧ (b.setDesc c h d).seals = b.seals ∧ (b.setDesc c h
    d).sealing = b.sealing ∧ (b.setDesc c h d).twilight = b.twilight ∧ (b.setDesc c h d).found = b.found ∧
    (b.setDesc c h d).intact = b.intact ∧ (b.setDesc c h d).replayed = b.replayed ∧ (b.setDesc c h d).reissued =
    b.reissued ∧ (b.setDesc c h d).heldBack = b.heldBack ∧ (b.setDesc c h d).dawnAt = b.dawnAt ∧ (b.setDesc c h
    d).stringsTested = b.stringsTested ∧ (b.setDesc c h d).failedParts = b.failedParts ∧ (b.setDesc c h
    d).stringEnergy = b.stringEnergy ∧ (b.setDesc c h d).mrstHeld = b.mrstHeld ∧ (b.setDesc c h d).supplyOk =
    b.supplyOk ∧ (b.setDesc c h d).alarms = b.alarms ∧ (b.setDesc c h d).sources = b.sources ∧ (b.setDesc c h
    d).aonLost = b.aonLost ∧ (b.setDesc c h d).cell = b.cell ∧ (b.setDesc c h d).orderAt = b.orderAt ∧ (b.setDesc c
    h d).testedDies = b.testedDies ∧ (b.setDesc c h d).clrPend = b.clrPend ∧ (b.setDesc c h d).life = b.life := by
  repeat' apply And.intro
  all_goals rfl

@[simp] theorem Block.setLine_fields (b : Block) (r p : Nat) (l : Option HeldLine) :
    (b.setLine r p l).cycle = b.cycle ∧ (b.setLine r p l).timeBase = b.timeBase ∧ (b.setLine r p l).rtcBase =
    b.rtcBase ∧ (b.setLine r p l).rtcAt = b.rtcAt ∧ (b.setLine r p l).free = b.free ∧ (b.setLine r p l).stamp =
    b.stamp ∧ (b.setLine r p l).regs = b.regs ∧ (b.setLine r p l).scratch = b.scratch ∧ (b.setLine r p l).ledger =
    b.ledger ∧ (b.setLine r p l).loopMem = b.loopMem ∧ (b.setLine r p l).planMem = b.planMem ∧ (b.setLine r p
    l).stackMem = b.stackMem ∧ (b.setLine r p l).descs = b.descs ∧ (b.setLine r p l).rings = b.rings ∧ (b.setLine r
    p l).items = b.items ∧ (b.setLine r p l).calls = b.calls ∧ (b.setLine r p l).queues = b.queues ∧ (b.setLine r p
    l).baselines = b.baselines ∧ (b.setLine r p l).winBuf = b.winBuf ∧ (b.setLine r p l).pathM = b.pathM ∧
    (b.setLine r p l).pathI = b.pathI ∧ (b.setLine r p l).hostOut = b.hostOut ∧ (b.setLine r p l).latches =
    b.latches ∧ (b.setLine r p l).evlog = b.evlog ∧ (b.setLine r p l).orderEvents = b.orderEvents ∧ (b.setLine r p
    l).vioLog = b.vioLog ∧ (b.setLine r p l).sessions = b.sessions ∧ (b.setLine r p l).sramBad = b.sramBad ∧
    (b.setLine r p l).sfuSlots = b.sfuSlots ∧ (b.setLine r p l).sfuLoads = b.sfuLoads ∧ (b.setLine r p l).measures =
    b.measures ∧ (b.setLine r p l).dram = b.dram ∧ (b.setLine r p l).dramGen = b.dramGen ∧ (b.setLine r p l).fills =
    b.fills ∧ (b.setLine r p l).pillars = b.pillars ∧ (b.setLine r p l).spareMap = b.spareMap ∧ (b.setLine r p
    l).ops = b.ops ∧ (b.setLine r p l).opSeq = b.opSeq ∧ (b.setLine r p l).bnkFault = b.bnkFault ∧ (b.setLine r p
    l).blus = b.blus ∧ (b.setLine r p l).spareMarks = b.spareMarks ∧ (b.setLine r p l).jobKeys = b.jobKeys ∧
    (b.setLine r p l).txCtr = b.txCtr ∧ (b.setLine r p l).rxCtr = b.rxCtr ∧ (b.setLine r p l).peerOut = b.peerOut ∧
    (b.setLine r p l).reqId = b.reqId ∧ (b.setLine r p l).attach = b.attach ∧ (b.setLine r p l).nextSid = b.nextSid
    ∧ (b.setLine r p l).spdmOut = b.spdmOut ∧ (b.setLine r p l).ideKeys = b.ideKeys ∧ (b.setLine r p l).bifurcated =
    b.bifurcated ∧ (b.setLine r p l).dawnWidth = b.dawnWidth ∧ (b.setLine r p l).bundles = b.bundles ∧ (b.setLine r
    p l).bundleJobs = b.bundleJobs ∧ (b.setLine r p l).zeroising = b.zeroising ∧ (b.setLine r p l).norOrders =
    b.norOrders ∧ (b.setLine r p l).norArm = b.norArm ∧ (b.setLine r p l).fwRun = b.fwRun ∧ (b.setLine r p
    l).fwCopies = b.fwCopies ∧ (b.setLine r p l).fwStarted = b.fwStarted ∧ (b.setLine r p l).fwJob = b.fwJob ∧
    (b.setLine r p l).fwNext = b.fwNext ∧ (b.setLine r p l).seqs = b.seqs ∧ (b.setLine r p l).beat = b.beat ∧
    (b.setLine r p l).shelfOut = b.shelfOut ∧ (b.setLine r p l).i3cAddr = b.i3cAddr ∧ (b.setLine r p l).straps =
    b.straps ∧ (b.setLine r p l).domQueue = b.domQueue ∧ (b.setLine r p l).seals = b.seals ∧ (b.setLine r p
    l).sealing = b.sealing ∧ (b.setLine r p l).twilight = b.twilight ∧ (b.setLine r p l).found = b.found ∧
    (b.setLine r p l).intact = b.intact ∧ (b.setLine r p l).replayed = b.replayed ∧ (b.setLine r p l).reissued =
    b.reissued ∧ (b.setLine r p l).heldBack = b.heldBack ∧ (b.setLine r p l).dawnAt = b.dawnAt ∧ (b.setLine r p
    l).stringsTested = b.stringsTested ∧ (b.setLine r p l).failedParts = b.failedParts ∧ (b.setLine r p
    l).stringEnergy = b.stringEnergy ∧ (b.setLine r p l).mrstHeld = b.mrstHeld ∧ (b.setLine r p l).supplyOk =
    b.supplyOk ∧ (b.setLine r p l).alarms = b.alarms ∧ (b.setLine r p l).sources = b.sources ∧ (b.setLine r p
    l).aonLost = b.aonLost ∧ (b.setLine r p l).cell = b.cell ∧ (b.setLine r p l).orderAt = b.orderAt ∧ (b.setLine r
    p l).testedDies = b.testedDies ∧ (b.setLine r p l).clrPend = b.clrPend ∧ (b.setLine r p l).life = b.life := by
  repeat' apply And.intro
  all_goals rfl

@[simp] theorem Block.onRing_fields (b : Block) (r : Nat) (f : RingSt → RingSt) :
    (b.onRing r f).cycle = b.cycle ∧ (b.onRing r f).timeBase = b.timeBase ∧ (b.onRing r f).rtcBase = b.rtcBase ∧
    (b.onRing r f).rtcAt = b.rtcAt ∧ (b.onRing r f).free = b.free ∧ (b.onRing r f).stamp = b.stamp ∧ (b.onRing r
    f).regs = b.regs ∧ (b.onRing r f).scratch = b.scratch ∧ (b.onRing r f).ledger = b.ledger ∧ (b.onRing r
    f).loopMem = b.loopMem ∧ (b.onRing r f).planMem = b.planMem ∧ (b.onRing r f).stackMem = b.stackMem ∧ (b.onRing r
    f).descs = b.descs ∧ (b.onRing r f).lines = b.lines ∧ (b.onRing r f).items = b.items ∧ (b.onRing r f).calls =
    b.calls ∧ (b.onRing r f).queues = b.queues ∧ (b.onRing r f).baselines = b.baselines ∧ (b.onRing r f).winBuf =
    b.winBuf ∧ (b.onRing r f).pathM = b.pathM ∧ (b.onRing r f).pathI = b.pathI ∧ (b.onRing r f).hostOut = b.hostOut
    ∧ (b.onRing r f).latches = b.latches ∧ (b.onRing r f).evlog = b.evlog ∧ (b.onRing r f).orderEvents =
    b.orderEvents ∧ (b.onRing r f).vioLog = b.vioLog ∧ (b.onRing r f).sessions = b.sessions ∧ (b.onRing r f).sramBad
    = b.sramBad ∧ (b.onRing r f).sfuSlots = b.sfuSlots ∧ (b.onRing r f).sfuLoads = b.sfuLoads ∧ (b.onRing r
    f).measures = b.measures ∧ (b.onRing r f).dram = b.dram ∧ (b.onRing r f).dramGen = b.dramGen ∧ (b.onRing r
    f).fills = b.fills ∧ (b.onRing r f).pillars = b.pillars ∧ (b.onRing r f).spareMap = b.spareMap ∧ (b.onRing r
    f).ops = b.ops ∧ (b.onRing r f).opSeq = b.opSeq ∧ (b.onRing r f).bnkFault = b.bnkFault ∧ (b.onRing r f).blus =
    b.blus ∧ (b.onRing r f).spareMarks = b.spareMarks ∧ (b.onRing r f).jobKeys = b.jobKeys ∧ (b.onRing r f).txCtr =
    b.txCtr ∧ (b.onRing r f).rxCtr = b.rxCtr ∧ (b.onRing r f).peerOut = b.peerOut ∧ (b.onRing r f).reqId = b.reqId ∧
    (b.onRing r f).attach = b.attach ∧ (b.onRing r f).nextSid = b.nextSid ∧ (b.onRing r f).spdmOut = b.spdmOut ∧
    (b.onRing r f).ideKeys = b.ideKeys ∧ (b.onRing r f).bifurcated = b.bifurcated ∧ (b.onRing r f).dawnWidth =
    b.dawnWidth ∧ (b.onRing r f).bundles = b.bundles ∧ (b.onRing r f).bundleJobs = b.bundleJobs ∧ (b.onRing r
    f).zeroising = b.zeroising ∧ (b.onRing r f).norOrders = b.norOrders ∧ (b.onRing r f).norArm = b.norArm ∧
    (b.onRing r f).fwRun = b.fwRun ∧ (b.onRing r f).fwCopies = b.fwCopies ∧ (b.onRing r f).fwStarted = b.fwStarted ∧
    (b.onRing r f).fwJob = b.fwJob ∧ (b.onRing r f).fwNext = b.fwNext ∧ (b.onRing r f).seqs = b.seqs ∧ (b.onRing r
    f).beat = b.beat ∧ (b.onRing r f).shelfOut = b.shelfOut ∧ (b.onRing r f).i3cAddr = b.i3cAddr ∧ (b.onRing r
    f).straps = b.straps ∧ (b.onRing r f).domQueue = b.domQueue ∧ (b.onRing r f).seals = b.seals ∧ (b.onRing r
    f).sealing = b.sealing ∧ (b.onRing r f).twilight = b.twilight ∧ (b.onRing r f).found = b.found ∧ (b.onRing r
    f).intact = b.intact ∧ (b.onRing r f).replayed = b.replayed ∧ (b.onRing r f).reissued = b.reissued ∧ (b.onRing r
    f).heldBack = b.heldBack ∧ (b.onRing r f).dawnAt = b.dawnAt ∧ (b.onRing r f).stringsTested = b.stringsTested ∧
    (b.onRing r f).failedParts = b.failedParts ∧ (b.onRing r f).stringEnergy = b.stringEnergy ∧ (b.onRing r
    f).mrstHeld = b.mrstHeld ∧ (b.onRing r f).supplyOk = b.supplyOk ∧ (b.onRing r f).alarms = b.alarms ∧ (b.onRing r
    f).sources = b.sources ∧ (b.onRing r f).aonLost = b.aonLost ∧ (b.onRing r f).cell = b.cell ∧ (b.onRing r
    f).orderAt = b.orderAt ∧ (b.onRing r f).testedDies = b.testedDies ∧ (b.onRing r f).clrPend = b.clrPend ∧
    (b.onRing r f).life = b.life := by
  repeat' apply And.intro
  all_goals rfl

@[simp] theorem Block.setCol_fields (b : Block) (k : Nat) (w : BitVec 288) :
    (b.setCol k w).cycle = b.cycle ∧ (b.setCol k w).timeBase = b.timeBase ∧ (b.setCol k w).rtcBase = b.rtcBase ∧
    (b.setCol k w).rtcAt = b.rtcAt ∧ (b.setCol k w).free = b.free ∧ (b.setCol k w).stamp = b.stamp ∧ (b.setCol k
    w).regs = b.regs ∧ (b.setCol k w).scratch = b.scratch ∧ (b.setCol k w).ledger = b.ledger ∧ (b.setCol k
    w).loopMem = b.loopMem ∧ (b.setCol k w).planMem = b.planMem ∧ (b.setCol k w).stackMem = b.stackMem ∧ (b.setCol k
    w).descs = b.descs ∧ (b.setCol k w).lines = b.lines ∧ (b.setCol k w).rings = b.rings ∧ (b.setCol k w).items =
    b.items ∧ (b.setCol k w).calls = b.calls ∧ (b.setCol k w).queues = b.queues ∧ (b.setCol k w).baselines =
    b.baselines ∧ (b.setCol k w).winBuf = b.winBuf ∧ (b.setCol k w).pathM = b.pathM ∧ (b.setCol k w).pathI = b.pathI
    ∧ (b.setCol k w).hostOut = b.hostOut ∧ (b.setCol k w).latches = b.latches ∧ (b.setCol k w).evlog = b.evlog ∧
    (b.setCol k w).orderEvents = b.orderEvents ∧ (b.setCol k w).vioLog = b.vioLog ∧ (b.setCol k w).sessions =
    b.sessions ∧ (b.setCol k w).sramBad = b.sramBad ∧ (b.setCol k w).sfuSlots = b.sfuSlots ∧ (b.setCol k w).sfuLoads
    = b.sfuLoads ∧ (b.setCol k w).measures = b.measures ∧ (b.setCol k w).dramGen = b.dramGen ∧ (b.setCol k w).fills
    = b.fills ∧ (b.setCol k w).pillars = b.pillars ∧ (b.setCol k w).spareMap = b.spareMap ∧ (b.setCol k w).ops =
    b.ops ∧ (b.setCol k w).opSeq = b.opSeq ∧ (b.setCol k w).bnkFault = b.bnkFault ∧ (b.setCol k w).blus = b.blus ∧
    (b.setCol k w).spareMarks = b.spareMarks ∧ (b.setCol k w).jobKeys = b.jobKeys ∧ (b.setCol k w).txCtr = b.txCtr ∧
    (b.setCol k w).rxCtr = b.rxCtr ∧ (b.setCol k w).peerOut = b.peerOut ∧ (b.setCol k w).reqId = b.reqId ∧ (b.setCol
    k w).attach = b.attach ∧ (b.setCol k w).nextSid = b.nextSid ∧ (b.setCol k w).spdmOut = b.spdmOut ∧ (b.setCol k
    w).ideKeys = b.ideKeys ∧ (b.setCol k w).bifurcated = b.bifurcated ∧ (b.setCol k w).dawnWidth = b.dawnWidth ∧
    (b.setCol k w).bundles = b.bundles ∧ (b.setCol k w).bundleJobs = b.bundleJobs ∧ (b.setCol k w).zeroising =
    b.zeroising ∧ (b.setCol k w).norOrders = b.norOrders ∧ (b.setCol k w).norArm = b.norArm ∧ (b.setCol k w).fwRun =
    b.fwRun ∧ (b.setCol k w).fwCopies = b.fwCopies ∧ (b.setCol k w).fwStarted = b.fwStarted ∧ (b.setCol k w).fwJob =
    b.fwJob ∧ (b.setCol k w).fwNext = b.fwNext ∧ (b.setCol k w).seqs = b.seqs ∧ (b.setCol k w).beat = b.beat ∧
    (b.setCol k w).shelfOut = b.shelfOut ∧ (b.setCol k w).i3cAddr = b.i3cAddr ∧ (b.setCol k w).straps = b.straps ∧
    (b.setCol k w).domQueue = b.domQueue ∧ (b.setCol k w).seals = b.seals ∧ (b.setCol k w).sealing = b.sealing ∧
    (b.setCol k w).twilight = b.twilight ∧ (b.setCol k w).found = b.found ∧ (b.setCol k w).intact = b.intact ∧
    (b.setCol k w).replayed = b.replayed ∧ (b.setCol k w).reissued = b.reissued ∧ (b.setCol k w).heldBack =
    b.heldBack ∧ (b.setCol k w).dawnAt = b.dawnAt ∧ (b.setCol k w).stringsTested = b.stringsTested ∧ (b.setCol k
    w).failedParts = b.failedParts ∧ (b.setCol k w).stringEnergy = b.stringEnergy ∧ (b.setCol k w).mrstHeld =
    b.mrstHeld ∧ (b.setCol k w).supplyOk = b.supplyOk ∧ (b.setCol k w).alarms = b.alarms ∧ (b.setCol k w).sources =
    b.sources ∧ (b.setCol k w).aonLost = b.aonLost ∧ (b.setCol k w).cell = b.cell ∧ (b.setCol k w).orderAt =
    b.orderAt ∧ (b.setCol k w).testedDies = b.testedDies ∧ (b.setCol k w).clrPend = b.clrPend ∧ (b.setCol k w).life
    = b.life := by
  repeat' apply And.intro
  all_goals rfl

@[simp] theorem Block.setBlu_fields (b : Block) (k : Nat) (x : Blu) :
    (b.setBlu k x).cycle = b.cycle ∧ (b.setBlu k x).timeBase = b.timeBase ∧ (b.setBlu k x).rtcBase = b.rtcBase ∧
    (b.setBlu k x).rtcAt = b.rtcAt ∧ (b.setBlu k x).free = b.free ∧ (b.setBlu k x).stamp = b.stamp ∧ (b.setBlu k
    x).regs = b.regs ∧ (b.setBlu k x).scratch = b.scratch ∧ (b.setBlu k x).ledger = b.ledger ∧ (b.setBlu k
    x).loopMem = b.loopMem ∧ (b.setBlu k x).planMem = b.planMem ∧ (b.setBlu k x).stackMem = b.stackMem ∧ (b.setBlu k
    x).descs = b.descs ∧ (b.setBlu k x).lines = b.lines ∧ (b.setBlu k x).rings = b.rings ∧ (b.setBlu k x).items =
    b.items ∧ (b.setBlu k x).calls = b.calls ∧ (b.setBlu k x).queues = b.queues ∧ (b.setBlu k x).baselines =
    b.baselines ∧ (b.setBlu k x).winBuf = b.winBuf ∧ (b.setBlu k x).pathM = b.pathM ∧ (b.setBlu k x).pathI = b.pathI
    ∧ (b.setBlu k x).hostOut = b.hostOut ∧ (b.setBlu k x).latches = b.latches ∧ (b.setBlu k x).evlog = b.evlog ∧
    (b.setBlu k x).orderEvents = b.orderEvents ∧ (b.setBlu k x).vioLog = b.vioLog ∧ (b.setBlu k x).sessions =
    b.sessions ∧ (b.setBlu k x).sramBad = b.sramBad ∧ (b.setBlu k x).sfuSlots = b.sfuSlots ∧ (b.setBlu k x).sfuLoads
    = b.sfuLoads ∧ (b.setBlu k x).measures = b.measures ∧ (b.setBlu k x).dram = b.dram ∧ (b.setBlu k x).dramGen =
    b.dramGen ∧ (b.setBlu k x).fills = b.fills ∧ (b.setBlu k x).pillars = b.pillars ∧ (b.setBlu k x).spareMap =
    b.spareMap ∧ (b.setBlu k x).ops = b.ops ∧ (b.setBlu k x).opSeq = b.opSeq ∧ (b.setBlu k x).bnkFault = b.bnkFault
    ∧ (b.setBlu k x).spareMarks = b.spareMarks ∧ (b.setBlu k x).jobKeys = b.jobKeys ∧ (b.setBlu k x).txCtr = b.txCtr
    ∧ (b.setBlu k x).rxCtr = b.rxCtr ∧ (b.setBlu k x).peerOut = b.peerOut ∧ (b.setBlu k x).reqId = b.reqId ∧
    (b.setBlu k x).attach = b.attach ∧ (b.setBlu k x).nextSid = b.nextSid ∧ (b.setBlu k x).spdmOut = b.spdmOut ∧
    (b.setBlu k x).ideKeys = b.ideKeys ∧ (b.setBlu k x).bifurcated = b.bifurcated ∧ (b.setBlu k x).dawnWidth =
    b.dawnWidth ∧ (b.setBlu k x).bundles = b.bundles ∧ (b.setBlu k x).bundleJobs = b.bundleJobs ∧ (b.setBlu k
    x).zeroising = b.zeroising ∧ (b.setBlu k x).norOrders = b.norOrders ∧ (b.setBlu k x).norArm = b.norArm ∧
    (b.setBlu k x).fwRun = b.fwRun ∧ (b.setBlu k x).fwCopies = b.fwCopies ∧ (b.setBlu k x).fwStarted = b.fwStarted ∧
    (b.setBlu k x).fwJob = b.fwJob ∧ (b.setBlu k x).fwNext = b.fwNext ∧ (b.setBlu k x).seqs = b.seqs ∧ (b.setBlu k
    x).beat = b.beat ∧ (b.setBlu k x).shelfOut = b.shelfOut ∧ (b.setBlu k x).i3cAddr = b.i3cAddr ∧ (b.setBlu k
    x).straps = b.straps ∧ (b.setBlu k x).domQueue = b.domQueue ∧ (b.setBlu k x).seals = b.seals ∧ (b.setBlu k
    x).sealing = b.sealing ∧ (b.setBlu k x).twilight = b.twilight ∧ (b.setBlu k x).found = b.found ∧ (b.setBlu k
    x).intact = b.intact ∧ (b.setBlu k x).replayed = b.replayed ∧ (b.setBlu k x).reissued = b.reissued ∧ (b.setBlu k
    x).heldBack = b.heldBack ∧ (b.setBlu k x).dawnAt = b.dawnAt ∧ (b.setBlu k x).stringsTested = b.stringsTested ∧
    (b.setBlu k x).failedParts = b.failedParts ∧ (b.setBlu k x).stringEnergy = b.stringEnergy ∧ (b.setBlu k
    x).mrstHeld = b.mrstHeld ∧ (b.setBlu k x).supplyOk = b.supplyOk ∧ (b.setBlu k x).alarms = b.alarms ∧ (b.setBlu k
    x).sources = b.sources ∧ (b.setBlu k x).aonLost = b.aonLost ∧ (b.setBlu k x).cell = b.cell ∧ (b.setBlu k
    x).orderAt = b.orderAt ∧ (b.setBlu k x).testedDies = b.testedDies ∧ (b.setBlu k x).clrPend = b.clrPend ∧
    (b.setBlu k x).life = b.life := by
  repeat' apply And.intro
  all_goals rfl

@[simp] theorem Block.mapBlu_fields (b : Block) (k : Nat) (f : Blu → Blu) :
    (b.mapBlu k f).cycle = b.cycle ∧ (b.mapBlu k f).timeBase = b.timeBase ∧ (b.mapBlu k f).rtcBase = b.rtcBase ∧
    (b.mapBlu k f).rtcAt = b.rtcAt ∧ (b.mapBlu k f).free = b.free ∧ (b.mapBlu k f).stamp = b.stamp ∧ (b.mapBlu k
    f).regs = b.regs ∧ (b.mapBlu k f).scratch = b.scratch ∧ (b.mapBlu k f).ledger = b.ledger ∧ (b.mapBlu k
    f).loopMem = b.loopMem ∧ (b.mapBlu k f).planMem = b.planMem ∧ (b.mapBlu k f).stackMem = b.stackMem ∧ (b.mapBlu k
    f).descs = b.descs ∧ (b.mapBlu k f).lines = b.lines ∧ (b.mapBlu k f).rings = b.rings ∧ (b.mapBlu k f).items =
    b.items ∧ (b.mapBlu k f).calls = b.calls ∧ (b.mapBlu k f).queues = b.queues ∧ (b.mapBlu k f).baselines =
    b.baselines ∧ (b.mapBlu k f).winBuf = b.winBuf ∧ (b.mapBlu k f).pathM = b.pathM ∧ (b.mapBlu k f).pathI = b.pathI
    ∧ (b.mapBlu k f).hostOut = b.hostOut ∧ (b.mapBlu k f).latches = b.latches ∧ (b.mapBlu k f).evlog = b.evlog ∧
    (b.mapBlu k f).orderEvents = b.orderEvents ∧ (b.mapBlu k f).vioLog = b.vioLog ∧ (b.mapBlu k f).sessions =
    b.sessions ∧ (b.mapBlu k f).sramBad = b.sramBad ∧ (b.mapBlu k f).sfuSlots = b.sfuSlots ∧ (b.mapBlu k f).sfuLoads
    = b.sfuLoads ∧ (b.mapBlu k f).measures = b.measures ∧ (b.mapBlu k f).dram = b.dram ∧ (b.mapBlu k f).dramGen =
    b.dramGen ∧ (b.mapBlu k f).fills = b.fills ∧ (b.mapBlu k f).pillars = b.pillars ∧ (b.mapBlu k f).spareMap =
    b.spareMap ∧ (b.mapBlu k f).ops = b.ops ∧ (b.mapBlu k f).opSeq = b.opSeq ∧ (b.mapBlu k f).bnkFault = b.bnkFault
    ∧ (b.mapBlu k f).spareMarks = b.spareMarks ∧ (b.mapBlu k f).jobKeys = b.jobKeys ∧ (b.mapBlu k f).txCtr = b.txCtr
    ∧ (b.mapBlu k f).rxCtr = b.rxCtr ∧ (b.mapBlu k f).peerOut = b.peerOut ∧ (b.mapBlu k f).reqId = b.reqId ∧
    (b.mapBlu k f).attach = b.attach ∧ (b.mapBlu k f).nextSid = b.nextSid ∧ (b.mapBlu k f).spdmOut = b.spdmOut ∧
    (b.mapBlu k f).ideKeys = b.ideKeys ∧ (b.mapBlu k f).bifurcated = b.bifurcated ∧ (b.mapBlu k f).dawnWidth =
    b.dawnWidth ∧ (b.mapBlu k f).bundles = b.bundles ∧ (b.mapBlu k f).bundleJobs = b.bundleJobs ∧ (b.mapBlu k
    f).zeroising = b.zeroising ∧ (b.mapBlu k f).norOrders = b.norOrders ∧ (b.mapBlu k f).norArm = b.norArm ∧
    (b.mapBlu k f).fwRun = b.fwRun ∧ (b.mapBlu k f).fwCopies = b.fwCopies ∧ (b.mapBlu k f).fwStarted = b.fwStarted ∧
    (b.mapBlu k f).fwJob = b.fwJob ∧ (b.mapBlu k f).fwNext = b.fwNext ∧ (b.mapBlu k f).seqs = b.seqs ∧ (b.mapBlu k
    f).beat = b.beat ∧ (b.mapBlu k f).shelfOut = b.shelfOut ∧ (b.mapBlu k f).i3cAddr = b.i3cAddr ∧ (b.mapBlu k
    f).straps = b.straps ∧ (b.mapBlu k f).domQueue = b.domQueue ∧ (b.mapBlu k f).seals = b.seals ∧ (b.mapBlu k
    f).sealing = b.sealing ∧ (b.mapBlu k f).twilight = b.twilight ∧ (b.mapBlu k f).found = b.found ∧ (b.mapBlu k
    f).intact = b.intact ∧ (b.mapBlu k f).replayed = b.replayed ∧ (b.mapBlu k f).reissued = b.reissued ∧ (b.mapBlu k
    f).heldBack = b.heldBack ∧ (b.mapBlu k f).dawnAt = b.dawnAt ∧ (b.mapBlu k f).stringsTested = b.stringsTested ∧
    (b.mapBlu k f).failedParts = b.failedParts ∧ (b.mapBlu k f).stringEnergy = b.stringEnergy ∧ (b.mapBlu k
    f).mrstHeld = b.mrstHeld ∧ (b.mapBlu k f).supplyOk = b.supplyOk ∧ (b.mapBlu k f).alarms = b.alarms ∧ (b.mapBlu k
    f).sources = b.sources ∧ (b.mapBlu k f).aonLost = b.aonLost ∧ (b.mapBlu k f).cell = b.cell ∧ (b.mapBlu k
    f).orderAt = b.orderAt ∧ (b.mapBlu k f).testedDies = b.testedDies ∧ (b.mapBlu k f).clrPend = b.clrPend ∧
    (b.mapBlu k f).life = b.life := by
  repeat' apply And.intro
  all_goals rfl

@[simp] theorem Block.onBlu_fields (b : Block) (x : BankAt) (f : Blu → Blu) :
    (b.onBlu x f).cycle = b.cycle ∧ (b.onBlu x f).timeBase = b.timeBase ∧ (b.onBlu x f).rtcBase = b.rtcBase ∧
    (b.onBlu x f).rtcAt = b.rtcAt ∧ (b.onBlu x f).free = b.free ∧ (b.onBlu x f).stamp = b.stamp ∧ (b.onBlu x f).regs
    = b.regs ∧ (b.onBlu x f).scratch = b.scratch ∧ (b.onBlu x f).ledger = b.ledger ∧ (b.onBlu x f).loopMem =
    b.loopMem ∧ (b.onBlu x f).planMem = b.planMem ∧ (b.onBlu x f).stackMem = b.stackMem ∧ (b.onBlu x f).descs =
    b.descs ∧ (b.onBlu x f).lines = b.lines ∧ (b.onBlu x f).rings = b.rings ∧ (b.onBlu x f).items = b.items ∧
    (b.onBlu x f).calls = b.calls ∧ (b.onBlu x f).queues = b.queues ∧ (b.onBlu x f).baselines = b.baselines ∧
    (b.onBlu x f).winBuf = b.winBuf ∧ (b.onBlu x f).pathM = b.pathM ∧ (b.onBlu x f).pathI = b.pathI ∧ (b.onBlu x
    f).hostOut = b.hostOut ∧ (b.onBlu x f).latches = b.latches ∧ (b.onBlu x f).evlog = b.evlog ∧ (b.onBlu x
    f).orderEvents = b.orderEvents ∧ (b.onBlu x f).vioLog = b.vioLog ∧ (b.onBlu x f).sessions = b.sessions ∧
    (b.onBlu x f).sramBad = b.sramBad ∧ (b.onBlu x f).sfuSlots = b.sfuSlots ∧ (b.onBlu x f).sfuLoads = b.sfuLoads ∧
    (b.onBlu x f).measures = b.measures ∧ (b.onBlu x f).dram = b.dram ∧ (b.onBlu x f).dramGen = b.dramGen ∧ (b.onBlu
    x f).fills = b.fills ∧ (b.onBlu x f).pillars = b.pillars ∧ (b.onBlu x f).spareMap = b.spareMap ∧ (b.onBlu x
    f).ops = b.ops ∧ (b.onBlu x f).opSeq = b.opSeq ∧ (b.onBlu x f).bnkFault = b.bnkFault ∧ (b.onBlu x f).spareMarks
    = b.spareMarks ∧ (b.onBlu x f).jobKeys = b.jobKeys ∧ (b.onBlu x f).txCtr = b.txCtr ∧ (b.onBlu x f).rxCtr =
    b.rxCtr ∧ (b.onBlu x f).peerOut = b.peerOut ∧ (b.onBlu x f).reqId = b.reqId ∧ (b.onBlu x f).attach = b.attach ∧
    (b.onBlu x f).nextSid = b.nextSid ∧ (b.onBlu x f).spdmOut = b.spdmOut ∧ (b.onBlu x f).ideKeys = b.ideKeys ∧
    (b.onBlu x f).bifurcated = b.bifurcated ∧ (b.onBlu x f).dawnWidth = b.dawnWidth ∧ (b.onBlu x f).bundles =
    b.bundles ∧ (b.onBlu x f).bundleJobs = b.bundleJobs ∧ (b.onBlu x f).zeroising = b.zeroising ∧ (b.onBlu x
    f).norOrders = b.norOrders ∧ (b.onBlu x f).norArm = b.norArm ∧ (b.onBlu x f).fwRun = b.fwRun ∧ (b.onBlu x
    f).fwCopies = b.fwCopies ∧ (b.onBlu x f).fwStarted = b.fwStarted ∧ (b.onBlu x f).fwJob = b.fwJob ∧ (b.onBlu x
    f).fwNext = b.fwNext ∧ (b.onBlu x f).seqs = b.seqs ∧ (b.onBlu x f).beat = b.beat ∧ (b.onBlu x f).shelfOut =
    b.shelfOut ∧ (b.onBlu x f).i3cAddr = b.i3cAddr ∧ (b.onBlu x f).straps = b.straps ∧ (b.onBlu x f).domQueue =
    b.domQueue ∧ (b.onBlu x f).seals = b.seals ∧ (b.onBlu x f).sealing = b.sealing ∧ (b.onBlu x f).twilight =
    b.twilight ∧ (b.onBlu x f).found = b.found ∧ (b.onBlu x f).intact = b.intact ∧ (b.onBlu x f).replayed =
    b.replayed ∧ (b.onBlu x f).reissued = b.reissued ∧ (b.onBlu x f).heldBack = b.heldBack ∧ (b.onBlu x f).dawnAt =
    b.dawnAt ∧ (b.onBlu x f).stringsTested = b.stringsTested ∧ (b.onBlu x f).failedParts = b.failedParts ∧ (b.onBlu
    x f).stringEnergy = b.stringEnergy ∧ (b.onBlu x f).mrstHeld = b.mrstHeld ∧ (b.onBlu x f).supplyOk = b.supplyOk ∧
    (b.onBlu x f).alarms = b.alarms ∧ (b.onBlu x f).sources = b.sources ∧ (b.onBlu x f).aonLost = b.aonLost ∧
    (b.onBlu x f).cell = b.cell ∧ (b.onBlu x f).orderAt = b.orderAt ∧ (b.onBlu x f).testedDies = b.testedDies ∧
    (b.onBlu x f).clrPend = b.clrPend ∧ (b.onBlu x f).life = b.life := by
  repeat' apply And.intro
  all_goals rfl

@[simp] theorem Block.onPillar_fields (b : Block) (p : Nat) (f : PillarSt → PillarSt) :
    (b.onPillar p f).cycle = b.cycle ∧ (b.onPillar p f).timeBase = b.timeBase ∧ (b.onPillar p f).rtcBase = b.rtcBase
    ∧ (b.onPillar p f).rtcAt = b.rtcAt ∧ (b.onPillar p f).free = b.free ∧ (b.onPillar p f).stamp = b.stamp ∧
    (b.onPillar p f).regs = b.regs ∧ (b.onPillar p f).scratch = b.scratch ∧ (b.onPillar p f).ledger = b.ledger ∧
    (b.onPillar p f).loopMem = b.loopMem ∧ (b.onPillar p f).planMem = b.planMem ∧ (b.onPillar p f).stackMem =
    b.stackMem ∧ (b.onPillar p f).descs = b.descs ∧ (b.onPillar p f).lines = b.lines ∧ (b.onPillar p f).rings =
    b.rings ∧ (b.onPillar p f).items = b.items ∧ (b.onPillar p f).calls = b.calls ∧ (b.onPillar p f).queues =
    b.queues ∧ (b.onPillar p f).baselines = b.baselines ∧ (b.onPillar p f).winBuf = b.winBuf ∧ (b.onPillar p
    f).pathM = b.pathM ∧ (b.onPillar p f).pathI = b.pathI ∧ (b.onPillar p f).hostOut = b.hostOut ∧ (b.onPillar p
    f).latches = b.latches ∧ (b.onPillar p f).evlog = b.evlog ∧ (b.onPillar p f).orderEvents = b.orderEvents ∧
    (b.onPillar p f).vioLog = b.vioLog ∧ (b.onPillar p f).sessions = b.sessions ∧ (b.onPillar p f).sramBad =
    b.sramBad ∧ (b.onPillar p f).sfuSlots = b.sfuSlots ∧ (b.onPillar p f).sfuLoads = b.sfuLoads ∧ (b.onPillar p
    f).measures = b.measures ∧ (b.onPillar p f).dram = b.dram ∧ (b.onPillar p f).dramGen = b.dramGen ∧ (b.onPillar p
    f).fills = b.fills ∧ (b.onPillar p f).spareMap = b.spareMap ∧ (b.onPillar p f).ops = b.ops ∧ (b.onPillar p
    f).opSeq = b.opSeq ∧ (b.onPillar p f).bnkFault = b.bnkFault ∧ (b.onPillar p f).blus = b.blus ∧ (b.onPillar p
    f).spareMarks = b.spareMarks ∧ (b.onPillar p f).jobKeys = b.jobKeys ∧ (b.onPillar p f).txCtr = b.txCtr ∧
    (b.onPillar p f).rxCtr = b.rxCtr ∧ (b.onPillar p f).peerOut = b.peerOut ∧ (b.onPillar p f).reqId = b.reqId ∧
    (b.onPillar p f).attach = b.attach ∧ (b.onPillar p f).nextSid = b.nextSid ∧ (b.onPillar p f).spdmOut = b.spdmOut
    ∧ (b.onPillar p f).ideKeys = b.ideKeys ∧ (b.onPillar p f).bifurcated = b.bifurcated ∧ (b.onPillar p f).dawnWidth
    = b.dawnWidth ∧ (b.onPillar p f).bundles = b.bundles ∧ (b.onPillar p f).bundleJobs = b.bundleJobs ∧ (b.onPillar
    p f).zeroising = b.zeroising ∧ (b.onPillar p f).norOrders = b.norOrders ∧ (b.onPillar p f).norArm = b.norArm ∧
    (b.onPillar p f).fwRun = b.fwRun ∧ (b.onPillar p f).fwCopies = b.fwCopies ∧ (b.onPillar p f).fwStarted =
    b.fwStarted ∧ (b.onPillar p f).fwJob = b.fwJob ∧ (b.onPillar p f).fwNext = b.fwNext ∧ (b.onPillar p f).seqs =
    b.seqs ∧ (b.onPillar p f).beat = b.beat ∧ (b.onPillar p f).shelfOut = b.shelfOut ∧ (b.onPillar p f).i3cAddr =
    b.i3cAddr ∧ (b.onPillar p f).straps = b.straps ∧ (b.onPillar p f).domQueue = b.domQueue ∧ (b.onPillar p f).seals
    = b.seals ∧ (b.onPillar p f).sealing = b.sealing ∧ (b.onPillar p f).twilight = b.twilight ∧ (b.onPillar p
    f).found = b.found ∧ (b.onPillar p f).intact = b.intact ∧ (b.onPillar p f).replayed = b.replayed ∧ (b.onPillar p
    f).reissued = b.reissued ∧ (b.onPillar p f).heldBack = b.heldBack ∧ (b.onPillar p f).dawnAt = b.dawnAt ∧
    (b.onPillar p f).stringsTested = b.stringsTested ∧ (b.onPillar p f).failedParts = b.failedParts ∧ (b.onPillar p
    f).stringEnergy = b.stringEnergy ∧ (b.onPillar p f).mrstHeld = b.mrstHeld ∧ (b.onPillar p f).supplyOk =
    b.supplyOk ∧ (b.onPillar p f).alarms = b.alarms ∧ (b.onPillar p f).sources = b.sources ∧ (b.onPillar p
    f).aonLost = b.aonLost ∧ (b.onPillar p f).cell = b.cell ∧ (b.onPillar p f).orderAt = b.orderAt ∧ (b.onPillar p
    f).testedDies = b.testedDies ∧ (b.onPillar p f).clrPend = b.clrPend ∧ (b.onPillar p f).life = b.life := by
  repeat' apply And.intro
  all_goals rfl

@[simp] theorem Block.onSeq_fields (b : Block) (q : Nat) (f : SeqSt → SeqSt) :
    (b.onSeq q f).cycle = b.cycle ∧ (b.onSeq q f).timeBase = b.timeBase ∧ (b.onSeq q f).rtcBase = b.rtcBase ∧
    (b.onSeq q f).rtcAt = b.rtcAt ∧ (b.onSeq q f).free = b.free ∧ (b.onSeq q f).stamp = b.stamp ∧ (b.onSeq q f).regs
    = b.regs ∧ (b.onSeq q f).scratch = b.scratch ∧ (b.onSeq q f).ledger = b.ledger ∧ (b.onSeq q f).loopMem =
    b.loopMem ∧ (b.onSeq q f).planMem = b.planMem ∧ (b.onSeq q f).stackMem = b.stackMem ∧ (b.onSeq q f).descs =
    b.descs ∧ (b.onSeq q f).lines = b.lines ∧ (b.onSeq q f).rings = b.rings ∧ (b.onSeq q f).items = b.items ∧
    (b.onSeq q f).calls = b.calls ∧ (b.onSeq q f).queues = b.queues ∧ (b.onSeq q f).baselines = b.baselines ∧
    (b.onSeq q f).winBuf = b.winBuf ∧ (b.onSeq q f).pathM = b.pathM ∧ (b.onSeq q f).pathI = b.pathI ∧ (b.onSeq q
    f).hostOut = b.hostOut ∧ (b.onSeq q f).latches = b.latches ∧ (b.onSeq q f).evlog = b.evlog ∧ (b.onSeq q
    f).orderEvents = b.orderEvents ∧ (b.onSeq q f).vioLog = b.vioLog ∧ (b.onSeq q f).sessions = b.sessions ∧
    (b.onSeq q f).sramBad = b.sramBad ∧ (b.onSeq q f).sfuSlots = b.sfuSlots ∧ (b.onSeq q f).sfuLoads = b.sfuLoads ∧
    (b.onSeq q f).measures = b.measures ∧ (b.onSeq q f).dram = b.dram ∧ (b.onSeq q f).dramGen = b.dramGen ∧ (b.onSeq
    q f).fills = b.fills ∧ (b.onSeq q f).pillars = b.pillars ∧ (b.onSeq q f).spareMap = b.spareMap ∧ (b.onSeq q
    f).ops = b.ops ∧ (b.onSeq q f).opSeq = b.opSeq ∧ (b.onSeq q f).bnkFault = b.bnkFault ∧ (b.onSeq q f).blus =
    b.blus ∧ (b.onSeq q f).spareMarks = b.spareMarks ∧ (b.onSeq q f).jobKeys = b.jobKeys ∧ (b.onSeq q f).txCtr =
    b.txCtr ∧ (b.onSeq q f).rxCtr = b.rxCtr ∧ (b.onSeq q f).peerOut = b.peerOut ∧ (b.onSeq q f).reqId = b.reqId ∧
    (b.onSeq q f).attach = b.attach ∧ (b.onSeq q f).nextSid = b.nextSid ∧ (b.onSeq q f).spdmOut = b.spdmOut ∧
    (b.onSeq q f).ideKeys = b.ideKeys ∧ (b.onSeq q f).bifurcated = b.bifurcated ∧ (b.onSeq q f).dawnWidth =
    b.dawnWidth ∧ (b.onSeq q f).bundles = b.bundles ∧ (b.onSeq q f).bundleJobs = b.bundleJobs ∧ (b.onSeq q
    f).zeroising = b.zeroising ∧ (b.onSeq q f).norOrders = b.norOrders ∧ (b.onSeq q f).norArm = b.norArm ∧ (b.onSeq
    q f).fwRun = b.fwRun ∧ (b.onSeq q f).fwCopies = b.fwCopies ∧ (b.onSeq q f).fwStarted = b.fwStarted ∧ (b.onSeq q
    f).fwJob = b.fwJob ∧ (b.onSeq q f).fwNext = b.fwNext ∧ (b.onSeq q f).beat = b.beat ∧ (b.onSeq q f).shelfOut =
    b.shelfOut ∧ (b.onSeq q f).i3cAddr = b.i3cAddr ∧ (b.onSeq q f).straps = b.straps ∧ (b.onSeq q f).domQueue =
    b.domQueue ∧ (b.onSeq q f).seals = b.seals ∧ (b.onSeq q f).sealing = b.sealing ∧ (b.onSeq q f).twilight =
    b.twilight ∧ (b.onSeq q f).found = b.found ∧ (b.onSeq q f).intact = b.intact ∧ (b.onSeq q f).replayed =
    b.replayed ∧ (b.onSeq q f).reissued = b.reissued ∧ (b.onSeq q f).heldBack = b.heldBack ∧ (b.onSeq q f).dawnAt =
    b.dawnAt ∧ (b.onSeq q f).stringsTested = b.stringsTested ∧ (b.onSeq q f).failedParts = b.failedParts ∧ (b.onSeq
    q f).stringEnergy = b.stringEnergy ∧ (b.onSeq q f).mrstHeld = b.mrstHeld ∧ (b.onSeq q f).supplyOk = b.supplyOk ∧
    (b.onSeq q f).alarms = b.alarms ∧ (b.onSeq q f).sources = b.sources ∧ (b.onSeq q f).aonLost = b.aonLost ∧
    (b.onSeq q f).cell = b.cell ∧ (b.onSeq q f).orderAt = b.orderAt ∧ (b.onSeq q f).testedDies = b.testedDies ∧
    (b.onSeq q f).clrPend = b.clrPend ∧ (b.onSeq q f).life = b.life := by
  repeat' apply And.intro
  all_goals rfl

@[simp] theorem Block.onAtt_fields (b : Block) (k : Nat) (f : Attach → Attach) :
    (b.onAtt k f).cycle = b.cycle ∧ (b.onAtt k f).timeBase = b.timeBase ∧ (b.onAtt k f).rtcBase = b.rtcBase ∧
    (b.onAtt k f).rtcAt = b.rtcAt ∧ (b.onAtt k f).free = b.free ∧ (b.onAtt k f).stamp = b.stamp ∧ (b.onAtt k f).regs
    = b.regs ∧ (b.onAtt k f).scratch = b.scratch ∧ (b.onAtt k f).ledger = b.ledger ∧ (b.onAtt k f).loopMem =
    b.loopMem ∧ (b.onAtt k f).planMem = b.planMem ∧ (b.onAtt k f).stackMem = b.stackMem ∧ (b.onAtt k f).descs =
    b.descs ∧ (b.onAtt k f).lines = b.lines ∧ (b.onAtt k f).rings = b.rings ∧ (b.onAtt k f).items = b.items ∧
    (b.onAtt k f).calls = b.calls ∧ (b.onAtt k f).queues = b.queues ∧ (b.onAtt k f).baselines = b.baselines ∧
    (b.onAtt k f).winBuf = b.winBuf ∧ (b.onAtt k f).pathM = b.pathM ∧ (b.onAtt k f).pathI = b.pathI ∧ (b.onAtt k
    f).hostOut = b.hostOut ∧ (b.onAtt k f).latches = b.latches ∧ (b.onAtt k f).evlog = b.evlog ∧ (b.onAtt k
    f).orderEvents = b.orderEvents ∧ (b.onAtt k f).vioLog = b.vioLog ∧ (b.onAtt k f).sessions = b.sessions ∧
    (b.onAtt k f).sramBad = b.sramBad ∧ (b.onAtt k f).sfuSlots = b.sfuSlots ∧ (b.onAtt k f).sfuLoads = b.sfuLoads ∧
    (b.onAtt k f).measures = b.measures ∧ (b.onAtt k f).dram = b.dram ∧ (b.onAtt k f).dramGen = b.dramGen ∧ (b.onAtt
    k f).fills = b.fills ∧ (b.onAtt k f).pillars = b.pillars ∧ (b.onAtt k f).spareMap = b.spareMap ∧ (b.onAtt k
    f).ops = b.ops ∧ (b.onAtt k f).opSeq = b.opSeq ∧ (b.onAtt k f).bnkFault = b.bnkFault ∧ (b.onAtt k f).blus =
    b.blus ∧ (b.onAtt k f).spareMarks = b.spareMarks ∧ (b.onAtt k f).jobKeys = b.jobKeys ∧ (b.onAtt k f).txCtr =
    b.txCtr ∧ (b.onAtt k f).rxCtr = b.rxCtr ∧ (b.onAtt k f).peerOut = b.peerOut ∧ (b.onAtt k f).reqId = b.reqId ∧
    (b.onAtt k f).nextSid = b.nextSid ∧ (b.onAtt k f).spdmOut = b.spdmOut ∧ (b.onAtt k f).ideKeys = b.ideKeys ∧
    (b.onAtt k f).bifurcated = b.bifurcated ∧ (b.onAtt k f).dawnWidth = b.dawnWidth ∧ (b.onAtt k f).bundles =
    b.bundles ∧ (b.onAtt k f).bundleJobs = b.bundleJobs ∧ (b.onAtt k f).zeroising = b.zeroising ∧ (b.onAtt k
    f).norOrders = b.norOrders ∧ (b.onAtt k f).norArm = b.norArm ∧ (b.onAtt k f).fwRun = b.fwRun ∧ (b.onAtt k
    f).fwCopies = b.fwCopies ∧ (b.onAtt k f).fwStarted = b.fwStarted ∧ (b.onAtt k f).fwJob = b.fwJob ∧ (b.onAtt k
    f).fwNext = b.fwNext ∧ (b.onAtt k f).seqs = b.seqs ∧ (b.onAtt k f).beat = b.beat ∧ (b.onAtt k f).shelfOut =
    b.shelfOut ∧ (b.onAtt k f).i3cAddr = b.i3cAddr ∧ (b.onAtt k f).straps = b.straps ∧ (b.onAtt k f).domQueue =
    b.domQueue ∧ (b.onAtt k f).seals = b.seals ∧ (b.onAtt k f).sealing = b.sealing ∧ (b.onAtt k f).twilight =
    b.twilight ∧ (b.onAtt k f).found = b.found ∧ (b.onAtt k f).intact = b.intact ∧ (b.onAtt k f).replayed =
    b.replayed ∧ (b.onAtt k f).reissued = b.reissued ∧ (b.onAtt k f).heldBack = b.heldBack ∧ (b.onAtt k f).dawnAt =
    b.dawnAt ∧ (b.onAtt k f).stringsTested = b.stringsTested ∧ (b.onAtt k f).failedParts = b.failedParts ∧ (b.onAtt
    k f).stringEnergy = b.stringEnergy ∧ (b.onAtt k f).mrstHeld = b.mrstHeld ∧ (b.onAtt k f).supplyOk = b.supplyOk ∧
    (b.onAtt k f).alarms = b.alarms ∧ (b.onAtt k f).sources = b.sources ∧ (b.onAtt k f).aonLost = b.aonLost ∧
    (b.onAtt k f).cell = b.cell ∧ (b.onAtt k f).orderAt = b.orderAt ∧ (b.onAtt k f).testedDies = b.testedDies ∧
    (b.onAtt k f).clrPend = b.clrPend ∧ (b.onAtt k f).life = b.life := by
  repeat' apply And.intro
  all_goals rfl

@[simp] theorem Block.onBeat_fields (b : Block) (f : Beat → Beat) :
    (b.onBeat f).cycle = b.cycle ∧ (b.onBeat f).timeBase = b.timeBase ∧ (b.onBeat f).rtcBase = b.rtcBase ∧ (b.onBeat
    f).rtcAt = b.rtcAt ∧ (b.onBeat f).free = b.free ∧ (b.onBeat f).stamp = b.stamp ∧ (b.onBeat f).regs = b.regs ∧
    (b.onBeat f).scratch = b.scratch ∧ (b.onBeat f).ledger = b.ledger ∧ (b.onBeat f).loopMem = b.loopMem ∧ (b.onBeat
    f).planMem = b.planMem ∧ (b.onBeat f).stackMem = b.stackMem ∧ (b.onBeat f).descs = b.descs ∧ (b.onBeat f).lines
    = b.lines ∧ (b.onBeat f).rings = b.rings ∧ (b.onBeat f).items = b.items ∧ (b.onBeat f).calls = b.calls ∧
    (b.onBeat f).queues = b.queues ∧ (b.onBeat f).baselines = b.baselines ∧ (b.onBeat f).winBuf = b.winBuf ∧
    (b.onBeat f).pathM = b.pathM ∧ (b.onBeat f).pathI = b.pathI ∧ (b.onBeat f).hostOut = b.hostOut ∧ (b.onBeat
    f).latches = b.latches ∧ (b.onBeat f).evlog = b.evlog ∧ (b.onBeat f).orderEvents = b.orderEvents ∧ (b.onBeat
    f).vioLog = b.vioLog ∧ (b.onBeat f).sessions = b.sessions ∧ (b.onBeat f).sramBad = b.sramBad ∧ (b.onBeat
    f).sfuSlots = b.sfuSlots ∧ (b.onBeat f).sfuLoads = b.sfuLoads ∧ (b.onBeat f).measures = b.measures ∧ (b.onBeat
    f).dram = b.dram ∧ (b.onBeat f).dramGen = b.dramGen ∧ (b.onBeat f).fills = b.fills ∧ (b.onBeat f).pillars =
    b.pillars ∧ (b.onBeat f).spareMap = b.spareMap ∧ (b.onBeat f).ops = b.ops ∧ (b.onBeat f).opSeq = b.opSeq ∧
    (b.onBeat f).bnkFault = b.bnkFault ∧ (b.onBeat f).blus = b.blus ∧ (b.onBeat f).spareMarks = b.spareMarks ∧
    (b.onBeat f).jobKeys = b.jobKeys ∧ (b.onBeat f).txCtr = b.txCtr ∧ (b.onBeat f).rxCtr = b.rxCtr ∧ (b.onBeat
    f).peerOut = b.peerOut ∧ (b.onBeat f).reqId = b.reqId ∧ (b.onBeat f).attach = b.attach ∧ (b.onBeat f).nextSid =
    b.nextSid ∧ (b.onBeat f).spdmOut = b.spdmOut ∧ (b.onBeat f).ideKeys = b.ideKeys ∧ (b.onBeat f).bifurcated =
    b.bifurcated ∧ (b.onBeat f).dawnWidth = b.dawnWidth ∧ (b.onBeat f).bundles = b.bundles ∧ (b.onBeat f).bundleJobs
    = b.bundleJobs ∧ (b.onBeat f).zeroising = b.zeroising ∧ (b.onBeat f).norOrders = b.norOrders ∧ (b.onBeat
    f).norArm = b.norArm ∧ (b.onBeat f).fwRun = b.fwRun ∧ (b.onBeat f).fwCopies = b.fwCopies ∧ (b.onBeat
    f).fwStarted = b.fwStarted ∧ (b.onBeat f).fwJob = b.fwJob ∧ (b.onBeat f).fwNext = b.fwNext ∧ (b.onBeat f).seqs =
    b.seqs ∧ (b.onBeat f).shelfOut = b.shelfOut ∧ (b.onBeat f).i3cAddr = b.i3cAddr ∧ (b.onBeat f).straps = b.straps
    ∧ (b.onBeat f).domQueue = b.domQueue ∧ (b.onBeat f).seals = b.seals ∧ (b.onBeat f).sealing = b.sealing ∧
    (b.onBeat f).twilight = b.twilight ∧ (b.onBeat f).found = b.found ∧ (b.onBeat f).intact = b.intact ∧ (b.onBeat
    f).replayed = b.replayed ∧ (b.onBeat f).reissued = b.reissued ∧ (b.onBeat f).heldBack = b.heldBack ∧ (b.onBeat
    f).dawnAt = b.dawnAt ∧ (b.onBeat f).stringsTested = b.stringsTested ∧ (b.onBeat f).failedParts = b.failedParts ∧
    (b.onBeat f).stringEnergy = b.stringEnergy ∧ (b.onBeat f).mrstHeld = b.mrstHeld ∧ (b.onBeat f).supplyOk =
    b.supplyOk ∧ (b.onBeat f).alarms = b.alarms ∧ (b.onBeat f).sources = b.sources ∧ (b.onBeat f).aonLost =
    b.aonLost ∧ (b.onBeat f).cell = b.cell ∧ (b.onBeat f).orderAt = b.orderAt ∧ (b.onBeat f).testedDies =
    b.testedDies ∧ (b.onBeat f).clrPend = b.clrPend ∧ (b.onBeat f).life = b.life := by
  repeat' apply And.intro
  all_goals rfl

@[simp] theorem Block.ledWrite_fields (b : Block) (a : Nat) (bs : List Byte) :
    (b.ledWrite a bs).cycle = b.cycle ∧ (b.ledWrite a bs).timeBase = b.timeBase ∧ (b.ledWrite a bs).rtcBase =
    b.rtcBase ∧ (b.ledWrite a bs).rtcAt = b.rtcAt ∧ (b.ledWrite a bs).free = b.free ∧ (b.ledWrite a bs).stamp =
    b.stamp ∧ (b.ledWrite a bs).regs = b.regs ∧ (b.ledWrite a bs).scratch = b.scratch ∧ (b.ledWrite a bs).loopMem =
    b.loopMem ∧ (b.ledWrite a bs).planMem = b.planMem ∧ (b.ledWrite a bs).stackMem = b.stackMem ∧ (b.ledWrite a
    bs).descs = b.descs ∧ (b.ledWrite a bs).lines = b.lines ∧ (b.ledWrite a bs).rings = b.rings ∧ (b.ledWrite a
    bs).items = b.items ∧ (b.ledWrite a bs).calls = b.calls ∧ (b.ledWrite a bs).queues = b.queues ∧ (b.ledWrite a
    bs).baselines = b.baselines ∧ (b.ledWrite a bs).winBuf = b.winBuf ∧ (b.ledWrite a bs).pathM = b.pathM ∧
    (b.ledWrite a bs).pathI = b.pathI ∧ (b.ledWrite a bs).hostOut = b.hostOut ∧ (b.ledWrite a bs).latches =
    b.latches ∧ (b.ledWrite a bs).evlog = b.evlog ∧ (b.ledWrite a bs).orderEvents = b.orderEvents ∧ (b.ledWrite a
    bs).vioLog = b.vioLog ∧ (b.ledWrite a bs).sessions = b.sessions ∧ (b.ledWrite a bs).sramBad = b.sramBad ∧
    (b.ledWrite a bs).sfuSlots = b.sfuSlots ∧ (b.ledWrite a bs).sfuLoads = b.sfuLoads ∧ (b.ledWrite a bs).measures =
    b.measures ∧ (b.ledWrite a bs).dram = b.dram ∧ (b.ledWrite a bs).dramGen = b.dramGen ∧ (b.ledWrite a bs).fills =
    b.fills ∧ (b.ledWrite a bs).pillars = b.pillars ∧ (b.ledWrite a bs).spareMap = b.spareMap ∧ (b.ledWrite a
    bs).ops = b.ops ∧ (b.ledWrite a bs).opSeq = b.opSeq ∧ (b.ledWrite a bs).bnkFault = b.bnkFault ∧ (b.ledWrite a
    bs).blus = b.blus ∧ (b.ledWrite a bs).spareMarks = b.spareMarks ∧ (b.ledWrite a bs).jobKeys = b.jobKeys ∧
    (b.ledWrite a bs).txCtr = b.txCtr ∧ (b.ledWrite a bs).rxCtr = b.rxCtr ∧ (b.ledWrite a bs).peerOut = b.peerOut ∧
    (b.ledWrite a bs).reqId = b.reqId ∧ (b.ledWrite a bs).attach = b.attach ∧ (b.ledWrite a bs).nextSid = b.nextSid
    ∧ (b.ledWrite a bs).spdmOut = b.spdmOut ∧ (b.ledWrite a bs).ideKeys = b.ideKeys ∧ (b.ledWrite a bs).bifurcated =
    b.bifurcated ∧ (b.ledWrite a bs).dawnWidth = b.dawnWidth ∧ (b.ledWrite a bs).bundles = b.bundles ∧ (b.ledWrite a
    bs).bundleJobs = b.bundleJobs ∧ (b.ledWrite a bs).zeroising = b.zeroising ∧ (b.ledWrite a bs).norOrders =
    b.norOrders ∧ (b.ledWrite a bs).norArm = b.norArm ∧ (b.ledWrite a bs).fwRun = b.fwRun ∧ (b.ledWrite a
    bs).fwCopies = b.fwCopies ∧ (b.ledWrite a bs).fwStarted = b.fwStarted ∧ (b.ledWrite a bs).fwJob = b.fwJob ∧
    (b.ledWrite a bs).fwNext = b.fwNext ∧ (b.ledWrite a bs).seqs = b.seqs ∧ (b.ledWrite a bs).beat = b.beat ∧
    (b.ledWrite a bs).shelfOut = b.shelfOut ∧ (b.ledWrite a bs).i3cAddr = b.i3cAddr ∧ (b.ledWrite a bs).straps =
    b.straps ∧ (b.ledWrite a bs).domQueue = b.domQueue ∧ (b.ledWrite a bs).seals = b.seals ∧ (b.ledWrite a
    bs).sealing = b.sealing ∧ (b.ledWrite a bs).twilight = b.twilight ∧ (b.ledWrite a bs).found = b.found ∧
    (b.ledWrite a bs).intact = b.intact ∧ (b.ledWrite a bs).replayed = b.replayed ∧ (b.ledWrite a bs).reissued =
    b.reissued ∧ (b.ledWrite a bs).heldBack = b.heldBack ∧ (b.ledWrite a bs).dawnAt = b.dawnAt ∧ (b.ledWrite a
    bs).stringsTested = b.stringsTested ∧ (b.ledWrite a bs).failedParts = b.failedParts ∧ (b.ledWrite a
    bs).stringEnergy = b.stringEnergy ∧ (b.ledWrite a bs).mrstHeld = b.mrstHeld ∧ (b.ledWrite a bs).supplyOk =
    b.supplyOk ∧ (b.ledWrite a bs).alarms = b.alarms ∧ (b.ledWrite a bs).sources = b.sources ∧ (b.ledWrite a
    bs).aonLost = b.aonLost ∧ (b.ledWrite a bs).cell = b.cell ∧ (b.ledWrite a bs).orderAt = b.orderAt ∧ (b.ledWrite
    a bs).testedDies = b.testedDies ∧ (b.ledWrite a bs).clrPend = b.clrPend ∧ (b.ledWrite a bs).life = b.life := by
  repeat' apply And.intro
  all_goals rfl

@[simp] theorem Block.spWrite_fields (b : Block) (c a : Nat) (bs : List Byte) :
    (b.spWrite c a bs).cycle = b.cycle ∧ (b.spWrite c a bs).timeBase = b.timeBase ∧ (b.spWrite c a bs).rtcBase =
    b.rtcBase ∧ (b.spWrite c a bs).rtcAt = b.rtcAt ∧ (b.spWrite c a bs).free = b.free ∧ (b.spWrite c a bs).stamp =
    b.stamp ∧ (b.spWrite c a bs).regs = b.regs ∧ (b.spWrite c a bs).ledger = b.ledger ∧ (b.spWrite c a bs).loopMem =
    b.loopMem ∧ (b.spWrite c a bs).planMem = b.planMem ∧ (b.spWrite c a bs).stackMem = b.stackMem ∧ (b.spWrite c a
    bs).descs = b.descs ∧ (b.spWrite c a bs).lines = b.lines ∧ (b.spWrite c a bs).rings = b.rings ∧ (b.spWrite c a
    bs).items = b.items ∧ (b.spWrite c a bs).calls = b.calls ∧ (b.spWrite c a bs).queues = b.queues ∧ (b.spWrite c a
    bs).baselines = b.baselines ∧ (b.spWrite c a bs).winBuf = b.winBuf ∧ (b.spWrite c a bs).pathM = b.pathM ∧
    (b.spWrite c a bs).pathI = b.pathI ∧ (b.spWrite c a bs).hostOut = b.hostOut ∧ (b.spWrite c a bs).latches =
    b.latches ∧ (b.spWrite c a bs).evlog = b.evlog ∧ (b.spWrite c a bs).orderEvents = b.orderEvents ∧ (b.spWrite c a
    bs).vioLog = b.vioLog ∧ (b.spWrite c a bs).sessions = b.sessions ∧ (b.spWrite c a bs).sramBad = b.sramBad ∧
    (b.spWrite c a bs).sfuSlots = b.sfuSlots ∧ (b.spWrite c a bs).sfuLoads = b.sfuLoads ∧ (b.spWrite c a
    bs).measures = b.measures ∧ (b.spWrite c a bs).dram = b.dram ∧ (b.spWrite c a bs).dramGen = b.dramGen ∧
    (b.spWrite c a bs).fills = b.fills ∧ (b.spWrite c a bs).pillars = b.pillars ∧ (b.spWrite c a bs).spareMap =
    b.spareMap ∧ (b.spWrite c a bs).ops = b.ops ∧ (b.spWrite c a bs).opSeq = b.opSeq ∧ (b.spWrite c a bs).bnkFault =
    b.bnkFault ∧ (b.spWrite c a bs).blus = b.blus ∧ (b.spWrite c a bs).spareMarks = b.spareMarks ∧ (b.spWrite c a
    bs).jobKeys = b.jobKeys ∧ (b.spWrite c a bs).txCtr = b.txCtr ∧ (b.spWrite c a bs).rxCtr = b.rxCtr ∧ (b.spWrite c
    a bs).peerOut = b.peerOut ∧ (b.spWrite c a bs).reqId = b.reqId ∧ (b.spWrite c a bs).attach = b.attach ∧
    (b.spWrite c a bs).nextSid = b.nextSid ∧ (b.spWrite c a bs).spdmOut = b.spdmOut ∧ (b.spWrite c a bs).ideKeys =
    b.ideKeys ∧ (b.spWrite c a bs).bifurcated = b.bifurcated ∧ (b.spWrite c a bs).dawnWidth = b.dawnWidth ∧
    (b.spWrite c a bs).bundles = b.bundles ∧ (b.spWrite c a bs).bundleJobs = b.bundleJobs ∧ (b.spWrite c a
    bs).zeroising = b.zeroising ∧ (b.spWrite c a bs).norOrders = b.norOrders ∧ (b.spWrite c a bs).norArm = b.norArm
    ∧ (b.spWrite c a bs).fwRun = b.fwRun ∧ (b.spWrite c a bs).fwCopies = b.fwCopies ∧ (b.spWrite c a bs).fwStarted =
    b.fwStarted ∧ (b.spWrite c a bs).fwJob = b.fwJob ∧ (b.spWrite c a bs).fwNext = b.fwNext ∧ (b.spWrite c a
    bs).seqs = b.seqs ∧ (b.spWrite c a bs).beat = b.beat ∧ (b.spWrite c a bs).shelfOut = b.shelfOut ∧ (b.spWrite c a
    bs).i3cAddr = b.i3cAddr ∧ (b.spWrite c a bs).straps = b.straps ∧ (b.spWrite c a bs).domQueue = b.domQueue ∧
    (b.spWrite c a bs).seals = b.seals ∧ (b.spWrite c a bs).sealing = b.sealing ∧ (b.spWrite c a bs).twilight =
    b.twilight ∧ (b.spWrite c a bs).found = b.found ∧ (b.spWrite c a bs).intact = b.intact ∧ (b.spWrite c a
    bs).replayed = b.replayed ∧ (b.spWrite c a bs).reissued = b.reissued ∧ (b.spWrite c a bs).heldBack = b.heldBack
    ∧ (b.spWrite c a bs).dawnAt = b.dawnAt ∧ (b.spWrite c a bs).stringsTested = b.stringsTested ∧ (b.spWrite c a
    bs).failedParts = b.failedParts ∧ (b.spWrite c a bs).stringEnergy = b.stringEnergy ∧ (b.spWrite c a bs).mrstHeld
    = b.mrstHeld ∧ (b.spWrite c a bs).supplyOk = b.supplyOk ∧ (b.spWrite c a bs).alarms = b.alarms ∧ (b.spWrite c a
    bs).sources = b.sources ∧ (b.spWrite c a bs).aonLost = b.aonLost ∧ (b.spWrite c a bs).cell = b.cell ∧ (b.spWrite
    c a bs).orderAt = b.orderAt ∧ (b.spWrite c a bs).testedDies = b.testedDies ∧ (b.spWrite c a bs).clrPend =
    b.clrPend ∧ (b.spWrite c a bs).life = b.life := by
  repeat' apply And.intro
  all_goals rfl

@[simp] theorem Block.setSfuSlot_fields (b : Block) (c n : Nat) (x : SfuSlot) :
    (b.setSfuSlot c n x).cycle = b.cycle ∧ (b.setSfuSlot c n x).timeBase = b.timeBase ∧ (b.setSfuSlot c n x).rtcBase
    = b.rtcBase ∧ (b.setSfuSlot c n x).rtcAt = b.rtcAt ∧ (b.setSfuSlot c n x).free = b.free ∧ (b.setSfuSlot c n
    x).stamp = b.stamp ∧ (b.setSfuSlot c n x).regs = b.regs ∧ (b.setSfuSlot c n x).scratch = b.scratch ∧
    (b.setSfuSlot c n x).ledger = b.ledger ∧ (b.setSfuSlot c n x).loopMem = b.loopMem ∧ (b.setSfuSlot c n x).planMem
    = b.planMem ∧ (b.setSfuSlot c n x).stackMem = b.stackMem ∧ (b.setSfuSlot c n x).descs = b.descs ∧ (b.setSfuSlot
    c n x).lines = b.lines ∧ (b.setSfuSlot c n x).rings = b.rings ∧ (b.setSfuSlot c n x).items = b.items ∧
    (b.setSfuSlot c n x).calls = b.calls ∧ (b.setSfuSlot c n x).queues = b.queues ∧ (b.setSfuSlot c n x).baselines =
    b.baselines ∧ (b.setSfuSlot c n x).winBuf = b.winBuf ∧ (b.setSfuSlot c n x).pathM = b.pathM ∧ (b.setSfuSlot c n
    x).pathI = b.pathI ∧ (b.setSfuSlot c n x).hostOut = b.hostOut ∧ (b.setSfuSlot c n x).latches = b.latches ∧
    (b.setSfuSlot c n x).evlog = b.evlog ∧ (b.setSfuSlot c n x).orderEvents = b.orderEvents ∧ (b.setSfuSlot c n
    x).vioLog = b.vioLog ∧ (b.setSfuSlot c n x).sessions = b.sessions ∧ (b.setSfuSlot c n x).sramBad = b.sramBad ∧
    (b.setSfuSlot c n x).sfuLoads = b.sfuLoads ∧ (b.setSfuSlot c n x).measures = b.measures ∧ (b.setSfuSlot c n
    x).dram = b.dram ∧ (b.setSfuSlot c n x).dramGen = b.dramGen ∧ (b.setSfuSlot c n x).fills = b.fills ∧
    (b.setSfuSlot c n x).pillars = b.pillars ∧ (b.setSfuSlot c n x).spareMap = b.spareMap ∧ (b.setSfuSlot c n x).ops
    = b.ops ∧ (b.setSfuSlot c n x).opSeq = b.opSeq ∧ (b.setSfuSlot c n x).bnkFault = b.bnkFault ∧ (b.setSfuSlot c n
    x).blus = b.blus ∧ (b.setSfuSlot c n x).spareMarks = b.spareMarks ∧ (b.setSfuSlot c n x).jobKeys = b.jobKeys ∧
    (b.setSfuSlot c n x).txCtr = b.txCtr ∧ (b.setSfuSlot c n x).rxCtr = b.rxCtr ∧ (b.setSfuSlot c n x).peerOut =
    b.peerOut ∧ (b.setSfuSlot c n x).reqId = b.reqId ∧ (b.setSfuSlot c n x).attach = b.attach ∧ (b.setSfuSlot c n
    x).nextSid = b.nextSid ∧ (b.setSfuSlot c n x).spdmOut = b.spdmOut ∧ (b.setSfuSlot c n x).ideKeys = b.ideKeys ∧
    (b.setSfuSlot c n x).bifurcated = b.bifurcated ∧ (b.setSfuSlot c n x).dawnWidth = b.dawnWidth ∧ (b.setSfuSlot c
    n x).bundles = b.bundles ∧ (b.setSfuSlot c n x).bundleJobs = b.bundleJobs ∧ (b.setSfuSlot c n x).zeroising =
    b.zeroising ∧ (b.setSfuSlot c n x).norOrders = b.norOrders ∧ (b.setSfuSlot c n x).norArm = b.norArm ∧
    (b.setSfuSlot c n x).fwRun = b.fwRun ∧ (b.setSfuSlot c n x).fwCopies = b.fwCopies ∧ (b.setSfuSlot c n
    x).fwStarted = b.fwStarted ∧ (b.setSfuSlot c n x).fwJob = b.fwJob ∧ (b.setSfuSlot c n x).fwNext = b.fwNext ∧
    (b.setSfuSlot c n x).seqs = b.seqs ∧ (b.setSfuSlot c n x).beat = b.beat ∧ (b.setSfuSlot c n x).shelfOut =
    b.shelfOut ∧ (b.setSfuSlot c n x).i3cAddr = b.i3cAddr ∧ (b.setSfuSlot c n x).straps = b.straps ∧ (b.setSfuSlot c
    n x).domQueue = b.domQueue ∧ (b.setSfuSlot c n x).seals = b.seals ∧ (b.setSfuSlot c n x).sealing = b.sealing ∧
    (b.setSfuSlot c n x).twilight = b.twilight ∧ (b.setSfuSlot c n x).found = b.found ∧ (b.setSfuSlot c n x).intact
    = b.intact ∧ (b.setSfuSlot c n x).replayed = b.replayed ∧ (b.setSfuSlot c n x).reissued = b.reissued ∧
    (b.setSfuSlot c n x).heldBack = b.heldBack ∧ (b.setSfuSlot c n x).dawnAt = b.dawnAt ∧ (b.setSfuSlot c n
    x).stringsTested = b.stringsTested ∧ (b.setSfuSlot c n x).failedParts = b.failedParts ∧ (b.setSfuSlot c n
    x).stringEnergy = b.stringEnergy ∧ (b.setSfuSlot c n x).mrstHeld = b.mrstHeld ∧ (b.setSfuSlot c n x).supplyOk =
    b.supplyOk ∧ (b.setSfuSlot c n x).alarms = b.alarms ∧ (b.setSfuSlot c n x).sources = b.sources ∧ (b.setSfuSlot c
    n x).aonLost = b.aonLost ∧ (b.setSfuSlot c n x).cell = b.cell ∧ (b.setSfuSlot c n x).orderAt = b.orderAt ∧
    (b.setSfuSlot c n x).testedDies = b.testedDies ∧ (b.setSfuSlot c n x).clrPend = b.clrPend ∧ (b.setSfuSlot c n
    x).life = b.life := by
  repeat' apply And.intro
  all_goals rfl

@[simp] theorem Block.setBundle_fields (b : Block) (k i : Nat) (x : Option Bundle) :
    (b.setBundle k i x).cycle = b.cycle ∧ (b.setBundle k i x).timeBase = b.timeBase ∧ (b.setBundle k i x).rtcBase =
    b.rtcBase ∧ (b.setBundle k i x).rtcAt = b.rtcAt ∧ (b.setBundle k i x).free = b.free ∧ (b.setBundle k i x).stamp
    = b.stamp ∧ (b.setBundle k i x).scratch = b.scratch ∧ (b.setBundle k i x).ledger = b.ledger ∧ (b.setBundle k i
    x).loopMem = b.loopMem ∧ (b.setBundle k i x).planMem = b.planMem ∧ (b.setBundle k i x).stackMem = b.stackMem ∧
    (b.setBundle k i x).descs = b.descs ∧ (b.setBundle k i x).lines = b.lines ∧ (b.setBundle k i x).rings = b.rings
    ∧ (b.setBundle k i x).items = b.items ∧ (b.setBundle k i x).calls = b.calls ∧ (b.setBundle k i x).queues =
    b.queues ∧ (b.setBundle k i x).baselines = b.baselines ∧ (b.setBundle k i x).winBuf = b.winBuf ∧ (b.setBundle k
    i x).pathM = b.pathM ∧ (b.setBundle k i x).pathI = b.pathI ∧ (b.setBundle k i x).hostOut = b.hostOut ∧
    (b.setBundle k i x).latches = b.latches ∧ (b.setBundle k i x).evlog = b.evlog ∧ (b.setBundle k i x).orderEvents
    = b.orderEvents ∧ (b.setBundle k i x).vioLog = b.vioLog ∧ (b.setBundle k i x).sessions = b.sessions ∧
    (b.setBundle k i x).sramBad = b.sramBad ∧ (b.setBundle k i x).sfuSlots = b.sfuSlots ∧ (b.setBundle k i
    x).sfuLoads = b.sfuLoads ∧ (b.setBundle k i x).measures = b.measures ∧ (b.setBundle k i x).dram = b.dram ∧
    (b.setBundle k i x).dramGen = b.dramGen ∧ (b.setBundle k i x).fills = b.fills ∧ (b.setBundle k i x).pillars =
    b.pillars ∧ (b.setBundle k i x).spareMap = b.spareMap ∧ (b.setBundle k i x).ops = b.ops ∧ (b.setBundle k i
    x).opSeq = b.opSeq ∧ (b.setBundle k i x).bnkFault = b.bnkFault ∧ (b.setBundle k i x).blus = b.blus ∧
    (b.setBundle k i x).spareMarks = b.spareMarks ∧ (b.setBundle k i x).jobKeys = b.jobKeys ∧ (b.setBundle k i
    x).txCtr = b.txCtr ∧ (b.setBundle k i x).rxCtr = b.rxCtr ∧ (b.setBundle k i x).peerOut = b.peerOut ∧
    (b.setBundle k i x).reqId = b.reqId ∧ (b.setBundle k i x).attach = b.attach ∧ (b.setBundle k i x).nextSid =
    b.nextSid ∧ (b.setBundle k i x).spdmOut = b.spdmOut ∧ (b.setBundle k i x).ideKeys = b.ideKeys ∧ (b.setBundle k i
    x).bifurcated = b.bifurcated ∧ (b.setBundle k i x).dawnWidth = b.dawnWidth ∧ (b.setBundle k i x).bundleJobs =
    b.bundleJobs ∧ (b.setBundle k i x).zeroising = b.zeroising ∧ (b.setBundle k i x).norOrders = b.norOrders ∧
    (b.setBundle k i x).norArm = b.norArm ∧ (b.setBundle k i x).fwRun = b.fwRun ∧ (b.setBundle k i x).fwCopies =
    b.fwCopies ∧ (b.setBundle k i x).fwStarted = b.fwStarted ∧ (b.setBundle k i x).fwJob = b.fwJob ∧ (b.setBundle k
    i x).fwNext = b.fwNext ∧ (b.setBundle k i x).seqs = b.seqs ∧ (b.setBundle k i x).beat = b.beat ∧ (b.setBundle k
    i x).shelfOut = b.shelfOut ∧ (b.setBundle k i x).i3cAddr = b.i3cAddr ∧ (b.setBundle k i x).straps = b.straps ∧
    (b.setBundle k i x).domQueue = b.domQueue ∧ (b.setBundle k i x).seals = b.seals ∧ (b.setBundle k i x).sealing =
    b.sealing ∧ (b.setBundle k i x).twilight = b.twilight ∧ (b.setBundle k i x).found = b.found ∧ (b.setBundle k i
    x).intact = b.intact ∧ (b.setBundle k i x).replayed = b.replayed ∧ (b.setBundle k i x).reissued = b.reissued ∧
    (b.setBundle k i x).heldBack = b.heldBack ∧ (b.setBundle k i x).dawnAt = b.dawnAt ∧ (b.setBundle k i
    x).stringsTested = b.stringsTested ∧ (b.setBundle k i x).failedParts = b.failedParts ∧ (b.setBundle k i
    x).stringEnergy = b.stringEnergy ∧ (b.setBundle k i x).mrstHeld = b.mrstHeld ∧ (b.setBundle k i x).supplyOk =
    b.supplyOk ∧ (b.setBundle k i x).alarms = b.alarms ∧ (b.setBundle k i x).sources = b.sources ∧ (b.setBundle k i
    x).aonLost = b.aonLost ∧ (b.setBundle k i x).cell = b.cell ∧ (b.setBundle k i x).orderAt = b.orderAt ∧
    (b.setBundle k i x).testedDies = b.testedDies ∧ (b.setBundle k i x).clrPend = b.clrPend ∧ (b.setBundle k i
    x).life = b.life := by
  repeat' apply And.intro
  all_goals rfl

@[simp] theorem Block.spdm_fields (b : Block) (m : SpdmMsg) :
    (b.spdm m).cycle = b.cycle ∧ (b.spdm m).timeBase = b.timeBase ∧ (b.spdm m).rtcBase = b.rtcBase ∧ (b.spdm
    m).rtcAt = b.rtcAt ∧ (b.spdm m).free = b.free ∧ (b.spdm m).stamp = b.stamp ∧ (b.spdm m).regs = b.regs ∧ (b.spdm
    m).scratch = b.scratch ∧ (b.spdm m).ledger = b.ledger ∧ (b.spdm m).loopMem = b.loopMem ∧ (b.spdm m).planMem =
    b.planMem ∧ (b.spdm m).stackMem = b.stackMem ∧ (b.spdm m).descs = b.descs ∧ (b.spdm m).lines = b.lines ∧ (b.spdm
    m).rings = b.rings ∧ (b.spdm m).items = b.items ∧ (b.spdm m).calls = b.calls ∧ (b.spdm m).queues = b.queues ∧
    (b.spdm m).baselines = b.baselines ∧ (b.spdm m).winBuf = b.winBuf ∧ (b.spdm m).pathM = b.pathM ∧ (b.spdm
    m).pathI = b.pathI ∧ (b.spdm m).hostOut = b.hostOut ∧ (b.spdm m).latches = b.latches ∧ (b.spdm m).evlog =
    b.evlog ∧ (b.spdm m).orderEvents = b.orderEvents ∧ (b.spdm m).vioLog = b.vioLog ∧ (b.spdm m).sessions =
    b.sessions ∧ (b.spdm m).sramBad = b.sramBad ∧ (b.spdm m).sfuSlots = b.sfuSlots ∧ (b.spdm m).sfuLoads =
    b.sfuLoads ∧ (b.spdm m).measures = b.measures ∧ (b.spdm m).dram = b.dram ∧ (b.spdm m).dramGen = b.dramGen ∧
    (b.spdm m).fills = b.fills ∧ (b.spdm m).pillars = b.pillars ∧ (b.spdm m).spareMap = b.spareMap ∧ (b.spdm m).ops
    = b.ops ∧ (b.spdm m).opSeq = b.opSeq ∧ (b.spdm m).bnkFault = b.bnkFault ∧ (b.spdm m).blus = b.blus ∧ (b.spdm
    m).spareMarks = b.spareMarks ∧ (b.spdm m).jobKeys = b.jobKeys ∧ (b.spdm m).txCtr = b.txCtr ∧ (b.spdm m).rxCtr =
    b.rxCtr ∧ (b.spdm m).peerOut = b.peerOut ∧ (b.spdm m).reqId = b.reqId ∧ (b.spdm m).attach = b.attach ∧ (b.spdm
    m).nextSid = b.nextSid ∧ (b.spdm m).ideKeys = b.ideKeys ∧ (b.spdm m).bifurcated = b.bifurcated ∧ (b.spdm
    m).dawnWidth = b.dawnWidth ∧ (b.spdm m).bundles = b.bundles ∧ (b.spdm m).bundleJobs = b.bundleJobs ∧ (b.spdm
    m).zeroising = b.zeroising ∧ (b.spdm m).norOrders = b.norOrders ∧ (b.spdm m).norArm = b.norArm ∧ (b.spdm
    m).fwRun = b.fwRun ∧ (b.spdm m).fwCopies = b.fwCopies ∧ (b.spdm m).fwStarted = b.fwStarted ∧ (b.spdm m).fwJob =
    b.fwJob ∧ (b.spdm m).fwNext = b.fwNext ∧ (b.spdm m).seqs = b.seqs ∧ (b.spdm m).beat = b.beat ∧ (b.spdm
    m).shelfOut = b.shelfOut ∧ (b.spdm m).i3cAddr = b.i3cAddr ∧ (b.spdm m).straps = b.straps ∧ (b.spdm m).domQueue =
    b.domQueue ∧ (b.spdm m).seals = b.seals ∧ (b.spdm m).sealing = b.sealing ∧ (b.spdm m).twilight = b.twilight ∧
    (b.spdm m).found = b.found ∧ (b.spdm m).intact = b.intact ∧ (b.spdm m).replayed = b.replayed ∧ (b.spdm
    m).reissued = b.reissued ∧ (b.spdm m).heldBack = b.heldBack ∧ (b.spdm m).dawnAt = b.dawnAt ∧ (b.spdm
    m).stringsTested = b.stringsTested ∧ (b.spdm m).failedParts = b.failedParts ∧ (b.spdm m).stringEnergy =
    b.stringEnergy ∧ (b.spdm m).mrstHeld = b.mrstHeld ∧ (b.spdm m).supplyOk = b.supplyOk ∧ (b.spdm m).alarms =
    b.alarms ∧ (b.spdm m).sources = b.sources ∧ (b.spdm m).aonLost = b.aonLost ∧ (b.spdm m).cell = b.cell ∧ (b.spdm
    m).orderAt = b.orderAt ∧ (b.spdm m).testedDies = b.testedDies ∧ (b.spdm m).clrPend = b.clrPend ∧ (b.spdm m).life
    = b.life := by
  repeat' apply And.intro
  all_goals rfl

end Sys2Proof.Machine
end

