-- ==== Sys2Proof/Laws/Write.lean ====
section
/-!
SUPPORT. What the guard of register writes does.
-/
namespace Sys2Proof.Machine

/-- A write that nothing stands against is its register's own rule, or refused by it. -/
theorem guarded_ok {b : Block} {r : Requester} {a : Nat} (v : Nat) (act : Block → Option Block) (h : Accepts b r a) :
    b.guarded r a v act = (act (b.dropHeld r)).getD ((b.dropHeld r).writeReject a v) := by
  obtain ⟨h1, h2, h3, h4, h5⟩ := h
  have hd : (b.dropHeld r).life = b.life := by
    unfold Block.dropHeld
    extract_lets l
    split
    · rfl
    · unfold Block.writeReject Block.logEvent
      extract_lets n old lost t e t1 t2
      have : t.life = b.life := by
        show (if lost = true then _ else _ : Block).life = _
        split <;> rfl
      split <;> exact this
  have h6 : ((b.dropHeld r).life == Life.dawn && r != .mc) = false := by
    rw [hd]
    cases hl : b.life <;> simp
    exact h2 hl
  have h7 : (regInfo a).isNone = false := by cases hr : regInfo a <;> simp_all
  unfold Block.guarded Block.guardedBy
  simp only [h1, h3, h5, h6, h7]
  cases act (b.dropHeld r) <;> rfl

/-! ### What a logged event, a rejected write and a violation may change -/

/-- A logged event changes registers, the event log and what the standing orders have to consider, and nothing else. -/
theorem Block.logEvent_frame (b : Block) (cls unit body : Nat) : ∃ regs evlog orderEvents,
    b.logEvent cls unit body = { b with regs := regs, evlog := evlog, orderEvents := orderEvents } := by
  unfold Block.logEvent
  extract_lets n old lost t e t1 t2
  have ht : ∃ regs, t = { b with regs := regs } := by
    show ∃ regs, (if lost = true then b.bump32 (rEl 8) 1 else b) = _
    split <;> exact ⟨_, rfl⟩
  have h2 : ∃ regs evlog, t2 = { t with regs := regs, evlog := evlog } := ⟨_, _, rfl⟩
  clear_value t2
  clear t1
  clear_value t
  obtain ⟨_, rfl⟩ := ht
  obtain ⟨_, _, rfl⟩ := h2
  split <;> exact ⟨_, _, _, rfl⟩

/-- So does a rejected write (R7). -/
theorem Block.writeReject_frame (b : Block) (a v : Nat) : ∃ regs evlog orderEvents,
    b.writeReject a v = { b with regs := regs, evlog := evlog, orderEvents := orderEvents } := b.logEvent_frame ..

/-- An event with open bytes draws a free value besides. -/
theorem Block.logOpen_frame (b : Block) (cls unit : Nat) : ∃ regs evlog orderEvents,
    b.logOpen cls unit = { b with free := b.free + 1, regs := regs, evlog := evlog, orderEvents := orderEvents } :=
  Block.logEvent_frame ..

/-- Dropping a requester's held half changes its latch besides (R517). -/
theorem Block.dropHeld_frame (b : Block) (r : Requester) : ∃ regs evlog orderEvents latches,
    b.dropHeld r = { b with regs := regs, evlog := evlog, orderEvents := orderEvents, latches := latches } := by
  unfold Block.dropHeld
  extract_lets l
  split
  · exact ⟨_, _, _, _, rfl⟩
  · generalize b.latches.set noLatch (reqKey r) { l with heldAt := none, held := 0 } = x
    obtain ⟨_, _, _, h⟩ := Block.writeReject_frame { b with latches := x } ‹_› l.held.toNat
    exact ⟨_, _, _, _, h⟩

/-- Without a held half nothing is dropped. -/
theorem Block.dropHeld_none (b : Block) (r : Requester) (h : (b.latches.get noLatch (reqKey r)).heldAt = none) :
    b.dropHeld r = b := by
  simp [Block.dropHeld, h]

theorem Block.vioLog_frame {b z : Block} (x : Tab (Option Nat))
    (h : ∃ regs evlog orderEvents, z = { b with regs := regs, evlog := evlog, orderEvents := orderEvents }) :
    ∃ regs evlog orderEvents vioLog, ({ z with vioLog := x } : Block) =
      { b with regs := regs, evlog := evlog, orderEvents := orderEvents, vioLog := vioLog } := by
  obtain ⟨_, _, _, rfl⟩ := h
  exact ⟨_, _, _, _, rfl⟩

/-- A violation changes registers, the event log and the times of R351, and nothing else. -/
theorem Block.violation_frame (b : Block) (p code aperture off : Nat) : ∃ regs evlog orderEvents vioLog,
    b.violation p code aperture off =
      { b with regs := regs, evlog := evlog, orderEvents := orderEvents, vioLog := vioLog } := by
  unfold Block.violation
  extract_lets last t due
  clear_value last
  have ht : ∃ regs, t = { b with regs := regs } := ⟨_, rfl⟩
  clear_value due t
  obtain ⟨regs, rfl⟩ := ht
  split
  · obtain ⟨_, _, _, h⟩ := Block.logEvent_frame { b with regs := regs } 0x31 (unitPort p) last
    exact Block.vioLog_frame _ ⟨_, _, _, h⟩
  · exact ⟨_, _, _, _, rfl⟩

end Sys2Proof.Machine
end

