-- ==== Sys2Proof/Tests/Slice0.lean ====
section
/-!
SUPPORT. The model's own tests: one ill-formed command for each check of WellFormed, witnesses of the statements'
hypotheses, and small tests whose expected results come from the spec.
-/
namespace Sys2Proof.Tests
open Sys2Proof Sys2Proof.Machine

-- One theorem after another: many kernel evaluations at once would hold a thread each.
set_option Elab.async false

/-! ### Each check of WellFormed refuses -/

/-- A word whose CMD is 0, which is no row's. -/
def noCmd : BitVec 64 := 0#64
def noBus : BusWord := ⟨.normal, noCmd⟩

theorem test_word_rows_refuse : [Instr.arm 0 noCmd, .armx 0 noCmd, .feed 0 noCmd [], .run 0 noCmd [] 0, .park 0 noCmd,
    .resume 0 noCmd 0, .drain 0 noCmd, .abort 0 noCmd, .stest 0 noCmd false, .act 0 noBus, .pre 0 noBus, .rd 0 noBus,
    .wr 0 noBus 0 0, .refb 0 noCmd, .select 0 noCmd, .pde 0 noCmd, .pdx 0 noCmd, .idrd 0 noCmd, .tmrd 0 noCmd 0,
    .rsync 0 noCmd].all (fun i => !(WellFormed i)) = true := by decide

theorem test_lengths_refuse : [Instr.feed 0 0x11#64 [], .run 0 0x4000012#64 [] 0, .dieTempPoll 0 [], .hubSensorRead [],
    .dawnDelay []].all (fun i => !(WellFormed i)) = true := by decide

theorem test_codes_refuse : [Instr.dawnTest [(0, 5#4)] 0 0 true, .fwUpdateDone 0, .fwUpdateDone 5,
    .vinLowChange true 40000, .vinLowChange false 39999].all (fun i => !(WellFormed i)) = true := by decide

theorem test_ill_formed_stops : exec (.act 0 noBus) {} = .fault (.illFormed "pillar word") := by rfl

/-! ### Helpers -/

/-- A block with registers set. -/
def withRegs (l : List (Nat × Nat)) (b : Block) : Block := l.foldl (fun b x => b.setRn x.1 x.2) b

/-- A module in service: every domain on, both links up in a CXL mode, partition 0 BOUND with every core and pillar,
port 0, 16 MB of Ledger and ATTACHED on it, core 0 RUNNING, and ring 0 open with 256 places. -/
def up : Block := withRegs [(rEv 0x110, 0xFFFFFFFF), (rEv 0x114, 0xFFFFFFFF), (rEv 0x118, 0x7FFFF), (rHi 0, 3),
  (rHi 0x10, 3), (rHi 0x400, 0x20000), (rHi 0x500, 1), (rPart 0 0, 0x1FFFFFF), (rPart 0 8, 1), (rC 0 4, 0),
  (rRing 0 0, 0x8001)] { life := .service, i3cAddr := some 9#7 }

/-- What `Accepts` asks, as a test. -/
def acceptsNow (b : Block) (r : Requester) (a : Nat) : Bool :=
  b.reqPresent r && (b.life != .dawn || r == .mc) && b.reqMay r a true && (regInfo a).isSome &&
    !((b.dropHeld r).blockOff a)

theorem accepts_of {b : Block} {r : Requester} {a : Nat} (h : acceptsNow b r a = true) : Accepts b r a := by
  simp only [acceptsNow, Bool.and_eq_true, Bool.or_eq_true, bne_iff_ne, ne_eq, beq_iff_eq, Bool.not_eq_true'] at h
  obtain ⟨⟨⟨⟨h1, h2⟩, h3⟩, h4⟩, h5⟩ := h
  exact ⟨h1, fun h => h2.resolve_left (fun g => g h), h3, h4, h5⟩

/-! ### Witnesses: the queue and register writes -/

theorem wit_queue : QueueOk ⟨[.beatEdge 0], up⟩ ∧ WellFormed (.act 0 noBus) = false := by
  refine ⟨?_, by decide⟩
  intro i h
  simp only [List.mem_singleton] at h
  subst h
  decide

theorem wit_memory : MemoryOk up ∧ ∃ t, step ⟨[.beatEdge 0], up⟩ = .next t := by
  refine ⟨?_, _, rfl⟩
  constructor <;> try decide
  intro x h
  have h1 : up.seals = [] ∧ up.sealing = none ∧ up.found = none := by decide
  simp [h1.1, h1.2.1, h1.2.2] at h

/-- `up` in Dawn, and with half a register held for the MC. -/
def dawning : Block := { up with life := .dawn }
def halfHeld : Block := { up with latches := [(18, { heldAt := some (rAl 0x10), held := 5#32 })] }

theorem wit_refused_writes :
    (writeOf dawning (.hsigWrite (.port .ha) 1#32) = some (.port .ha, rSy 0x10000, 1) ∧ dawning.life = .dawn ∧
      (Requester.port .ha) ≠ .mc ∧ dawning.reqPresent (.port .ha) = true) ∧
    (writeOf up (.coreStop (.port .hb) 0) = some (.port .hb, rC 0 0, 1) ∧ rC 0 0 ≠ rSb 0x410 ∧
      up.reqPresent (.port .hb) = true ∧ up.reqMay (.port .hb) (rC 0 0) true = false) ∧
    (writeOf up (.coreStop (.seq 3) 5) = some (.seq 3, rC 5 0, 1) ∧ up.reqMay (.seq 15) (rHi 0x148) true = false) ∧
    (writeOf {} (.coreStop .mc 0) = some (.mc, rC 0 0, 1) ∧ ({} : Block).reqMay .mc (rC 0 0) true = true ∧
      (({} : Block).dropHeld .mc).blockOff (rC 0 0) = true) ∧
    namedWrite (.coreStop .mc 7) = some (.mc, rC 7 0, 1) := by decide

theorem wit_access_codes :
    (plainRegister (rC 7 4) ∧ (regInfo (rC 7 4)).isSome = true ∧ Accepts up .mc (rC 7 4)) ∧
    (plainRegister (rAl 0) ∧ (regInfo (rAl 0)).isSome = true ∧ Accepts up .mc (rAl 0)) ∧
    (wideAt (rMc 0x30) = true ∧ Accepts up .mc (rMc 0x30) ∧ rMc 0x30 ≠ rSb 0x410) ∧
    (wideAt (rAl 0x10) = true ∧ (halfHeld.latches.get noLatch (reqKey .mc)).heldAt = some (rAl 0x10)) := by
  refine ⟨⟨.inl ⟨7, .inl rfl⟩, ?_⟩, ⟨.inr rfl, ?_⟩, ?_, ?_⟩ <;> repeat' apply And.intro
  all_goals first | decide +kernel | (refine accepts_of ?_; decide)

/-! ### Witnesses: cores and loop memory -/

/-- Core 0 HELD with an accepted item in its ring. -/
def someItem (id : Nat) : Item :=
  ⟨id, 0, 0#32, 0, .bundle, .accepted, [0#512], 0#32, false, 0, 0, false, 0#6, 0#6, false, false, 0#8, 0#32, none, false⟩
def held0 : Block := { withRegs [(rC 0 4, 2)] up with items := [someItem 0] }

theorem wit_core_control : (Accepts held0 .mc (rC 0 0) ∧ (held0.dropHeld .mc).fld (rC 0 4) 1 0 = 2 ∧
      held0.items ≠ []) ∧
    (Accepts up .mc (rC 7 0) ∧ (up.dropHeld .mc).fld (rC 7 4) 1 0 = 3) := by
  repeat' apply And.intro
  all_goals first | decide +kernel | (refine accepts_of ?_; decide)

/-- Half B of core 0 open. -/
def openB : Block := withRegs [(rC 0 0x84, 0x10)] up

theorem wit_loop_memory :
    Accepts up .mc (rC 0 0x80) ∧ (b2n false = up.lmActive 0 ∧ up.swapWaits 0 = false) ∧
    (b2n true ≠ up.lmActive 0 ∧ up.lmOpen 0 0 = false) ∧ Accepts up .mc (rC 0 0x8C) ∧
    (up.lmOpen 0 0 = false ∧ up.lmOpen 0 1 = false) ∧ Accepts openB .mc (rC 0 0x8C) ∧ openB.openHalf? 0 = some 1 ∧
    Accepts openB .mc (rC 0 0x80) ∧ (openB.dropHeld .mc).openHalf? 0 = some 1 ∧
    bodyLineOk (openB.lmLine 0 1 0) = true ∧
    bodyLineOk (({ openB with loopMem := [(lmKey 0 1 64, 1#8)] } : Block).lmLine 0 1 1) = false ∧
    bodyLineOk (({ openB with loopMem := [(lmKey 0 1 64, 1#8)] } : Block).lmLine 0 1 0) = true := by
  repeat' apply And.intro
  all_goals first | decide +kernel | (refine accepts_of ?_; decide)

/-! ### Witnesses: rings and items -/

/-- A line of 60 given bytes and its LCHK, with one bundle slot 0 present (an S_ADD of zero fields), its item one or two
lines long. -/
def slotLine (twoLines : Bool) (op : Nat) : Line :=
  putLine ([0#8, 0#8, 0#8, 0#8, if twoLines then 0x14#8 else 0x10#8, 0#8, 0#8, 0#8, BitVec.ofNat 8 op] ++
    List.replicate 51 0#8)

/-- Ring 0 with a line at its next position. -/
def lineAt0 (l : Line) : Block := { up with lines := [(0, some ⟨l, 0⟩)], stamp := 1 }

theorem wit_host_writes :
    (up.hasHdm Port.ha.num = true ∧ ({ up with life := .twilight } : Block).hasHdm 0 = true ∧ up.life = .service ∧
      up.mayWriteRing 0 0 = true ∧ up.lineAt 0 (0x7FFC0 / 64) = none ∧ 0x7FFC0 % 64 = 0 ∧ 0x7FFC0 < 0x80000) ∧
    up.mayWriteRing 1 0 = false ∧ (lineAt0 0#512).lineAt 0 0 ≠ none ∧
    (up.winReach 0 0xFFFFFF 1 = true ∧ up.winReach 0 0xFFFFFF 2 = false ∧ up.winReach 1 0 1 = false) ∧
    ((withRegs [(rWb 0 0x20, 0x2FF)] up).winReach 0 0xFFFFFF 1 = false ∧ up.life ≠ .dawn) ∧
    (up.dlUp 1 = true ∧ up.vioOf 1 ⟨.bar2, true, 0, 4, 0⟩ = some 5 ∧
      hostParts ⟨.bar2, true, 0, 4, 0⟩ = [⟨.bar2, true, 0, 4, 0⟩]) ∧
    (wideAt 0x60100 = false ∧ (hostParts ⟨.bar0, true, 0x60100, 8, 0⟩).length = 2) := by
  repeat' apply And.intro
  all_goals decide +kernel

/-- Ring 0 with line 0 of a two-line item in assembly. -/
def assembling : Block := { up with
  lines := [(0, some ⟨slotLine true 0, 0⟩)], rings := [(0, { asm := some ⟨7#32, 1, 0, [slotLine true 0]⟩ })] }

/-- What the statement on taking a line asks. -/
abbrev mayTake (l : Line) (b : Block) : Prop := b.life = .service ∧ b.ringOpen 0 = true ∧ b.ringWriter 0 < 16 ∧
  b.sramBad = [] ∧ b.posTaken 0 (b.wpos 0 % 8192) = false ∧ b.lineAt 0 (b.wpos 0 % 8192) = some ⟨l, 0⟩ ∧
  lchkOk l = true ∧ (b.ring 0).stale = none ∧ malformed l (0 == 8) = false ∧ b.lineFits 0 l = true ∧
  b.lineHeld 0 l = false

theorem wit_lines :
    mayTake (slotLine false 0) (lineAt0 (slotLine false 0)) ∧ mayTake (slotLine true 0) (lineAt0 (slotLine true 0)) ∧
    (hdr (slotLine false 0) 33 32 = hdr (slotLine false 0) 35 34 ∧
      hdr (slotLine true 0) 33 32 ≠ hdr (slotLine true 0) 35 34) ∧
    ((lineAt0 1#512).posTaken 0 0 = false ∧ (lineAt0 1#512).wpos 0 = 0 ∧ lchkOk 1#512 = false ∧
      ((lineAt0 1#512).ring 0).asm = none) ∧
    (Accepts up .mc (rRg 8 0xC) ∧ ((up.dropHeld .mc).ring 8).asm = none) ∧
    (Accepts assembling .mc (rRg 0 0xC) ∧ ((assembling.dropHeld .mc).ring 0).asm = some ⟨7#32, 1, 0, [slotLine true 0]⟩) := by
  repeat' apply And.intro
  all_goals first | decide +kernel | (refine accepts_of ?_; decide)

/-- An item of ring r for core 0 with one line, and a block with one item. -/
def itemOf (r : RingId) (kind : ItemKind) (l : Line) : Item :=
  { someItem 4 with ring := r, kind := kind, lines := [l] }
def withItem (i : Item) : Block := { withRegs [(rRing 8 0, 0x8001)] up with items := [i] }

/-- What the statement on bundles asks of an item and a lane. -/
abbrev stands (l : Nat) (i : Item) (b : Block) : Prop := b.dispatching 0 = true ∧ i.kind = .bundle ∧ i.core = 0 ∧
  i.freed = false ∧ i.faulted = false ∧ i.phase = .accepted ∧ b.item? i.id = some i ∧ b.swapHeld 0 i = false ∧
  ((l = 1 ∧ b.urgentNext 0 = some i) ∨ (l = 0 ∧ b.urgentNext 0 = none ∧ b.fld (rC 0 4) 1 0 = 0 ∧ b.call? 0 = none ∧
    b.hasPlace 0 = true ∧ nextItem 0 0 b.items = some i))

/-- What the statement on the other kinds asks. -/
abbrev standsAlone (i : Item) (b : Block) : Prop := b.dispatching 0 = true ∧ i.core = 0 ∧ i.swaps = false ∧
  i.outstanding = 0 ∧ i.placing = false ∧ b.item? i.id = some i ∧ b.urgentNext 0 = none ∧ b.fld (rC 0 4) 1 0 = 0 ∧
  b.call? 0 = none ∧ b.hasPlace 0 = true ∧ nextItem 0 0 b.items = some i

/-- Core 0 with the active half A valid and a loop call of two lines, twice, over it. -/
def looping : Block := { withRegs [(rC 0 0x84, 2)] (withItem { itemOf 0 .loopCall 0#512 with phase := .dispatched }) with
  calls := [(0, some ⟨4, 0, 2, 2, 0, 0, false⟩)],
  loopMem := writeBytes [] 0 (leBytes (slotLine false 0).toNat 64) }

theorem wit_dispatch :
    (let i := itemOf 0 .bundle (slotLine false 0)
     stands 0 i (withItem i) ∧ itemCheck i.lines (hdr i.line0 41 36) 6 = none ∧
       (withItem i).hasRoom 0 (slotQueues i.lines (hdr i.line0 41 36)) = true) ∧
    (let i := itemOf 8 .bundle (slotLine false 0)
     stands 1 i (withItem i) ∧ itemCheck i.lines (hdr i.line0 41 36) 6 = none) ∧
    (let i := itemOf 0 .bundle (slotLine false 0)
     let b := withRegs [(rC 0 0x20, 0)] (withItem i)
     stands 0 i b ∧ b.hasRoom 0 (slotQueues i.lines (hdr i.line0 41 36)) = false) ∧
    (let i := itemOf 0 .bundle (slotLine false 0x7F)
     stands 0 i (withItem i) ∧ (itemCheck i.lines (hdr i.line0 41 36) 6).isSome = true ∧ i.outstanding = 0 ∧
       i.placing = false) ∧
    standsAlone (itemOf 0 .marker 0#512) (withItem (itemOf 0 .marker 0#512)) ∧
    standsAlone (itemOf 0 .fence 0#512) (withItem (itemOf 0 .fence 0#512)) ∧ itemLevelBit 0#512 0 = none ∧
    (let i := itemOf 0 .loopCall 0#512
     let b := withRegs [(rC 0 0x84, 2)] (withItem i)
     standsAlone i b ∧ b.callCheck 0 i = none) ∧
    (looping.dispatching 0 = true ∧ looping.fld (rC 0 4) 1 0 = 0 ∧ looping.urgentNext 0 = none ∧
      looping.call? 0 = some ⟨4, 0, 2, 2, 0, 0, false⟩ ∧ (looping.item? 4).isSome = true ∧ looping.sramBad = [] ∧
      looping.fetchFault 0 0 = none ∧ itemCheck [slotLine false 0] (hdr (slotLine false 0) 41 36) 6 = none ∧
      looping.lmLine 0 (looping.lmActive 0) 0 = slotLine false 0 ∧
      looping.hasRoom 0 (slotQueues [slotLine false 0] 1) = true) := by
  repeat' apply And.intro
  all_goals decide +kernel

/-- A FENCE item held by ring 0, alone or behind an item that has not completed. -/
def fencing (before : List Item) : Block := { up with
  items := before ++ [{ itemOf 0 .fence 0#512 with id := 9, phase := .dispatched, stamp := 3 }]
  rings := [(0, { fence := some 9, credited := 5 })] }

theorem wit_item_ends :
    (∀ l ∈ [[], [someItem 4]], ((fencing l).ring 0).fence = some 9 ∧ ((fencing l).item? 9).isSome = true ∧
      (fencing l).serving = true ∧ (fencing l).fenceDone { itemOf 0 .fence 0#512 with id := 9, phase := .dispatched, stamp := 3 }
        = decide (l = [])) ∧
    (let b := withItem (someItem 4)
     b.ringOpen 0 = true ∧ b.ringItems 0 = [someItem 4] ∧ (someItem 4).phase ≠ .complete) ∧
    (let i : Item := { someItem 4 with phase := .complete }
     let b := withRegs [(rRing 0 0x14, 257), (rRing 0 0x18, 2)] (withItem i)
     b.life = .service ∧ b.ringOpen 0 = true ∧ b.ringItems 0 = [i] ∧
       sub32 (b.rn (rRing 0 0x14)) (b.rn (rRing 0 0x18)) < b.csize 0 ∧ b.ringPath 0 ≠ 2) ∧
    (let b := withRegs [(rRing 0 0, 0x8801)] (fencing [])
     b.life = .service ∧ b.ringOpen 0 = true ∧ b.fld (rRing 0 0) 11 11 = 1 ∧ b.attUp (b.ringPart 0) = true ∧
       b.rn (rRg 0 0) ≠ (b.ring 0).credited) := by decide +kernel

/-- Ring 1 ready to open: 256 places in the second block of the completion region. -/
def toOpen : Block := withRegs [(rRing 1 0, 0x8000), (rRing 1 0x10, 1)] up

theorem wit_rings :
    (Accepts up .mc (rRing 0 4) ∧ (up.dropHeld .mc).openReason 0 ≠ 0) ∧
    (Accepts toOpen .mc (rRing 1 4) ∧ (toOpen.dropHeld .mc).openReason 1 = 0) ∧
    (Accepts toOpen .mc (rRing 8 4) ∧ (toOpen.dropHeld .mc).ringOpen 8 = false) ∧
    (up.ringOpen 0 = true ∧ (∀ k, up.lineAt 0 k = none) ∧ up.ringItems 0 = [] ∧ (up.ring 0).asm = none ∧
      up.rn (rRing 0 0x14) = up.rn (rRing 0 0x18)) ∧
    Accepts up .mc (rRing 0 0x18) ∧ Accepts up .mc (rRing 0 0x28) ∧
    (sub32 3 0 ≤ sub32 ((withRegs [(rRing 0 0x14, 3)] up).rn (rRing 0 0x14)) 0 ∧
      ¬(sub32 4 0 ≤ sub32 ((withRegs [(rRing 0 0x14, 3)] up).rn (rRing 0 0x14)) 0)) ∧
    (let b : Block := { withRegs [(rRing 0 0x2C, 4)] up with items := [{ someItem 4 with slotK := some 1#32 }] }
     (∃ it ∈ b.items, it.ring = 0 ∧ ∃ k : Word, it.slotK = some k ∧ sub32 k.toNat 0 < sub32 2 0) ∧
     ¬(∃ it ∈ b.items, it.ring = 0 ∧ ∃ k : Word, it.slotK = some k ∧ sub32 k.toNat 0 < sub32 1 0) ∧
     ¬(sub32 (b.rn (rRing 0 0x2C)) 0 < sub32 4 0) ∧ sub32 (b.rn (rRing 0 0x2C)) 0 < sub32 5 0) := by
  refine ⟨?_, ?_, ?_, ⟨?_, fun _ => rfl, ?_⟩, ?_, ?_, ?_, ⟨⟨_, List.mem_singleton_self _, rfl, 1#32, rfl, by decide⟩, ?_, ?_⟩⟩
  rotate_right 2
  · rintro ⟨it, h, -, k, hk, hlt⟩
    simp only [List.mem_singleton] at h
    subst h
    cases hk
    revert hlt
    decide
  all_goals (repeat' apply And.intro)
  all_goals first | decide +kernel | (refine accepts_of ?_; decide)

/-! ### Witnesses: the engines -/

/-- An entry of the four words, and a block with entries in a queue of core 0. -/
def entryOf (w0 w1 w2 w3 : Nat) : Entry :=
  { item := 4, ring := 0, seq := 0#32, slot := 0, body := false, iter := 0#32, bodyLine := 0
    w0 := BitVec.ofNat 64 w0, w1 := BitVec.ofNat 64 w1, w2 := BitVec.ofNat 64 w2, w3 := BitVec.ofNat 64 w3 }
def queued (e l : Nat) (q : List Entry) : Block := { up with queues := [(qKey 0 e l, q)] }

/-- What `AtIssue` asks, as one proposition that can be decided. -/
abbrev issueNow (b : Block) (c e l op maxOut : Nat) (extra : Entry → List CtrUse) (i : Nat) (en : Entry) : Prop :=
  b.canIssue c l = true ∧ b.inFlight c e l < maxOut ∧ (l = 0 → b.urgentFirst c e maxOut = false) ∧
  headPos (b.queue (qKey c e l)) = some i ∧
  (b.queue (qKey c e l))[i]? = some en ∧ en.opcode = op ∧ en.wait = none ∧
  (en.checked = true ∨ b.ctrCheck c (en.commonUses ++ extra en) = none) ∧
  (en.waite = true → en.got1 = false → 1 ≤ b.ctrValue en.waitc) ∧ b.sramBad = []

theorem atIssue_of {b : Block} {c e l op m : Nat} {x : Entry → List CtrUse} {i : Nat} {en : Entry}
    (h : issueNow b c e l op m x i en) : AtIssue b c e l op m x i en := by
  obtain ⟨h1, h2, h3, h4, h5, h6, h7, h8, h9, h10⟩ := h
  exact ⟨h1, h2, h3, h4, h5, h6, h7, h8, h9, fun x hx => by rw [h10] at hx; cases hx⟩

theorem wit_scalar_rows : ((Instr.sAdd, 0x00, fun a b => a + b) ∈ scalarRegisterRows) ∧
    AtIssue (queued 0 0 [entryOf 0 0 0 0]) 0 0 0 0x00 1 noUses 0 (entryOf 0 0 0 0) ∧
    (Instr.sAddi, 0x10, fun a b => a + b) ∈ scalarImmediateRows ∧
    AtIssue (queued 0 1 [entryOf 0x10 5 0 0]) 0 0 1 0x10 1 noUses 0 (entryOf 0x10 5 0 0) :=
  ⟨.head _, atIssue_of (by decide +kernel), .head _, atIssue_of (by decide +kernel)⟩

/-- S_LD or S_ST of 8 bytes at a, and S_DESC of entry h from a. -/
def access (op a : Nat) : Entry := entryOf (op + 3 <<< 46) a 0 0
def describe (h a : Nat) : Entry := entryOf (0x30 + h <<< 36) a 0 0

/-- An INT8 vector of one element, and a 1 × 1 matrix, in the scratchpad of core 0. -/
def vecAt (a : Nat) : Nat := 5 + a <<< 128
def matAt (a : Nat) : Nat := 0x405 + a <<< 128 + 32 <<< 180
def withDesc (e l : Nat) (q : List Entry) (ds : List (Nat × Nat)) : Block :=
  { queued e l q with descs := ds.map (fun x => (x.1, some (BitVec.ofNat 256 x.2))) }

theorem wit_scalar_access :
    AtIssue (queued 0 0 [access 0x20 0x27FFFF8]) 0 0 0 0x20 1 noUses 0 (access 0x20 0x27FFFF8) ∧
    AtIssue (queued 0 0 [access 0x20 0x27FFFF9]) 0 0 0 0x20 1 noUses 0 (access 0x20 0x27FFFF9) ∧
    AtIssue (queued 0 0 [access 0x21 0x27FFFF8]) 0 0 0 0x21 1 noUses 0 (access 0x21 0x27FFFF8) ∧
    AtIssue (queued 0 0 [access 0x21 0x2800000]) 0 0 0 0x21 1 noUses 0 (access 0x21 0x2800000) ∧
    (0x27FFFF8 % 8 = 0 ∧ 0x27FFFF8 + 8 ≤ 0x2800000 ∧ 0x27FFFF9 % 8 ≠ 0 ∧ ¬(0x2800000 + 8 ≤ 0x2800000)) ∧
    (queued 0 0 []).sramBad = [] :=
  ⟨atIssue_of (by decide +kernel), atIssue_of (by decide +kernel), atIssue_of (by decide +kernel),
    atIssue_of (by decide +kernel), by decide, rfl⟩

theorem wit_descriptors :
    AtIssue (queued 0 0 [describe 1 0x27FFFE0]) 0 0 0 0x30 1 noUses 0 (describe 1 0x27FFFE0) ∧
    up.descReason 0 1 (vecAt 0) = 0 ∧
    ofBytes (({ up with scratch := writeBytes [] 0x27FFFE0 (leBytes (vecAt 0) 32) } : Block).spRead 0 0x27FFFE0 32) = vecAt 0 ∧
    (up.descReason 0 0 (vecAt 0) ≠ 0 ∧ 0x27FFFE0 % 32 = 0) ∧
    AtIssue (queued 0 0 [describe 1 0x2800000]) 0 0 0 0x30 1 noUses 0 (describe 1 0x2800000) ∧
    AtIssue (queued 0 0 [entryOf (0x31 + 511 <<< 36) 0 0 0]) 0 0 0 0x31 1 noUses 0 (entryOf (0x31 + 511 <<< 36) 0 0 0) ∧
    AtIssue (queued 0 0 [entryOf 0x31 0 0 0]) 0 0 0 0x31 1 noUses 0 (entryOf 0x31 0 0 0) := by
  refine ⟨atIssue_of ?_, ?_, ?_, ?_, atIssue_of ?_, atIssue_of ?_, atIssue_of ?_⟩ <;> decide +kernel

/-- LD_LIN or ST_LIN of two rows of 32 bytes, 64 apart, between the Ledger at a and the scratchpad. -/
def linear (a : Nat) : Entry := entryOf (0x03 + 2 <<< 36 + 1 <<< 38) a (0 + 31 <<< 26) (64 + 64 <<< 25)

theorem wit_transfers :
    (Instr.ldLin, false, 0x03, fun s c en => s.linPlan c false en) ∈ transferRows ∧
    (∀ a ∈ [0xFFFFA0, 0xFFFFA1], issueNow (queued 4 0 [linear a]) 0 4 0 0x03 16 noUses 0 (linear a)) ∧
    ((up.linPlan 0 false (linear 0xFFFFA0)).toOption.isSome = true ∧
      (up.linPlan 0 false (linear 0xFFFFA1)).toOption.isSome = false) ∧
    (∀ l store, up.xferReady 0 0 l store ⟨⟨.int8, .int8, false, true⟩, [], [], [], 0, false⟩) ∧
    ((linear 0xFFFFA0).f0 37 36 = 2 ∧ (linear 0xFFFFA0).f0 53 38 + 1 = 2 ∧ (linear 0xFFFFA0).f2 43 26 + 1 = 32 ∧
      (linear 0xFFFFA0).f3 24 0 = 64 ∧ (linear 0xFFFFA0).f3 49 25 = 64 ∧ up.coreOwner 0 = some 0 ∧
      up.inLedAlloc 0 0xFFFFA0 96 = true ∧ up.sramBad = []) ∧
    issueNow (queued 5 0 [linear 0]) 0 5 0 0x03 16 noUses 0 (linear 0) := by
  refine ⟨by repeat (first | exact .head _ | apply List.Mem.tail), ?_, ?_, ?_, ?_, ?_⟩
  · decide +kernel
  · decide +kernel
  · intro l store
    exact ⟨fun h => (by cases h), fun _ h => (by cases h)⟩
  · decide +kernel
  · decide +kernel

/-- An issued load that waits for request 7. -/
def asking : Entry := { entryOf 3 0 0 0 with stage := .issued, hreads := [⟨0, 64, 4, [⟨0, false, false, 0, false⟩], some 7, none, 0⟩] }

/-- A job key of partition 0 in use with member 2, and the peer path up or down. -/
def jobRegs (path : Nat) : List (Nat × Nat) :=
  [(rHi 0, 7), (rHi 0x700, path), (rJob 0 0, 4), (rJob 0 4, 2), (rHi 0x718, 0x1000), (rJob 0 0x20, 4)]

/-- An issued store of a distributed tensor that has written blocks of member 2 alone, and signals counter 5. -/
def spreading : Entry := { entryOf (1 <<< 8 + 5 <<< 9) 0 0 0 with
  stage := .issued, members := [2], descs := [0#256, BitVec.ofNat 256 (0x45)] }

theorem wit_transfer_ends :
    (((queued 4 0 [asking]).queue (qKey 0 4 0)).findIdx? (Entry.asks 7) = some 0 ∧
      ((queued 4 0 [asking]).queue (qKey 0 4 0)).findIdx? (Entry.asks 8) = none ∧
      ((queued 4 0 [asking]).queue (qKey 0 4 0))[0]? = some asking ∧ asking.hwrites = [] ∧ asking.psends = [] ∧
      asking.left = 0 ∧ asking.late = none ∧ asking.seed = none ∧ ((queued 4 0 [asking]).coreOwner 0).isSome = true) ∧
    (let en : Entry := { asking with hreads := [] }
     let b := queued 4 0 [en, asking]
     b.issued? (qKey 0 4 0) = some (0, en) ∧ en.landed = true ∧ en.late = none ∧ en.left = 0 ∧ en.members = [] ∧
       en.sige = false ∧ (b.coreOwner 0).isSome = true) ∧
    (let en : Entry := { spreading with members := [], ownBlock := true }
     (queued 5 0 [en]).issued? (qKey 0 5 0) = some (0, en) ∧ en.landed = true ∧ en.shared = true) ∧
    (let b := withRegs (jobRegs 1) (queued 5 0 [spreading])
     b.issued? (qKey 0 5 0) = some (0, spreading) ∧ spreading.landed = true ∧ spreading.late = none ∧
       spreading.left = 0 ∧ spreading.members = [2] ∧ spreading.sige = true ∧ spreading.shared = true ∧
       spreading.ownBlock = false ∧ b.coreOwner 0 = some 0 ∧ b.canSend 0 2 = true) ∧
    (let en : Entry := { asking with hreads := [⟨1, 64, 4, [], none, none, 0⟩] }
     let b := queued 4 0 [en]
     b.issued? (qKey 0 4 0) = some (0, en) ∧ en.seed = none ∧ b.overdue 0 en = false ∧
       (withRegs [(rHi 0x10, 0)] b).issued? (qKey 0 4 0) = some (0, en) ∧
       (withRegs [(rHi 0x10, 0)] b).overdue 0 en = true ∧ en.nextAddr = some 64) := by decide +kernel

/-- V_SHUF from entry 1 to entry 2, and M_MM of entries 1 and 2 into 3. -/
def shuffle : Entry := entryOf (0x03 + 1 <<< 36 + 2 <<< 54) 0 0 0
def multiply : Entry := entryOf (0x00 + 1 <<< 36 + 2 <<< 45 + 3 <<< 54) 0 0 0

theorem wit_vector :
    (let b := withDesc 1 0 [shuffle] [(1, vecAt 0), (2, vecAt 64)]
     issueNow b 0 1 0 0x03 64 noUses 0 shuffle ∧ b.sramBad = [] ∧ (b.shufCheck 0 0 shuffle).toOption = some (vecAt 0, vecAt 64)) ∧
    (let b := withDesc 1 0 [shuffle] [(1, vecAt 0)]
     issueNow b 0 1 0 0x03 64 noUses 0 shuffle ∧ (b.shufCheck 0 0 shuffle).toOption = none) ∧
    (1 ≤ 1 ∧ 1 < 2 ^ 1 ∧ 3 ≤ 3) := by decide +kernel

theorem wit_matrix :
    (let b := withDesc 2 0 [multiply] [(1, matAt 0), (2, matAt 64), (3, matAt 128)]
     issueNow b 0 2 0 0x00 1 noUses 0 multiply ∧ b.domOn 8 = true ∧ b.sramBad = [] ∧
       (b.mmCheck 0 0 multiply).toOption.isSome = true) ∧
    (let b := { withDesc 2 0 [multiply] [] with regs := (withRegs [(rEv 0x110, 0xFFFFFEFF)] up).regs }
     issueNow b 0 2 0 0x00 1 noUses 0 multiply ∧ b.domOn 8 = false) ∧
    (let en : Entry := { multiply with
       stage := .issued, descs := [BitVec.ofNat 256 (matAt 0), BitVec.ofNat 256 (matAt 64), BitVec.ofNat 256 (matAt 128)] }
     let b := queued 2 0 [en]
     b.issued? (qKey 0 2 0) = some (0, en) ∧ en.next < ceilDiv en.matMul.n 128 ∧ b.fld (rEv 0xB8) 0 0 = 0 ∧
       b.issued? (qKey 0 2 1) = none ∧ (queued 2 1 [en]).issued? (qKey 0 2 1) = some (0, en)) ∧
    (let en : Entry := { multiply with
       stage := .issued, next := 1
       descs := [BitVec.ofNat 256 (matAt 0), BitVec.ofNat 256 (matAt 64), BitVec.ofNat 256 (matAt 128)] }
     (queued 2 0 [en]).issued? (qKey 0 2 0) = some (0, en) ∧ ceilDiv en.matMul.n 128 ≤ en.next) ∧
    (let en : Entry := { shuffle with stage := .issued }
     (queued 1 0 [en]).issued? (qKey 0 1 0) = some (0, en) ∧ en.sige = false) := by decide +kernel

/-! ### Witnesses: waits, counters and bank operations -/

/-- An S_ADD that waits for one of counter n. -/
def waiting (n : Nat) : Entry := entryOf (1 <<< 22 + n <<< 23) 0 0 0

theorem wit_heads_wait :
    (⟨.sAdd, 0, 0x00, 1, noExtra⟩ : EntryRow) ∈ entryRows ∧
    (up.canIssue 1 0 = false ∧ up.head? (qKey 0 0 0) = none ∧
      (queued 0 1 [entryOf 0 0 0 0]).urgentFirst 0 0 1 = true) ∧
    (let b := queued 0 0 [waiting 47]
     b.canIssue 0 0 = true ∧ b.fenced 0 0 = false ∧ b.inFlight 0 0 0 < 1 ∧ b.urgentFirst 0 0 1 = false ∧ headPos (b.queue 0) = some 0 ∧ (b.queue 0)[0]? = some (waiting 47) ∧
       (waiting 47).opcode = 0 ∧ (waiting 47).wait = none ∧ (waiting 47).got1 = false ∧ (waiting 47).waite = true ∧
       b.ctrCheck 0 ((waiting 47).commonUses ++ noExtra b 0 (waiting 47)) = none ∧ b.ctrValue 47 = 0) ∧
    (let b := queued 0 0 [waiting 0x1000]
     b.canIssue 0 0 = true ∧ b.inFlight 0 0 0 < 1 ∧ b.urgentFirst 0 0 1 = false ∧ (waiting 0x1000).checked = false ∧ headPos (b.queue 0) = some 0 ∧
       (b.ctrCheck 0 ((waiting 0x1000).commonUses ++ noExtra b 0 (waiting 0x1000))).isSome = true) ∧
    (up.foreignTo 0 47 = false ∧ up.foreignTo 0 0x1000 = true ∧ up.ctrMode 47 = 0 ∧
      (withRegs [(rCtr 47 + 4, 1 + 3 <<< 17)] up).ctrMode 47 ≠ 0 ∧ (withRegs [(rCtr 47 + 4, 2)] up).ctrCap 47 < 2 ∧
      (withRegs [(rCtr 47 + 4, 2)] up).ctrMode 47 = 0) := by
  refine ⟨.head _, ?_⟩
  decide +kernel

/-- A sync entry of the opcode for counter n and amount m, and core 0's SYN lane with it and registers set. -/
def sync (op n m : Nat) : Entry := entryOf (op + n <<< 36 + (m - 1) <<< 49) 0 0 0
def syncing (en : Entry) (l : List (Nat × Nat)) : Block := withRegs l (queued 6 0 [en])

theorem wit_sync :
    (issueNow (syncing (sync 0 5 9) [(rCtr 5, 65526)]) 0 6 0 0x00 1 (fun en => [⟨en.ctr, 3, 0, 0⟩]) 0 (sync 0 5 9) ∧
      let b1 := (syncing (sync 0 5 9) [(rCtr 5, 65526)]).issuing (qKey 0 6 0) 0 (sync 0 5 9)
      b1.foreignTo 0 5 = false ∧ b1.ctrMode 5 = 0 ∧ b1.ctrValue 5 + 9 = b1.ctrCap 5 ∧ b1.nwait 5 = 0 ∧ (sync 0 5 9).sige = false) ∧
    (issueNow (syncing (sync 0 5 9) [(rCtr 5, 65527)]) 0 6 0 0x00 1 (fun en => [⟨en.ctr, 3, 0, 0⟩]) 0 (sync 0 5 9) ∧
      let b1 := (syncing (sync 0 5 9) [(rCtr 5, 65527)]).issuing (qKey 0 6 0) 0 (sync 0 5 9)
      b1.foreignTo 0 5 = false ∧ b1.ctrMode 5 = 0 ∧ b1.ctrCap 5 < b1.ctrValue 5 + 9) ∧
    (∀ v ∈ [8, 9], issueNow (syncing (sync 1 5 9) [(rCtr 5, v)]) 0 6 0 0x01 1 (fun en => [⟨en.ctr, 3, 0, en.amt⟩]) 0 (sync 1 5 9) ∧
      issueNow (syncing (sync 2 5 9) [(rCtr 5, v)]) 0 6 0 0x02 1 (fun en => [⟨en.ctr, 3, 0, en.amt⟩]) 0 (sync 2 5 9)) ∧
    ((sync 1 5 9).got2 = false ∧ (sync 1 5 9).amt = 9 ∧ (sync 1 5 9).ctr = 5 ∧ (sync 1 5 9).sige = false) := by
  repeat' apply And.intro
  all_goals decide +kernel

theorem wit_barrier :
    (∀ v ∈ [0, 1 <<< 16], issueNow (syncing (sync 3 5 1) [(rCtr 5, v), (rCtr 5 + 4, 1 + 2 <<< 17)]) 0 6 0 0x03 1
      (fun en => [⟨en.ctr, 3, 1, 0⟩]) 0 (sync 3 5 1)) ∧
    ((sync 3 5 1).waite = false ∧ (sync 3 5 1).got2 = false ∧ ctrDefined 5 = true) ∧
    (let b := syncing (sync 3 5 1) [(rCtr 5, 0), (rCtr 5 + 4, 1 + 2 <<< 17)]
     b.ctrArrived 5 + 1 < b.ctrParties 5) ∧
    (let b := syncing (sync 3 5 1) [(rCtr 5, 1 <<< 16), (rCtr 5 + 4, 1 + 2 <<< 17)]
     b.ctrArrived 5 + 1 = b.ctrParties 5) := by decide +kernel

theorem wit_remote_signal :
    (∀ path ∈ [0, 1], let b := syncing (sync 4 5 3) (jobRegs path)
      issueNow b 0 6 0 0x04 1 (fun en => b.rsigUses 0 en) 0 (sync 4 5 3) ∧ b.coreOwner 0 = some 0 ∧ b.jobKeyFault 0 = none ∧
        (sync 4 5 3).waite = false ∧ b.canSend 0 (sync 4 5 3).module_ = decide (path = 1)) ∧
    (let w : Wait := ⟨5, 1, false, 0, 1000⟩
     let en : Entry := { waiting 5 with wait := some w }
     headPos ((queued 0 1 [en]).queue (qKey 0 0 1)) = some 0 ∧ ((queued 0 1 [en]).queue (qKey 0 0 1))[0]? = some en) := by
  decide +kernel

theorem wit_counter_writes :
    Accepts up .mc (rSy 0x10000) ∧ Accepts up (.port .ha) (rSy 0x10000) ∧
    (bits 0x48 12 0 = 0x48 ∧ ctrDefined 48 = false ∧ ctrDefined 47 = true) ∧
    (up.foreignReq (.port .ha) 0x1000 = true ∧ ctrDefined 0x1000 = true ∧ up.foreignReq (.port .ha) 47 = false ∧
      up.ctrMode 47 = 0 ∧ up.ctrValue 47 + 65535 ≤ up.ctrCap 47 ∧ up.nwait 47 = 0) ∧
    (Accepts up .mc (rCtr 0) ∧ up.ctrBusy 0 = true) ∧
    (Accepts up .mc (rCtr 64) ∧ up.nwait 64 = 0 ∧ up.ctrMode 64 = 0 ∧ up.ctrCap 64 = 65535 ∧ up.ctrBusy 64 = false) ∧
    (Accepts up .mc (rCtr 64 + 4) ∧ up.ctrArrived 64 = 0 ∧ up.ctrValue 64 ≤ bits 2 16 1 ∧
      bits (1 + 255 <<< 17) 24 17 ≠ 0 ∧ bits (1 + 255 <<< 17) 16 1 = 0) ∧
    Accepts up .mc (rC 7 0xA0C) ∧ Accepts up .mc (rC 7 0xE08) := by
  repeat' apply And.intro
  all_goals first | decide +kernel | (refine accepts_of ?_; decide)

/-- A DRAM tensor of one region in bank 0 of die 0 of pillar 0, and a BR_INIT of its first row. -/
def dramTensor : Nat := 5 + 1 <<< 4 + 1 <<< 128 + 2 <<< 181
def initRow (row : Nat) : Entry := entryOf (0xA1 + 1 <<< 36) (row <<< 26) 0 0

/-- An operation of the tensor. -/
def opOn (lane : Nat) (stage : OpStage) : BankOp :=
  { seq := 0, core := 0, lane := lane, op := 0x80, w := dramTensor, vc := none, x := 0, y := 0, stg := 0, xv := 0, nv := 1
    ns := 1, p0 := 0, pcount := 1, nrow := 1, rows := [], stage := stage }

/-- Core 0's BNK lane with entries and the tensor's descriptor. -/
def banking (l : Nat) (q : List Entry) : Block := { withDesc 3 l q [(1, dramTensor)] with opSeq := 1 }

theorem wit_bank_issue :
    (let b := banking 1 [initRow 0]
     issueNow b 0 3 1 0xA1 65536 noUses 0 (initRow 0) ∧ b.fenced 0 1 = false ∧
       (match b.utilCheck 0 1 (initRow 0) with
        | .ok o => b.unrespBank o = none
        | .error _ => False) ∧ b.ticketsOf 1 < 64 ∧ b.op? 0 = none) ∧
    (let b := { banking 1 [initRow 0] with ops := (List.range 64).map (fun t => (t, some (opOn 1 .running))) }
     issueNow b 0 3 1 0xA1 65536 noUses 0 (initRow 0) ∧ 64 ≤ b.ticketsOf 1 ∧ (b.utilCheck 0 1 (initRow 0)).toOption.isSome = true) ∧
    (let b := { banking 0 [initRow 0] with descs := [] }
     issueNow b 0 3 0 0xA1 65536 noUses 0 (initRow 0) ∧ (b.utilCheck 0 0 (initRow 0)).toOption.isSome = false) := by
  repeat' apply And.intro
  all_goals first | decide +kernel | rfl

/-- A running operation under ticket 0 and its leaf in the drain buffer, with residue `res`. -/
def draining (res : Nat) : Block := { up with
  ops := [(0, some (opOn 0 .running))], blus := [(0, { drain := [BitVec.ofNat 64 (8 + res <<< 32)] })] }

/-- A block with one operation under ticket 0 and entries in the normal BNK lane. -/
def ticketed (o : BankOp) (q : List Entry) : Block := { queued 3 0 q with ops := [(0, some o)] }

theorem wit_bank_end :
    (∀ res ∈ [1, 2], ((draining res).blu 0).drain = [BitVec.ofNat 64 (8 + res <<< 32)] ∧ ((draining res).blu 0).st ≠ 5 ∧
      ((draining res).blu 0).udrain = false ∧ (draining res).op? 0 = some (opOn 0 .running) ∧
      (draining res).physBank 0 = (0, 0, 0)) ∧
    (8 % 7 = 1 ∧ (opOn 0 .running).leafKey 0 0 0 = some 0 ∧ wf (BitVec.ofNat 64 (8 + 1 <<< 32)) 34 32 = 1) ∧
    (let o : BankOp := { opOn 0 .running with leaves := [(0, some 8#32)] }
     o.complete = true ∧ (ticketed o []).op? 0 = some o ∧ (ticketed o []).opSignals o 0 = false ∧
       (ticketed o [{ entryOf (0x80 + 1 <<< 8) 0 0 0 with stage := .issued, ticket := some 0 }]).opSignals o 0 = true) ∧
    ((opOn 0 .running).complete = false ∧ (opOn 0 .reduced).stage ≠ .running ∧
      (∀ res ∈ [1, 2], (draining res).urgentFront 0 = false) ∧ (ticketed (opOn 0 .running) []).laneDone 0 0 = false) ∧
    (issueNow (ticketed (opOn 0 .reduced) [entryOf 0xBF 0 0 0]) 0 3 0 0xBF 65536 noUses 0 (entryOf 0xBF 0 0 0) ∧
      (ticketed (opOn 0 .reduced) [entryOf 0xBF 0 0 0]).fenced 0 0 = false) ∧
    (let b := { ticketed (opOn 0 .faulted) [{ entryOf 0xBF 0 0 0 with stage := .issued }] with bnkFault := [0] }
     (b.queue (qKey 0 3 0)).findIdx? (fun en => en.stage == .issued && en.opcode == 0xBF) = some 0 ∧
       b.laneDone 0 0 = true ∧ b.bnkFault.contains 0 = true) := by decide +kernel

/-! ### Witnesses: pillar words and bank lane units -/

/-- A word with right parity. -/
def good (n : Nat) : DWord := fixParity (BitVec.ofNat 64 n)

/-- Pillar 0 in SERVICE with its dies ACTIVE and selection of dies 0 to 1, banks 0 to 3; bank 0 of die 0 as given. -/
def pillared (u : Blu) : Block := { withRegs ((rP 0 0, 3) :: (rP 0 0xB0, 31) :: (List.range 16).map (fun d => (rDie 0 d, 0))) up with
  pillars := [(0, { sel := ⟨3, 0, 3⟩ })], blus := [(0, u)] }

/-- What `Leaves` asks, as one proposition that can be decided, and what `Sends` asks beside it. -/
abbrev leavesNow (b : Block) (x : WordIn) : Prop := b.pillarOn x.pillar = true ∧ (b.pillar x.pillar).waiting = [] ∧
  b.wordReady x.pillar [] (x.waiting b) = true ∧ b.entryFree x.pillar (x.waiting b) = true ∧
  b.sent x.pillar (x.waiting b) = true
abbrev pairsNow (b : Block) (x : WordIn) : Prop := badWord x.word = false ∧
  (match (b.pillar x.pillar).arm with
   | some a => wCmd x.word == 0x18 && sameTarget a x.word
   | none => wCmd x.word != 0x18) = true

theorem leaves_of {b : Block} {x : WordIn} (h : leavesNow b x) : Leaves b x := by
  obtain ⟨h1, h2, h3, h4, h5⟩ := h
  exact ⟨h1, h2, h3, h4, h5⟩

theorem sends_of {b : Block} {i : Instr} {x : WordIn} (row : wordOf i = some x) (h : leavesNow b x)
    (h2 : pairsNow b x) : Sends b i x := by
  obtain ⟨good, pair⟩ := h2
  refine { leaves_of h with row := row, good := good, paired := fun a ha => ?_, single := fun ha => ?_ }
  · rw [ha] at pair
    simpa using pair
  · rw [ha] at pair
    simpa using pair

/-- Whether a command is a word that is sent as it comes. -/
def sendsNow (b : Block) (i : Instr) : Bool :=
  match wordOf i with
  | some x => decide (leavesNow b x) && decide (badWord x.word = false) && (b.pillar x.pillar).arm == none &&
      wCmd x.word != 0x18
  | none => false

theorem sends_some {b : Block} {i : Instr} (h : sendsNow b i = true) : ∃ x, Sends b i x := by
  revert h
  rw [sendsNow]
  split
  · rename_i x hx
    simp only [Bool.and_eq_true, decide_eq_true_eq, beq_iff_eq, bne_iff_ne, ne_eq]
    rintro ⟨⟨⟨h1, h2⟩, h3⟩, h4⟩
    exact ⟨x, sends_of hx h1 ⟨h2, by rw [h3]; simpa using h4⟩⟩
  · intro h
    cases h

/-- A unit that holds operation `o` with row 5 open, in a state. -/
def bound (o : BluOp) (st : Nat) : Blu := { st := st, lit := true, litBy := some 0, rb0 := some 5, rb1 := some 0, op := some o }

/-- One word of each command but ARMX: to bank 0 of die 0, or to the selected ones; the ordinary ones of port 0. -/
def words : List Instr := [.act 0 ⟨.port 0, good 0x01⟩, .pre 0 ⟨.port 0, good (0x02 + 3 <<< 26)⟩,
  .rd 0 ⟨.port 0, good 0x03⟩, .wr 0 ⟨.port 0, good 0x04⟩ 7 0, .refb 0 (good (0x05 + 0x20)), .select 0 (good (0x06 + 3 <<< 26)),
  .pde 0 (good (0x07 + 16 <<< 26)), .pdx 0 (good (0x08 + 1 <<< 26)), .idrd 0 (good 0x09), .tmrd 0 (good 0x0A) 50,
  .rsync 0 (good 0x0B), .arm 0 (good 0x10), .feed 0 (good 0x11) [0], .run 0 (good 0x12) [] 0,
  .run 0 (good (0x12 + 1 <<< 26)) [7] 0, .park 0 (good 0x13), .resume 0 (good 0x14) 0, .drain 0 (good 0x15),
  .abort 0 (good 0x16), .stest 0 (good (0x17 + 4 <<< 26)) true]

/-- The unit of every bank where one bank's is given. -/
theorem blu_of (l : List (Nat × Nat)) (u : Blu) (q : PillarSt) (x : Nat) (P : Blu → Prop) (hu : P u) (h0 : P {}) :
    P (({ withRegs l up with pillars := [(0, q)], blus := [(0, u)] } : Block).blu x) := by
  unfold Block.blu
  simp only [Tab.get]
  split
  · exact hu
  · exact h0

theorem wit_words : (∀ i ∈ words, ∃ x, Sends (pillared {}) i x) ∧
    (∀ x, ((pillared {}).blu x).acc.all ResWord.ok = true ∧ ((pillared {}).blu x).shadow.all ResWord.ok = true) ∧
    (Takes (pillared {}) 0 (good 0x05) 0 ∧ Takes (pillared {}) 0 (good 0x25) 1 ∧ TakesBank (pillared {}) 0 (good 0x25) 1 3 ∧
      (pillared {}).sendsTo 0 0 = true) ∧
    (∃ x, Sends (withRegs [(rDie 0 0, 32)] (pillared {})) (.act 0 ⟨.normal, good 0x01⟩) x) ∧
    (Wakes (withRegs [(rDie 0 0, 32)] (pillared {})) 0 0 1 ∧ good 0x01 ≠ 0#64) := by
  refine ⟨fun i hi => sends_some ?_, fun x => ?_, ⟨⟨?_, ?_, ?_⟩, ⟨?_, ?_, ?_⟩, ⟨⟨?_, ?_, ?_⟩, ?_⟩, ?_⟩, sends_some ?_,
    ⟨?_, ?_, ?_, ?_⟩, ?_⟩
  · have h : words.all (sendsNow (pillared {})) = true := by decide +kernel
    exact List.all_eq_true.mp h i hi
  · exact blu_of _ {} _ x (fun u => u.acc.all ResWord.ok = true ∧ u.shadow.all ResWord.ok = true) (by decide) (by decide)
  all_goals decide +kernel

/-- Pillar 0 with an ARM of its bank 0 that awaits its ARMX. -/
def armed : Block := { pillared {} with pillars := [(0, { arm := some (good 0x10) })] }

theorem wit_armx : (∃ x, Sends armed (.armx 0 (good 0x18)) x) ∧ (armed.pillar 0).arm = some (good 0x10) :=
  ⟨⟨_, sends_of rfl (by decide +kernel) (by decide +kernel)⟩, by decide +kernel⟩

/-- A word as a command brings it to pillar 0. -/
abbrev brought (w : DWord) : WordIn := { pillar := 0, word := w }

theorem wit_bad_words :
    (wordOf (.act 0 ⟨.normal, 0x1#64⟩) = some (brought 0x1#64) ∧ WellFormed (.act 0 ⟨.normal, 0x1#64⟩) = true) ∧
    (badWord 0x1#64 = true ∧ leavesNow (pillared {}) (brought 0x1#64)) ∧
    (badWord (good (0x01 + 6143 <<< 26)) = false ∧ badWord (good (0x01 + 6144 <<< 26)) = true) ∧
    (wordOf (.armx 0 (good 0x18)) = some (brought (good 0x18)) ∧ WellFormed (.armx 0 (good 0x18)) = true) ∧
    (leavesNow (pillared {}) (brought (good 0x18)) ∧ badWord (good 0x18) = false ∧ wCmd (good 0x18) = 0x18 ∧
      ((pillared {}).pillar 0).arm = none) ∧
    (leavesNow armed (brought (good 0x01)) ∧ ¬(wCmd (good 0x01) = 0x18 ∧ sameTarget (good 0x10) (good 0x01) = true) ∧
      wCmd (good 0x01) ≠ 0x0B ∧ (armed.pillar 0).arm = some (good 0x10)) ∧ up.pillarOn 0 = false ∧
    -- a word that is not ready, one whose entry is taken, and one of no operation's sequence
    (let b := withRegs [(rP 0 0x194, 3)] (pillared {})
     let x := brought (good 0x10)
     b.pillarOn 0 = true ∧ (b.pillar 0).waiting = [] ∧ b.wordReady 0 [] (x.waiting b) = false) ∧
    (let b : Block := { pillared {} with
       pillars := [(0, { ring := [{ tag := 0, word := good 0x01, data := [], check := 0#32, upto := 0, sel := {} }] })] }
     let x := brought (good 0x01)
     (b.pillar 0).waiting = [] ∧ b.wordReady 0 [] (x.waiting b) = true ∧ b.entryFree 0 (x.waiting b) = false) ∧
    (let b : Block := { pillared (bound ⟨0, 5, 5, 1, 0, 1, 0, 0, 0⟩ 4) with ops := [(0, some (opOn 0 .faulted))] }
     let x := brought (good 0x14)
     b.pillarOn 0 = true ∧ (b.pillar 0).waiting = [] ∧ b.wordReady 0 [] (x.waiting b) = true ∧
       b.entryFree 0 (x.waiting b) = true ∧ b.sent 0 (x.waiting b) = false) := by
  refine ⟨⟨rfl, by decide +kernel⟩, by decide +kernel, by decide +kernel, ⟨rfl, by decide +kernel⟩, ?_⟩
  decide +kernel

/-- A word that waits at the controller, and idle cycles with and without one. -/
theorem wit_idle_cycles :
    (let x : Waiting := (brought (good 0x01)).waiting up
     let b : Block := { pillared {} with pillars := [(0, { waiting := [x] })] }
     (b.pillar 0).waiting = [x] ∧ (b.pillar 0).arm = none ∧ b.pillarOn 0 = true ∧ b.wordReady 0 [] x = true ∧
       b.entryFree 0 x = true ∧ (∀ p : PillarId, p ≠ 0 → (b.pillar p).waiting = [])) ∧
    ∀ p : PillarId, (up.pillar p).waiting = [] := by decide +kernel

/-- A dot operation, an accumulate operation and an append, with a RUN of each. -/
def dotOp (form : Nat) : BluOp := ⟨form, 5, 5, 1, 0, 1, 0, 0, 0⟩
def runOf (w col : Nat) : BluRun := ⟨good w, [1#256], 5, 0, col⟩

theorem wit_units :
    ((good 0x11).toNat % 32 = 0x11 ∧ ([0#256] : List Column).length = wf (good 0x11) 41 35 + 1) ∧
    (([] : List Column).length = runData (good 0x12)) ∧
    ((pillared { shadow := zeroAcc, st := 4, ckpt := some (runOf 0x12 3) }).blu 0).shadow.all ResWord.ok = true ∧
    (let u : Blu := { st := 3, op := some (dotOp 0), run := some (runOf 0x12 3), urun := some (runOf 0x12 3) }
     ((pillared u).blu (bankKey 0 0 0)).st = 3 ∧ ((pillared u).blu (bankKey 0 0 0)).run = some (runOf 0x12 3) ∧
       ((pillared u).blu (bankKey 0 0 0)).urun = some (runOf 0x12 3)) := by decide +kernel

theorem wit_row_ends :
    (let b := pillared { st := 3, op := some (dotOp 0), run := some (runOf 0x12 64) }
     b.pillarOn 0 = true ∧ (b.blu (bankKey 0 0 0)).laneRun Lane.normal.num = some (runOf 0x12 64) ∧
       (b.blu (bankKey 0 0 0)).laneOp Lane.normal.num = some (dotOp 0) ∧ (runOf 0x12 64).total ≤ (runOf 0x12 64).col ∧
       (∀ a ∈ (dotOp 0).outputs (good 0x12), (((b.blu (bankKey 0 0 0)).acc[a]?).getD {}).ok = true)) ∧
    (let r := runOf (0x12 + 2 <<< 26) 0
     let b := pillared { bound (dotOp 3) 3 with run := some r }
     (b.blu (bankKey 0 0 0)).laneRun Lane.normal.num = some r ∧ (b.blu (bankKey 0 0 0)).laneOp Lane.normal.num = some (dotOp 3) ∧
       (dotOp 3).form = 3 ∧ wf r.word 27 26 = 2 ∧ (b.blu (bankKey 0 0 0)).mayRun 0 r = true) ∧
    (let u : Blu := { st := 2, op := some (dotOp 2) }
     ∀ i, i < (dotOp 2).sums → ((u.laneLatch 0).get noWord i).ok = true) := by
  refine ⟨?_, ?_, fun i _ => rfl⟩ <;> decide +kernel

/-- Bank 0 of pillar 0 running `o` over row 5, from column `col` on, with columns 0 to 2 of rows 5 and 0 and
column 63 of row 5 stored. -/
def sweeping (o : BluOp) (slip : Bool) (w col : Nat) : Block :=
  let u : Blu := { bound o 3 with run := some (runOf w col), slip := slip }
  { pillared u with dram := [0, 1, 2, 320, 321, 322, 383].map (fun k => (k, some (packCol 7#256 (colCheck 7#256 (k / 64) (k % 64))))) }

/-- What the statement on a sweep asks of such a bank. -/
abbrev sweeps (o : BluOp) (slip : Bool) : Prop :=
  let b := sweeping o slip 0x12 2
  let u := b.bluAt ⟨0, 0, 0⟩
  let r := runOf 0x12 2
  b.pillarOn 0 = true ∧ u.laneRun 0 = some r ∧ u.laneOp 0 = some o ∧ wf r.word 27 26 = 0 ∧ u.mayRun 0 r = true ∧
    colDecode (b.colRaw (colKey 0 0 0 r.row r.col)) r.row r.col = .clean 7#256 ∧ u.slip = slip ∧
    (∀ c < 3, colDecode (b.colRaw (colKey 0 0 0 r.row1 c)) r.row1 c = .clean 7#256) ∧ 3 * (wf r.word 47 35 % 21) = 0

theorem wit_columns :
    (∀ slip, sweeps (dotOp 0) slip ∧ sweeps { dotOp 0 with wfmt := 7 } slip ∧ sweeps (dotOp 1) slip ∧ sweeps (dotOp 2) slip) ∧
    ({ dotOp 0 with wfmt := 7 } : BluOp).weight = .nb4 ∧ (dotOp 0).form = 0 ∧ (dotOp 1).form = 1 ∧ (dotOp 2).form = 2 ∧
    (∀ o slip, let u := (sweeping o slip 0x12 2).bluAt ⟨0, 0, 0⟩
      (∀ j, ((u.laneLatch 0).get noWord j).ok = true) ∧ ∀ a : Nat, ((u.acc[a]?).getD {}).ok = true) := by
  refine ⟨by decide +kernel, by decide, rfl, rfl, rfl, fun o slip => ⟨fun j => rfl, fun a => ?_⟩⟩
  show (((List.replicate 16 ({} : ResWord))[a]?).getD {}).ok = true
  rw [List.getElem?_replicate]
  split <;> rfl

theorem wit_utility :
    let r := runOf (0x12 + 1 <<< 26 + 1 <<< 28) 63
    let b := sweeping (dotOp 3) false (0x12 + 1 <<< 26 + 1 <<< 28) 63
    let u := b.blu (bankKey 0 0 0)
    b.pillarOn 0 = true ∧ u.laneRun 0 = some r ∧ u.laneOp 0 = some (dotOp 3) ∧ (dotOp 3).form = 3 ∧ wf r.word 27 26 = 1 ∧
      u.mayRun 0 r = true ∧ wf r.word 30 28 = 1 ∧
      ∀ i < 64, 63 ≤ i → colDecode (b.colRaw (colKey 0 0 0 5 i)) 5 i = .clean 7#256 := by decide +kernel

/-- An entry of the shadow ring that die 0 has failed n times before. -/
def failedWord (n : Nat) : Shadow :=
  { tag := 0, word := good 0x01, data := [], check := 0#32, upto := 0, sel := {}, failed := [0], fails := [(0, n)] }

theorem wit_replay :
    (∀ n ∈ [0, 3], let b : Block := { withRegs [(rP 0 0x128, 4)] (pillared {}) with
        pillars := [(0, { ring := [failedWord n], discarding := [0] })] }
      b.pillarOn 0 = true ∧ b.sendsTo 0 0 = true ∧ (b.pillar 0).discarding.contains 0 = true ∧
        (b.pillar 0).ring.dropWhile (fun x => !(x.failed.contains 0)) = [failedWord n] ∧
        ((failedWord n).fails.get noFails 0 + 1 < b.fld (rP 0 0x128) 2 0 ↔ n = 0)) ∧
    ((pillared {}).pillarOn 0 = true ∧ (pillared {}).unresp 0 0 = false) := by decide +kernel

theorem wit_refresh :
    ((pillared {}).dieState 0 0 ≠ 5 ∧ (List.replicate 17 85#8).length = 17 ∧ (List.replicate 17 85#8)[0]? = some 85#8 ∧
      (pillared {}).sendsTo 0 0 = true ∧ (pillared {}).sendsTo 0 16 = false) ∧
    ((pillared {}).fld (rP 0 0x70) 0 0 = 0 ∧ ((pillared {}).blu 0).run = none ∧ ((pillared {}).blu 0).urun = none ∧
      (withRegs [(rP 0 0x70, 1)] (pillared {})).fld (rP 0 0x70) 0 0 ≠ 0) ∧
    (let b := withRegs [(rP 0 0xB0, 16)] (pillared {})
     b.pillarOn 0 = true ∧ b.groupIdle 0 4 = true ∧ b.spareAwake 0 = false) := by decide +kernel

/-! ### Witnesses: dies, spares and tables -/

theorem wit_dies :
    (Accepts (withRegs [(rP 0 0, 1)] up) .mc (rP 0 0x180) ∧ ((withRegs [(rP 0 0, 1)] up).dropHeld .mc).fld (rP 0 0) 2 0 = 1 ∧
      (up.dropHeld .mc).fld (rP 0 0) 2 0 ≠ 1 ∧ Accepts up .mc (rP 0 0x180)) ∧
    (let b : Block := { withRegs [(rP 0 0, 1)] up with pillars := [(0, { applying := true })] }
     (b.pillar 0).applying = true ∧ b.fld (rP 0 0) 2 0 = 1) ∧
    (Accepts (pillared {}) .mc (rP 0 0x60) ∧ ((pillared {}).dropHeld .mc).unresp 0 15 = false ∧
      ((withRegs [(rDie 0 15, 8)] (pillared {})).dropHeld .mc).unresp 0 15 = true ∧
      Accepts (withRegs [(rDie 0 15, 8)] (pillared {})) .mc (rP 0 0x60)) := by
  repeat' apply And.intro
  all_goals first | decide +kernel | (refine accepts_of ?_; decide)

/-- Pillar 0's switch in a state, over die 15 in a mode with a share. -/
def switching (st mode share : Nat) : Block :=
  withRegs [(rP 0 0x194, st), (rP 0 0x190, 15 + mode <<< 4 + share <<< 6)] (pillared {})

theorem wit_spares :
    Accepts (switching 0 0 1) .mc (rP 0 0x190) ∧ Accepts (switching 2 1 16) .mc (rP 0 0x190) ∧
    (let b := switching 2 1 16
     b.fld (rP 0 0x190) 5 4 < 2 ∧ 1 ≤ b.fld (rP 0 0x190) 10 6 ∧ b.fld (rP 0 0x190) 10 6 ≤ 16 ∧
       (b.dropHeld .mc).fld (rP 0 0x194) 2 0 = 2) ∧
    (let b := switching 4 0 1
     b.fld (rP 0 0x190) 10 6 = 1 ∧ (b.dropHeld .mc).fld (rP 0 0x194) 2 0 = 4) ∧
    ((switching 1 0 1).pillarOn 0 = true ∧ (switching 1 0 1).fld (rP 0 0x194) 2 0 = 1 ∧
      (switching 1 0 1).fld (rP 0 0x190) 5 4 = 0 ∧ (switching 1 1 1).fld (rP 0 0x190) 5 4 = 1 ∧
      (switching 2 0 1).fld (rP 0 0x194) 2 0 = 2 ∧ (switching 3 0 1).fld (rP 0 0x194) 2 0 = 3) ∧
    ((switching 3 0 1).dieBusy 0 15 = false ∧
      ({ switching 3 0 1 with blus := [(256 * 15, { st := 2 })] } : Block).dieBusy 0 15 = true) := by
  repeat' apply And.intro
  all_goals first | decide +kernel | (refine accepts_of ?_; decide)

theorem wit_clears_and_tables :
    Accepts up .mc (rP 15 0xC18) ∧ Accepts up .mc (rP 15 0x104) ∧ Accepts up .mc (rC 7 0xF00) ∧
    (ctrDefined 48 = false ∧ ctrDefined 0x1FFF = true ∧ (up.dropHeld .mc).sfuLoads.get noLoad 7 = none ∧
      (up.dropHeld .mc).slotBusy 7 63 = false) ∧
    (let b : Block := { up with sfuLoads := [(7, some ⟨63, 0, none⟩)] }
     Accepts b .mc (rC 7 0xF00) ∧ (b.dropHeld .mc).sfuLoads.get noLoad 7 ≠ none ∧
       b.sfuLoads.get noLoad 7 = some ⟨63, 0, none⟩ ∧ (63 : Nat) < 64) := by
  repeat' apply And.intro
  all_goals first | decide +kernel | (refine accepts_of ?_; decide)

/-! ### Witnesses: the host edge and the peer switch -/

/-- Partition 0 in an attachment state on port 0, granted to it, with what the security block keeps. -/
def attaching (st : Nat) (a : Attach) : Block :=
  { withRegs [(rHi 0x500, st), (rPart 0 0, 0x1FFFFFF)] up with attach := [(0, a)] }

theorem wit_attachment :
    (up.portLive Port.ha.num = true ∧ up.hasHdm Port.ha.num = true) ∧
    (Accepts up .mc (rHi 0x500) ∧ (up.dropHeld .mc).attState 0 = 1 ∧ Accepts up .mc (rHi 0x51C) ∧
      (up.dropHeld .mc).attState 7 ≠ 1) ∧
    (let b := attaching 2 { token := 5, fails := 7 }
     Accepts b (.port .ha) (rHi 0x540) ∧ (b.dropHeld (.port .ha)).attState 0 = 2 ∧
       ((b.dropHeld (.port .ha)).att 0).token = (5#48).toNat ∧ (b.dropHeld (.port .ha)).portGranted 0 Port.ha.num = true ∧
       ((b.dropHeld (.port .ha)).att 0).locked = false ∧ ((b.dropHeld (.port .ha)).att 0).token ≠ (6#48).toNat) ∧
    (let b := attaching 2 { token := 5, locked := true }
     Accepts b (.port .ha) (rHi 0x540) ∧ ((b.dropHeld (.port .ha)).att 0).locked = true) ∧
    Accepts up .mc (rHi 0x148) := by
  repeat' apply And.intro
  all_goals first | decide +kernel | (refine accepts_of ?_; decide)

theorem wit_ports :
    (up.portLive Port.hb.num = true ∧ (Instr.perst .hb true = .dlDown .hb ∨ Instr.perst .hb true = .perst .hb true)) ∧
    (withRegs [(rHi 0, 0x803)] up).fld (rHi (0x10 * 0)) 11 11 = 1 ∧
    (up.mayTrain 0 1 5 16 = true ∧ up.mayTrain 0 1 6 16 = false ∧ up.mayTrain 1 1 5 8 = false) ∧
    (let b : Block := { withRegs [(rHi 0, 0x2D)] up with sessions := [⟨.ha, 3, 0#384, true, [], []⟩] }
     b.portLive Port.ha.num = true ∧ b.hasIde Port.ha.num = true ∧ ∃ x ∈ b.sessions, x.port = .ha ∧ x.sid = 3) := by
  refine ⟨?_, ?_, ?_, ?_, ?_, ⟨.ha, 3, 0#384, true, [], []⟩, .head _, rfl, rfl⟩ <;> decide +kernel

/-- A message from member 2 to core 0 on path 0 with key 0, without its tag. -/
def rawMsg (handle : BitVec 9) (counter : BitVec 32) (coords sizes : List Nat) (payload : List Byte) : PeerMsg :=
  ⟨2, 0x123#12, 0, handle, 0, 0, counter, coords, sizes, 7, payload, 5#4, 0#128⟩

/-- The same with the tag that partition 0's key gives it. -/
def genuine (kind : Nat) (m : PeerMsg) : PeerMsg :=
  { m with tag := Config.peerTag (List.replicate 32 0#8) kind { m with tag := 0#128 } }

/-- Partition 0's key in use with member 2, whose identifier is valid; the peer path is up on port 0, entry 1 names a
byte of scratchpad and entry 2 a byte of Ledger, and a load of core 0 awaits request 7. -/
def peering : Block := { withRegs ((rHi 0x718, 0x1123) :: jobRegs 1 ++ [(rHi 0x718, 0x1123)]) up with
  jobKeys := [(0, List.replicate 32 0#8)], descs := [(1, some (BitVec.ofNat 256 (vecAt 0))),
    (2, some (BitVec.ofNat 256 (0x25 + 64 <<< 128)))]
  queues := [(qKey 0 4 0, [{ entryOf 0 0 0 0 with stage := .issued, preads := [⟨7, 0, [⟨0, false, false, 0, false⟩]⟩] }])] }

theorem peering_genuine (kind : Nat) (h : BitVec 9) (n : BitVec 32) (cs zs : List Nat) (p : List Byte) (hn : 0 < n.toNat) :
    PeerArrives peering .ha kind (genuine kind (rawMsg h n cs zs p)) 0 := by
  refine ⟨by decide, by decide, by decide, by decide, ?_, ?_⟩
  · show peering.coreOwner 0 = some 0
    decide
  · have h3 : bit (peering.rn (rJob 0 (0x20 + 4 * 0))) 2 = true := by decide
    have h4 : peering.jobKeys.get noKey (4 * 0 + 0) = List.replicate 32 0#8 := by decide
    have h5 : peering.rxCtr.get noCount (rxKey 0 0 2 0) = 0 := by decide
    simp only [Block.peerGenuine, genuine, rawMsg]
    simp only [Bool.and_eq_true, beq_iff_eq]
    refine ⟨⟨⟨⟨⟨by decide, by decide⟩, by decide⟩, h3⟩, ?_⟩, ?_⟩
    · exact congrArg (fun x => Config.peerTag x kind _) h4.symm
    · apply decide_eq_true
      show peering.rxCtr.get noCount (rxKey 0 0 2 0) < n.toNat
      rw [h5]
      exact hn

theorem wit_peer :
    (PeerArrives peering .ha 0 (genuine 0 (rawMsg 1 1 [0, 0, 0, 0] [1, 1, 1, 1] [9#8])) 0 ∧
      PeerArrives peering .ha 0 (genuine 0 (rawMsg 2 1 [0, 0, 0, 0] [1, 1, 1, 1] [9#8])) 0 ∧
      PeerArrives peering .ha 0 (genuine 0 (rawMsg 5 1 [0, 0, 0, 0] [1, 1, 1, 1] [])) 0 ∧
      PeerArrives peering .ha 1 (genuine 1 (rawMsg 1 1 [0, 0, 0, 0] [1, 1, 1, 1] [])) 0 ∧
      PeerArrives peering .ha 1 (genuine 1 (rawMsg 5 1 [0, 0, 0, 0] [1, 1, 1, 1] [])) 0 ∧
      PeerArrives peering .ha 2 (genuine 2 (rawMsg 0 1 [] [] [9#8])) 0 ∧
      PeerArrives peering .ha 3 (genuine 3 (rawMsg 0 1 [5, 3] [] [])) 0) ∧
    (peering.peerBlock 0 true (rawMsg 1 1 [0, 0, 0, 0] [1, 1, 1, 1] [9#8]) = some (vecAt 0) ∧
      peering.peerBlock 0 false (rawMsg 1 1 [0, 0, 0, 0] [1, 1, 1, 1] []) = some (vecAt 0) ∧
      peering.peerBlock 0 true (rawMsg 2 1 [0, 0, 0, 0] [1, 1, 1, 1] [9#8]) = some (0x25 + 64 <<< 128) ∧
      (∀ store, peering.peerBlock 0 store (rawMsg 5 1 [0, 0, 0, 0] [1, 1, 1, 1] []) = none) ∧
      msgBox (rawMsg 1 1 [0, 0, 0, 0] [1, 1, 1, 1] [9#8]) = [[0, 0, 0, 0]] ∧
      placeOf (vecAt 0) [0, 0, 0, 0] = .sp 0 false false ∧ placeOf (0x25 + 64 <<< 128) [0, 0, 0, 0] = .led 64 false false ∧
      (dFormat (vecAt 0)).size = 8) ∧
    (peering.canSend 0 2 = true ∧ peering.sramBad = [] ∧
      (peering.queue (qKey 0 4 0)).findIdx? (Entry.peerAsks 7) = some 0) ∧
    (peering.ctrOwner 5 = some 0 ∧ peering.ctrMode 5 = 0 ∧ peering.ctrValue 5 + 3 ≤ peering.ctrCap 5 ∧ peering.nwait 5 = 0 ∧
      peering.ctrOwner 0x1000 ≠ some 0) ∧
    (∀ k, ¬PeerArrives up .ha 0 (rawMsg 0 0 [] [] []) k) ∧ up.life = .service ∧ up.dlUp Port.ha.num = true := by
  refine ⟨⟨?_, ?_, ?_, ?_, ?_, ?_, ?_⟩, ?_, ?_, ?_, fun k h => ?_, rfl, by decide⟩
  · exact peering_genuine _ _ _ _ _ _ (by decide)
  · exact peering_genuine _ _ _ _ _ _ (by decide)
  · exact peering_genuine _ _ _ _ _ _ (by decide)
  · exact peering_genuine _ _ _ _ _ _ (by decide)
  · exact peering_genuine _ _ _ _ _ _ (by decide)
  · exact peering_genuine _ _ _ _ _ _ (by decide)
  · exact peering_genuine _ _ _ _ _ _ (by decide)
  · decide +kernel
  · decide +kernel
  · decide +kernel
  · exact absurd h.peerOn (by decide)

/-! ### Witnesses: security -/

/-- A session of a requester whose digest is 0, which is the tenant of partition 0, and a block that holds it. -/
def session (auth : Bool) (reports : List Report) (passed : List Nat) : Session := ⟨.ha, 3, 0#384, auth, reports, passed⟩
def holding (x : Session) (l : List (Nat × Nat)) : Block := { withRegs l up with sessions := [x], nextSid := 4 }

theorem wit_sessions :
    (up.responds Port.ha.num = true ∧
      (({ up with sessions := List.replicate 4 (session true [] []) } : Block).sessions.filter (fun x => x.port == .ha)).length = 4) ∧
    (let b := holding (session true [⟨0, 0#384, 0⟩] []) []
     b.responds Port.ha.num = true ∧ b.session? .ha 3 = some (session true [⟨0, 0#384, 0⟩] []) ∧ b.session? .ha 4 = none ∧
       (b.isAdmin (session true [⟨0, 0#384, 0⟩] []) || b.isTenant (session true [⟨0, 0#384, 0⟩] []) 0) = true ∧
       (session true [⟨0, 0#384, 0⟩] []).reports.any (fun r => r.part == 0) = true ∧
       (session true [⟨0, 0#384, 0⟩] []).reports.any (fun r => r.part == 1) = false) ∧
    (let b := holding (session true [] []) [(rPart 7 0x10, 1)]
     (b.isAdmin (session true [] []) || b.isTenant (session true [] []) 7) = false ∧ (0x47#8).toNat = 0x40 + 7) ∧
    (∀ auth, (holding (session auth [] []) []).session? .ha 3 = some (session auth [] [])) ∧
    ((aqastOf (holding (session false [] []) []) (.attach .ha 3 0)).isSome = true ∧
      ({ holding (session true [] []) [] with life := .dawn, regs := (withRegs [(rMc 0x10, 3)] up).regs } : Block).responds 0 = true ∧
      (aqastOf up (.attach .ha 3 8)).map (·.bad) = some true ∧ (aqastOf up (.attach .ha 3 7)).map (·.bad) = some false ∧
      (aqastOf (holding (session true [] []) [(rPart 7 0x10, 1)]) (.attestAck .ha 3 7 (List.replicate 48 0#8))).map
        (fun a => (a.bad, a.role (session true [] []))) = some (false, false)) := by
  repeat' apply And.intro
  all_goals decide +kernel

theorem aqast_due {b : Block} {i : Instr} {a : AqastRow} {x : Session} (row : aqastOf b i = some a)
    (h : b.portLive a.port.num = true ∧ b.life = .service ∧ b.session? a.port a.sid = some x ∧ x.mutualAuth = true ∧
      a.bad = false ∧ a.role x = true) : AqastDue b i a x := by
  obtain ⟨h1, h2, h3, h4, h5, h6⟩ := h
  exact ⟨row, h1, h2, h3, h4, h5, h6⟩

theorem wit_attach_messages :
    (∃ a, AqastDue (holding (session true [] []) []) (.setAdmin .ha 3 (List.replicate 48 1#8)) a (session true [] [])) ∧
    (∃ a, AqastDue (holding (session true [] []) [(rHi 0x500, 0)]) (.attach .ha 3 0) a (session true [] [])) ∧
    (∃ a, AqastDue (holding (session true [] [0]) [(rHi 0x500, 0)]) (.attach .ha 3 0) a (session true [] [0])) ∧
    ((holding (session true [] [0]) [(rHi 0x500, 0)]).attState 0 = 0 ∧ (holding (session true [] [0]) []).attState 0 ≠ 0 ∧
      (holding (session true [] [0]) [(rHi 0x500, 0)]).partState 0 = 1 ∧
      (holding (session true [] [0]) [(rHi 0x500, 0), (rPart 0 0, 0xFFFFFF)]).portGranted 0 Port.ha.num = false ∧
      (holding (session true [] [0]) [(rPart 0 0, 0x1FFFFFF)]).portGranted 0 Port.ha.num = true) ∧
    (∃ a, AqastDue { holding (session true [⟨0, 0#384, 0⟩] []) [(rHi 0x500, 3)] with cycle := 1500000000 }
      (.attestAck .ha 3 0 (List.replicate 48 0#8)) a (session true [⟨0, 0#384, 0⟩] [])) ∧
    (∃ a, AqastDue { holding (session true [⟨0, 0#384, 0⟩] []) [(rHi 0x500, 3)] with cycle := 1500000001 }
      (.attestAck .ha 3 0 (List.replicate 48 0#8)) a (session true [⟨0, 0#384, 0⟩] [])) ∧
    ((holding (session true [] []) [(rHi 0x500, 3)]).attState 0 = 3 ∧ (holding (session true [] []) [(rHi 0x500, 3)]).attPort 0 = 0 ∧
      (⟨0, 0#384, 0⟩ : Report).digest.toNat = ofBytes (List.replicate 48 0#8)) := by
  exact ⟨⟨_, aqast_due rfl (by decide)⟩, ⟨_, aqast_due rfl (by decide)⟩, ⟨_, aqast_due rfl (by decide)⟩, by decide +kernel,
    ⟨_, aqast_due rfl (by decide)⟩, ⟨_, aqast_due rfl (by decide)⟩, by decide +kernel⟩

theorem wit_job_keys :
    (∃ a, AqastDue (holding (session true [] []) []) (.setJobKey .ha 3 0 3 1 255 (List.replicate 32 0#8)) a (session true [] [])) ∧
    ((holding (session true [] []) []).jobState 0 3 ≠ 2 ∧ up.zeroising.contains 0 = false ∧
      (withRegs [(rJob 0 4, 0x80)] up).jobState 0 3 = 2 ∧ (withRegs [(rJob 0 4, 0x40)] up).jobState 0 3 = 1) ∧
    (∃ a, AqastDue (holding (session true [] []) []) (.delJobKey .ha 3 0 3) a (session true [] [])) ∧
    (let b := withRegs [(rJob 0 4, 0x80), (rJob 0 0, 7)] up
     b.jobState 0 3 = 2 ∧ b.fld (rJob 0 0) 2 2 = 1) ∧
    (Accepts up .mc (rJob 7 0) ∧ bits (7 : Nat) 1 0 = 3) := by
  refine ⟨⟨_, aqast_due rfl (by decide)⟩, by decide +kernel, ⟨_, aqast_due rfl (by decide)⟩, by decide +kernel, ?_, by decide⟩
  exact accepts_of (by decide)

/-- Partition 1 FREE with the units, the port and the digest that a BIND needs, and partition 0 gone. -/
def binding : Block := withRegs [(rPart 0 0, 0), (rPart 0 8, 0), (rPart 1 0, 0x1000101), (rPart 1 0x10, 7), (rHi 0x500, 0)] up

theorem wit_partitions :
    Accepts up .mc (rSb 0x200) ∧ (up.dropHeld .mc).bindReason 0 = 1 ∧ Accepts binding .mc (rSb 0x200) ∧
    ((binding.dropHeld .mc).zeroising.contains 1 = false ∧ (binding.dropHeld .mc).bindReason 1 = 0 ∧
      ((binding.dropHeld .mc).units 1).testBit 0 = true ∧ ((binding.dropHeld .mc).units 1).testBit 7 = false) ∧
    ((({ up with zeroising := [7] } : Block).dropHeld .mc).zeroising.contains 7 = true ∧
      Accepts { up with zeroising := [7] } .mc (rSb 0x200)) ∧
    ((up.dropHeld .mc).releaseReason 0 = 9 ∧ (withRegs [(rRing 0 0, 0), (rHi 0x500, 0)] up).releaseReason 0 = 0) ∧
    (up.partState 0 ≠ 2 ∧ (withRegs [(rPart 0 8, 2)] up).partState 0 = 2 ∧ (up.units 0).testBit 8 = true ∧
      (pillared {}).offline 0 0 = false ∧ (pillared {}).unresp 0 0 = false) ∧
    (up.reqPresent .mc = true ∧ up.life ≠ .dawn ∧ up.mayZeroise .mc 0 = true ∧ up.mayZeroise (.port .ha) 0 = true) := by
  repeat' apply And.intro
  all_goals first | decide +kernel | (refine accepts_of ?_; decide)

/-! ### Witnesses: bundles -/

theorem tag_small (x : BitVec 128) : x.toNat < 256 ^ 16 := by
  have := x.isLt
  omega

/-- The first 4,288 bytes of the header of a bundle of one chunk of one byte for this module, and the header, with its
content key and the tag of that key. -/
def fixedPart : List Byte := leBytes 0x57424E31 4 ++ [1#8, 0#8, 1#8, 0#8] ++ List.replicate 8 0#8 ++ leBytes 1 4 ++
  leBytes 1 4 ++ List.replicate 168 0#8
def headerStart : List Byte := fixedPart ++ (leBytes Config.uid.toNat 16 ++ List.replicate 4080 0#8)
def contentKey : List Byte :=
  (Config.bundleKey (List.replicate 96 0#8) (List.replicate 8 0#8) (List.replicate 40 0#8)).getD []
def headerTag : BitVec 128 :=
  Config.gcmTag contentKey (List.replicate 8 0#8 ++ leBytes 0xFFFFFFFF 4) headerStart []
def header : List Byte := headerStart ++ (leBytes headerTag.toNat 16 ++ List.replicate 48 0#8)

theorem header_length : header.length = 4352 := by
  have h : fixedPart.length = 192 := by decide +kernel
  simp only [header, headerStart, List.length_append, leBytes_length, List.length_replicate, h]

/-- Partition 0 with the header in its Ledger and an OPEN of slot 15 from it. -/
def opening (l : Tab Byte) : Block := { up with ledger := l, bundleJobs := [(0, some (.opening 15 64))] }

theorem opening_reads (d : List Byte) : (opening (writeBytes [] 64 d)).ledRead 64 d.length = d := readBytes_writeBytes _ _ _

/-- With a content key that unwraps, which the spec's cryptography decides and the model leaves open, every check of an
OPEN passes on a state that holds the header in the Ledger; a header of zeros fails the first. -/
theorem wit_bundle_opens
    (hk : Config.bundleKey (List.replicate 96 0#8) (List.replicate 8 0#8) (List.replicate 40 0#8) = some contentKey) :
    (opening (writeBytes [] 64 header)).bundleJobs.get noBundleJob 0 = some (.opening 15 64) ∧ (15 : Nat) < 16 ∧
      (∃ w key, BundleOpens (opening (writeBytes [] 64 header)) 0 15 64 ((opening (writeBytes [] 64 header)).ledRead 64 4352) w key) ∧
      up.openCheck 0 15 64 (up.ledRead 64 4352) = .error 1 := by
  refine ⟨rfl, by decide, ?_, by rfl⟩
  have hread : (opening (writeBytes [] 64 header)).ledRead 64 4352 = header := by
    have h := opening_reads header
    rwa [header_length] at h
  have h1 : numAt header 0 4 = 0x57424E31 ∧ numAt header 4 2 = 1 := by decide +kernel
  have h2 : bundleSizesBad header = false := by decide +kernel
  have hs : slice header 8 8 = List.replicate 8 0#8 ∧ slice header 208 40 = List.replicate 40 0#8 ∧
      slice header 32 96 = List.replicate 96 0#8 := by decide +kernel
  have h3 : bundleEntry header = some (slice header 208 40) := by
    have hn : numAt header 6 2 = 1 := by decide +kernel
    have hv : numAt header 192 16 = Config.uid.toNat := by
      rw [numAt, header, headerStart, List.append_assoc, List.append_assoc,
        slice_at _ _ _ _ _ (by decide +kernel) (leBytes_length _ _), ofBytes_leBytes]
      exact Nat.mod_eq_of_lt Config.uid.isLt
    simp [bundleEntry, hn, List.range_succ, hv]
  have h4 : (Config.gcmTag contentKey (slice header 8 8 ++ leBytes 0xFFFFFFFF 4) (header.take 4288) []).toNat =
      numAt header 4288 16 := by
    have hl : headerStart.length = 4288 := by
      have h : fixedPart.length = 192 := by decide +kernel
      simp only [headerStart, List.length_append, leBytes_length, List.length_replicate, h]
    have ht : header.take 4288 = headerStart := by
      rw [header, ← hl, List.take_left]
    rw [ht, hs.1, numAt, header, slice_at _ _ _ _ _ hl (leBytes_length _ _), ofBytes_leBytes,
      Nat.mod_eq_of_lt (tag_small headerTag), headerTag]
  have h5 : (opening (writeBytes [] 64 header)).inLedAlloc 0 64 4352 = true := by decide
  have h6 : ((opening (writeBytes [] 64 header)).bundle 0 15).isSome = false := by rfl
  refine ⟨slice header 208 40, contentKey, ?_⟩
  rw [hread]
  have h7 : numAt header 6 2 = 1 ∧ numAt header 16 4 = 1 ∧ numAt header 20 4 = 1 := by decide +kernel
  exact
    { magic := h1
      entries := by rw [h7.1]; decide
      chunks := by rw [h7.2.1, h7.2.2]; decide
      reserved := by decide +kernel
      spare := by decide +kernel
      entry := h3
      unwraps := by rw [hs.2.2, hs.1, hs.2.1]; exact hk
      tag := h4
      empty := rfl
      inside := h5 }

/-- An open bundle of one chunk of one byte, and the chunk's record with the tag of its key. -/
def oneChunk : Bundle := ⟨[], [], 1, 1⟩
def plain : List Byte := ((Config.gcmText [] (leBytes 0 4) [0#8]) ++ [0#8]).take 1
def chunkTag : Nat := (Config.gcmTag [] (leBytes 0 4) [] plain).toNat
def record (tag : Nat) : List Byte := List.replicate 65536 0#8 ++ (leBytes tag 16 ++ [])

theorem record_length (tag : Nat) : (record tag).length = 65552 := by
  simp only [record, List.length_append, List.length_replicate, leBytes_length, List.length_nil]

theorem record_chunk (tag : Nat) : oneChunk.chunk 0 (record tag) = if chunkTag = tag % 256 ^ 16 then some plain else none := by
  have h1 : numAt (record tag) 65536 16 = tag % 256 ^ 16 := by
    rw [numAt, record, slice_at _ _ _ _ _ List.length_replicate (leBytes_length _ _), ofBytes_leBytes]
  have h2 : (record tag).take 1 = [0#8] := by
    rw [record, List.replicate_succ (n := 65535), List.cons_append, List.take_succ_cons, List.take_zero]
  have h3 : oneChunk.chunkLen 0 = 1 := rfl
  unfold Bundle.chunk
  simp only [h1, h2, h3]
  rfl

/-- A DECRYPT of chunk 0 in slot 15 from the record at 64 to the sealed range, which lies at 0x200000. -/
def decrypting (l : Tab Byte) (bundles : Tab (Option Bundle)) : Block := { withRegs [(rWb 0 0x20, 0x220)] up with
  ledger := l, bundles := bundles, bundleJobs := [(0, some (.decrypting 15 64 0x200000 0 0))] }

theorem decrypting_reads (d : List Byte) (x : Tab (Option Bundle)) :
    (decrypting (writeBytes [] 64 d) x).ledRead 64 d.length = d := readBytes_writeBytes _ _ _

theorem decrypting_chunk (tag : Nat) (x : Tab (Option Bundle)) :
    oneChunk.chunk 0 ((decrypting (writeBytes [] 64 (record tag)) x).ledRead 64 65552) =
      if chunkTag = tag % 256 ^ 16 then some plain else none := by
  have h := decrypting_reads (record tag) x
  rw [record_length] at h
  rw [h, record_chunk]

theorem wit_bundle_decrypts :
    (decrypting [] []).bundleJobs.get noBundleJob 0 = some (.decrypting 15 64 0x200000 0 0) ∧
    (decrypting [] []).decryptCheck 0 15 64 0x200000 0 0 = .error 8 ∧
    (∀ l, (decrypting l [(15, some oneChunk)]).decryptCheck 0 15 64 0x200000 0 0 = .ok oneChunk) := by
  have e : ∀ l x, (decrypting l x).regs = (withRegs [(rWb 0 0x20, 0x220)] up).regs := fun _ _ => rfl
  have h1 : ∀ l x, (decrypting l x).inLedAlloc 0 64 65600 = true := fun l x => by
    simp only [Block.inLedAlloc, Block.ledAlloc, Block.rn, Block.reg, e]
    decide +kernel
  have h2 : ∀ l x, (decrypting l x).sealedRange 0 = (0x200000, 0x10000) := fun l x => by
    simp only [Block.sealedRange, Block.fld, Block.rn, Block.reg, e]
    decide +kernel
  have h3 : ∀ l, (decrypting l []).bundle 0 15 = none := fun _ => rfl
  have h4 : ∀ l, (decrypting l [(15, some oneChunk)]).bundle 0 15 = some oneChunk := fun _ => rfl
  refine ⟨rfl, ?_, ?_⟩
  · simp [Block.decryptCheck, h1, h3]
  · intro l
    simp only [Block.decryptCheck, Nat.zero_add, Nat.mul_one, h1, h2, h4]
    simp [Bundle.destLen, Bundle.chunkLen, oneChunk, rangeIn, rangesMeet]

theorem wit_bundle_chunks :
    (∃ l text, oneChunk.chunk 0 ((decrypting l [(15, some oneChunk)]).ledRead 64 65552) = some text) ∧
    (∃ l, oneChunk.chunk 0 ((decrypting l [(15, some oneChunk)]).ledRead 64 65552) = none) := by
  have hlt : chunkTag < 256 ^ 16 := tag_small _
  exact ⟨⟨writeBytes [] 64 (record chunkTag), plain, (decrypting_chunk _ _).trans
      (if_pos (Nat.mod_eq_of_lt hlt).symm)⟩,
    ⟨writeBytes [] 64 (record (chunkTag + 1)), (decrypting_chunk _ _).trans (if_neg (by omega))⟩⟩

theorem wit_bundle_commands : Accepts up .mc (rWb 0 0) ∧ (up.dropHeld .mc).wbBusy 0 = false ∧
    (up.dropHeld .mc).zeroising.contains 0 = false ∧
    Accepts { up with zeroising := [7] } .mc (rWb 7 0) ∧ (({ up with zeroising := [7] } : Block).dropHeld .mc).zeroising.contains 7 = true ∧
    Accepts (withRegs [(rWb 0 0x18, 1)] up) .mc (rWb 0 0) ∧ ((withRegs [(rWb 0 0x18, 1)] up).dropHeld .mc).wbBusy 0 = true := by
  repeat' apply And.intro
  all_goals first | decide +kernel | (refine accepts_of ?_; decide)

/-! ### Witnesses: beats, power, heat and Twilight -/

/-- `up` with an accepted edge at cycle 1000, the clock at `cycle`, in a re-arm phase, and with registers set. -/
def beating (cycle rearm : Nat) (l : List (Nat × Nat)) : Block :=
  { withRegs l up with cycle := cycle, beat := { lastEdge := some 1000, rearm := rearm } }

theorem wit_edges :
    ((beating 1000 0 []).awake = true ∧ (beating 1000 0 []).beat.lastEdge = some 1000 ∧ 1000 + 67499 - 1000 < 67500) ∧
    (67500 ≤ (beating 1000 0 []).cycle + 67500 - 1000 ∧ (beating 1000 0 []).beat.src = false) ∧
    ((beating 1000 0 []).beat.rearm ≠ 3 ∧ (beating 1000 0 []).beatLost = false ∧
      (beating 1000 0 [(rEv 0, 0x20)]).beatLost = true ∧ (beating 1000 3 [(rEv 0, 0x20)]).beat.rearm = 3 ∧
      (beating 1000 3 []).fld (rEv 8) 0 0 = 0) ∧
    ((beating 1000 0 [(rEv 0, 0x20)]).internalDrive = true ∧ (beating 1000 0 []).internalDrive = false) := by decide +kernel

theorem wit_rearm :
    (let b := withRegs [(rEv 0, 0x20), (rEv 8, 1000 <<< 2)] up
     Accepts b .mc (rEv 8) ∧ b.rn (rEv 8) < 2 ^ 13 ∧ b.fld (rEv 8) 1 1 = 0 ∧ b.fld (rEv 8) 12 2 = 1000 ∧ b.beatLost = true) ∧
    (let b := withRegs [(rEv 8, 200 <<< 2)] up
     Accepts b .mc (rEv 8) ∧ b.fld (rEv 8) 12 2 = 200 ∧ b.beatLost = false) ∧
    (let b := withRegs [(rEv 8, 199 <<< 2)] up
     Accepts b .mc (rEv 8) ∧ b.rn (rEv 8) < 2 ^ 13 ∧ b.fld (rEv 8) 12 2 = 199) := by
  repeat' apply And.intro
  all_goals first | decide +kernel | (refine accepts_of ?_; decide)

theorem wit_ticks :
    (1024 ≤ ({} : Beat).tick ∧ ({} : Block).awake = true) ∧
    (∀ k ∈ [1, 63, 64, 1023], ({ up with beat := { tick := k } } : Block).beat.tick < 1024) ∧
    ({ up with beat := { tick := 5, tripDue := true } } : Block).tripped = false := by decide +kernel

/-- A schedule frame of allotments 16 under SEQ 3 and ENV 2, with its CRC, and an EPOCH broadcast with its. -/
def frameStart : List Byte := [1#8] ++ List.replicate 16 16#8 ++ [2#8, 0#8, 3#8]
def frame (crc : Nat) : List Byte := frameStart ++ leBytes crc 4
def broadcast (crc : Nat) : List Byte := leBytes 77 6 ++ leBytes crc 2

theorem wit_shelf :
    (up.awake = true ∧ up.i3cAddr ≠ none ∧ ({ up with i3cAddr := none } : Block).i3cAddr = none) ∧
    (frameOk (ofBytes (frame (crc32c frameStart).toNat)) (frame (crc32c frameStart).toNat) = true ∧
      frameOk (ofBytes (frame ((crc32c frameStart).toNat + 1))) (frame ((crc32c frameStart).toNat + 1)) = false) ∧
    ((broadcast ((crc32c (leBytes 77 6)).toNat % 65536)).length = 8 ∧
      bits (ofBytes (broadcast ((crc32c (leBytes 77 6)).toNat % 65536))) 63 48 =
        (crc32c ((broadcast ((crc32c (leBytes 77 6)).toNat % 65536)).take 6)).toNat % 65536) ∧
    Accepts up .mc (rEv 0x70) := by
  repeat' apply And.intro
  all_goals first | decide +kernel | (refine accepts_of ?_; decide)

/-- DOMCTL as DOMSTAT, all on, and the same with domain 0 still to switch off. -/
def powered : Block := withRegs [(rEv 0x100, 0xFFFFFFFF), (rEv 0x104, 0xFFFFFFFF), (rEv 0x108, 0x7FFFF)] up
def offQueued : Block := { withRegs [(rEv 0x100, 0xFFFFFFFE)] powered with domQueue := [0] }

theorem wit_domains :
    (Accepts powered .mc (rEv 0x100) ∧ Accepts powered .mc (rEv 0x108) ∧ (powered.dropHeld .mc).domQueue = [] ∧
      (List.range 83).filter (fun d => (if d / 32 = 0 then Nat.testBit 0x7FFFFFFF (d % 32) else powered.domWanted d) !=
        powered.domWanted d) = [31] ∧
      (powered.dropHeld .mc).maySwitch 31 (fun d => if d / 32 = 0 then Nat.testBit 0x7FFFFFFF (d % 32) else powered.domWanted d) = true) ∧
    ((powered.dropHeld .mc).maySwitch 0 (fun d => if d / 32 = 0 then Nat.testBit 0xFFFFFFFE (d % 32) else powered.domWanted d) = false) ∧
    (Accepts offQueued .mc (rEv 0x100) ∧ (offQueued.dropHeld .mc).domQueue ≠ []) ∧
    (offQueued.domQueue = 0 :: [] ∧ (0 : Nat) < 83 ∧ offQueued.domWanted 0 = false ∧ powered.domWanted 82 = true) := by
  repeat' apply And.intro
  all_goals first | decide +kernel | (refine accepts_of ?_; decide)

theorem wit_heat :
    ((List.replicate 16 105#8).length = 16 ∧ ((List.replicate 16 105#8).map BitVec.toNat).foldl max 0 = 105 ∧
      ((List.replicate 16 104#8).map BitVec.toNat).foldl max 0 = 104 ∧ up.awake = true) ∧
    (let b := withRegs [(rEv 0xB8, 1), (rEv 0xB0, 100 + 90 <<< 8)] up
     b.tripped = true ∧ b.fld (rEv 0xB0) 7 0 ≤ 100 ∧ b.fld (rEv 0xB0) 15 8 ≤ 90 ∧ b.mayFall = true) ∧
    (up.tripped = false) ∧
    (let b := withRegs [(rEv 0xB0, 115)] up
     b.mayFall = true ∧ 115 ≤ b.fld (rEv 0xB0) 7 0) ∧
    (true = true ↔ (39999#16).toNat < 40000) ∧ (false = true ↔ (40000#16).toNat < 40000) := by decide +kernel

/-- A seal of nothing, as it is captured, and as it is committed. -/
def bareSeal (session : Nat) : Seal := { session := session, cause := 3, intact := 0, guar := 0, time := 0, body := {} }

/-- Dawn in a step. -/
def inStep (n : Nat) : Block := withRegs [(rMc 0x10, n)] dawning

theorem wit_twilight :
    (up.mayFall = true ∧ (inStep 0).life = .dawn ∧ (inStep 0).fld (rMc 0x10) 3 0 = 0 ∧ (inStep 0).mayFall = false ∧
      (inStep 1).mayFall = true) ∧
    (Accepts up .mc (rJr 4) ∧ (up.dropHeld .mc).mayFall = true ∧ Accepts (inStep 0) .mc (rJr 4) ∧
      ((inStep 0).dropHeld .mc).mayFall = false) ∧
    (Accepts up .mc (rMc 0x18) ∧ (up.dropHeld .mc).life = .service ∧ Accepts (inStep 5) .mc (rMc 0x18) ∧
      ((inStep 5).dropHeld .mc).life ≠ .service) ∧
    (({ up with life := .night } : Block).life = .night ∧ (inStep 9).fld (rMc 0x10) 3 0 ≠ 0 ∧ (inStep 9).fld (rMc 0x10) 3 0 ≠ 10) ∧
    ({ inStep 0 with supplyOk := true } : Block).supplyOk = true := by
  repeat' apply And.intro
  all_goals first | decide +kernel | (refine accepts_of ?_; decide)

/-- A Twilight under way, with its image captured. -/
def falling (sealless quiesced programming : Bool) : Block := { up with
  life := .twilight, sealing := some (bareSeal 5)
  twilight := some { cause := 3, since := 0, reset := some 2, sealless := sealless, quiesced := quiesced, programming := programming } }

theorem wit_seal :
    (∀ x ∈ [true, false], (falling x false false).twilight = some ⟨3, 0, some 2, x, false, false⟩) ∧
    (falling false true false).twilight = some ⟨3, 0, some 2, false, true, false⟩ ∧
    (falling false true true).twilight = some ⟨3, 0, some 2, false, true, true⟩ ∧
    (falling false true true).life = .twilight ∧ (some 2 : Option Nat).getD 1 < 8 ∧
    (falling false true true).sealing = some (bareSeal 5) := by decide +kernel

/-! ### Witnesses: Dawn, alarms, orders and firmware -/

theorem wit_dawn :
    (({ up with life := .night } : Block).life = .night ∧ ({} : Block).life = .dawn ∧ ({} : Block).fld (rMc 0x10) 3 0 = 0) ∧
    ((List.replicate 16 0#17).length = 16 ∧ (∀ x ∈ [((69631 : Nat), 4#4)], x.2.toNat ≤ 4) ∧ (inStep 1).dawnStep ≠ 2) ∧
    (∀ n ∈ [1, 2, 3, 4, 5, 6, 7], (inStep n).dawnStep = n) ∧
    (let b : Block := { inStep 2 with seals := [(1, some (bareSeal 0))] }
     b.seals.get noSeal 1 = some (bareSeal 0) ∧ b.seals.get noSeal 0 = none ∧ b.rn (rJr 0x90) = 0) ∧
    (let b : Block := { inStep 3 with alarms := [⟨5, 1, 0⟩], aonLost := true }
     b.alarms.length % 256 = 1 ∧ b.aonLost = true) ∧
    (let b : Block := { inStep 5 with clrPend := [3], spareMap := [(3, some 7)] }
     b.clrPend = [3] ∧ b.dawnStep = 5) ∧
    ((inStep 8).dawnStep = 8 ∧ 3 ≤ (inStep 8).dawnStep ∧ (inStep 8).fld (rJr 0) 3 3 = 0 ∧ up.life = .service) := by
  decide +kernel

theorem wit_replay_and_commit :
    (({ inStep 7 with replayed := true } : Block).replayed = true ∧ (inStep 7).replayed = false ∧ (inStep 7).found = none ∧
      ({ inStep 7 with found := some (bareSeal 0) } : Block).found = some (bareSeal 0) ∧ (inStep 7).partState 0 = 1) ∧
    (let b : Block := { withRegs [(rJr 0, 8)] (inStep 7) with
       replayed := true, stringsTested := [0, 1, 2, 3, 4], heldBack := [(rC 0 0x2300, 5#64)] }
     b.dawnStep = 7 ∧ b.replayed = true ∧ b.queues = [] ∧ (∀ i ∈ b.items, i.phase = .complete ∨ i.kind = .fence) ∧
       b.fld (rJr 0) 3 3 = 1 ∧ b.stringsTested.length = 5 ∧ (∀ x ∈ b.heldBack, x.1 = rC 0 0x2300)) := by
  repeat' apply And.intro
  all_goals decide +kernel

theorem wit_alarms :
    (({} : Block).life ≠ .dark ∧ (({} : Block).source 1).last = false ∧ ({} : Block).supplied = true) ∧
    (let b : Block := { up with life := .night, sources := [(1, { last := true, everOff := true })] }
     b.life ≠ .dark ∧ (b.source 1).last = true ∧ (b.source 1).on = false ∧ (b.source 1).everOff = true ∧ b.supplied = false ∧
       b.fld (rAl 0x20) 63 63 = 0 ∧ b.life = .night) ∧
    ({ up with life := .dark } : Block).life = .dark ∧ Accepts up .mc (rAl 0x10) := by
  repeat' apply And.intro
  all_goals first | decide +kernel | (refine accepts_of ?_; decide)

/-- An order at index 31 that fires once for any event of class 1, in an armed table, such an event, and an order without
an action. -/
def ordered : Block := { withRegs [(rSo 0, 1), (rSo (0x100 + 16 * 31), 1 + 0xFFFF <<< 16),
  (rSo (0x100 + 16 * 31 + 4), 6 + 1 <<< 16)] up with orderEvents := [⟨0#32, 1, 0⟩] }
def badOrder : Block := withRegs [(rSo (0x100 + 16 * 31), 1)] up

theorem wit_orders :
    (ordered.life = .service ∧ ordered.orderEvents = ⟨0#32, 1, 0⟩ :: [] ∧ ordered.fld (rSo 0) 0 0 = 1 ∧ (31 : Nat) < 32 ∧
      ordered.orderMatches ⟨0#32, 1, 0⟩ 31 = true ∧ (∀ j, j < 31 → ordered.orderMatches ⟨0#32, 1, 0⟩ j = false) ∧
      (∀ j, j < 32 → ordered.orderMatches ⟨0#32, 2, 0⟩ j = false) ∧ up.orderEvents = []) ∧
    (Accepts ordered .mc (rSo 0) ∧ (∀ j, j < 32 → (ordered.dropHeld .mc).orderBad j = false)) ∧
    (Accepts badOrder .mc (rSo 0) ∧ (badOrder.dropHeld .mc).orderBad 31 = true ∧
      (∀ j, j < 31 → (badOrder.dropHeld .mc).orderBad j = false) ∧ badOrder.fld (rSo 0) 0 0 = 0) := by
  repeat' apply And.intro
  all_goals first | decide +kernel | (refine accepts_of ?_; decide)

theorem wit_firmware :
    (Accepts up .mc (rMc 0x20) ∧ (up.dropHeld .mc).fld (rMc 0x24) 0 0 = 0 ∧
      ((withRegs [(rMc 0x24, 1)] up).dropHeld .mc).fld (rMc 0x24) 0 0 = 1) ∧
    (({ up with fwJob := some 2 } : Block).fwJob = some 2 ∧ up.fwStarted.get noVersion 2 < 2 ∧ up.fwJob = none) ∧
    (Accepts up .mc (rMc 0x30) ∧ (up.dropHeld .mc).spareMap.get noSpare 15 = none ∧
      (({ up with spareMap := [(15, some 0)] } : Block).dropHeld .mc).spareMap.get noSpare 15 ≠ none) ∧
    Accepts up .mc (rSo 0) ∧ Accepts up .mc (rEl 0xC) := by
  repeat' apply And.intro
  all_goals first | decide +kernel | (refine accepts_of ?_; decide)

/-! ### Witnesses: plans and sequencers -/

/-- Sequencer 0 in a state, with more registers set. -/
def planned (st : Nat) (l : List (Nat × Nat)) : Block := withRegs ((rQ 0 8, st) :: l) up

theorem wit_plan_commands :
    (Accepts (planned 0 []) .mc (rQ 0 0) ∧ ((planned 0 []).dropHeld .mc).planReason 0 0 = 0 ∧
      ((planned 0 [(rQ 0 4, 32)]).dropHeld .mc).planReason 0 0 = 2 ∧ ((planned 0 []).dropHeld .mc).planReason 0 1 = 1) ∧
    (Accepts (planned 1 []) .mc (rQ 0 0) ∧ ((planned 1 []).dropHeld .mc).planReason 0 1 = 0 ∧
      ((planned 1 []).dropHeld .mc).planReason 0 2 = 0 ∧ ((planned 1 []).dropHeld .mc).planReason 0 5 = 0) ∧
    ((planned 2 []).dropHeld .mc).planReason 0 3 = 0 ∧ ((planned 5 []).dropHeld .mc).planReason 0 4 = 0 := by
  repeat' apply And.intro
  all_goals first | decide +kernel | (refine accepts_of ?_; decide)

/-- The image of a plan of one word at Ledger 0, with its PCHK or a wrong one, and its LOAD under way. -/
def imageStart : List Byte := leBytes 0x504C4E31 4 ++ leBytes 1 2 ++ leBytes 0 2 ++ leBytes 4 4 ++ leBytes 0 4 ++ leBytes 0 4 ++
  leBytes 0x10000 4 ++ leBytes 0 4 ++ List.replicate 32 0#8
def image (add : Nat) : List Byte := imageStart ++ leBytes ((crc32c (imageStart ++ leBytes 0x46 4)).toNat + add) 4 ++ leBytes 0x46 4
def loadingPlan (add : Nat) : Block := { planned 0 [] with
  seqs := [(0, { job := some .loading })], ledger := writeBytes [] 0 (image add) }

theorem wit_plan_ends :
    (((loadingPlan 0).seq 0).job = some .loading ∧ (loadingPlan 0).domOn 24 = true ∧ (loadingPlan 0).life = .service ∧
      (loadingPlan 0).imageReason 0 = 0 ∧ (loadingPlan 1).imageReason 0 ≠ 0) ∧
    (let b : Block := { planned 5 [] with seqs := [(0, { job := some .moving })] }
     (b.seq 0).job = some .moving ∧ b.sramBad = [] ∧ b.planMem.wf byteZero = true ∧ b.siblingBad 0 = false) ∧
    (let b : Block := { planned 5 [(rQ 1 8, 1)] with seqs := [(0, { job := some .moving })] }
     b.siblingBad 0 = true) := by decide +kernel

/-- Sequencer 0 running on a word, with registers set; what `SeqRuns` asks, as one proposition that can be decided. -/
def seqOn (w : Nat) (l : List (Nat × Nat)) : Block := { planned 2 l with planMem := writeBytes [] 0 (leBytes w 4) }
abbrev runsNow (b : Block) (op w : Nat) : Prop := b.seqActive 0 = true ∧ (b.seq 0).wait = none ∧ b.inTrap 0 = false ∧
  b.seqWord 0 = some w ∧ wOp w = op ∧ wordReserved w = false

theorem seqRuns_of {b : Block} {op w : Nat} (h : runsNow b op w) : SeqRuns b 0 op w := by
  obtain ⟨h1, h2, h3, h4, h5, h6⟩ := h
  exact ⟨h1, h2, h3, h4, h5, h6⟩

theorem wit_seq_runs :
    (∀ op ∈ [0, 1, 2, 3, 4, 5, 6, 7, 8, 9, 0xA, 0x10, 0x11, 0x12, 0x13, 0x14, 0x15, 0x16, 0x17, 0x18, 0x19, 0x1A, 0x20, 0x28,
      0x29, 0x2A, 0x2B, 0x30, 0x31, 0x32, 0x33, 0x34, 0x35, 0x38, 0x39, 0x3A, 0x3B, 0x40, 0x41, 0x42, 0x43, 0x44, 0x45, 0x46],
      runsNow (seqOn op []) op op) ∧
    (SeqRegisterRow 0 (.seqAdd 0) 0 (fun a b => a + b) ∧ SeqImmediateRow 0 (.seqAddi 0) 0x10 (fun a b => a + b) ∧
      SeqBranchRow 0 (.seqBeq 0) 0x30 (fun a b => decide (a = b)) ∧ SeqRow 0 (.seqLui 0)) :=
  ⟨by decide +kernel, .head _, .head _, .head _, .inr (.inr (.inr (.head _)))⟩

/-- A WAITEV of g0 and g1 with the mask m in g0 and c cycles in g1, and the same in progress. -/
def waitingFor (m c : Nat) : Block := seqOn (0x43 + 1 <<< 18) [(rQ 0 0x20, m), (rQ 0 0x24, c)]
def inWait (since : Nat) : Block := { waitingFor 4 5 with seqs := [(0, { wait := some ⟨4, 5, since⟩ })] }

theorem wit_waitev :
    (runsNow (waitingFor 4 1) 0x43 (0x43 + 1 <<< 18) ∧ runsNow (waitingFor 4 0) 0x43 (0x43 + 1 <<< 18) ∧
      ((waitingFor 4 0).seqReg 0 0).toNat.testBit 2 = true ∧ ((waitingFor 4 0).seqReg 0 1).toNat = 0 ∧
      ((waitingFor 4 1).seqReg 0 1).toNat = 1) ∧
    (((inWait 0).seq 0).wait ≠ none ∧ (inWait 0).inTrap 0 = false ∧ (inWait 0).seqActive 0 = true ∧
      (inWait 0).seqWord 0 = some (0x43 + 1 <<< 18) ∧ (inWait 0).pendingEvents 0 ⟨4, 5, 0⟩ = 0 ∧
      ({ inWait 0 with cycle := 5 } : Block).pendingEvents 0 ⟨4, 5, 0⟩ = 4) := by decide +kernel

/-- A load or store of g0's address plus n, with g0 set. -/
def memory (op n base : Nat) : Block := seqOn (op + 1 <<< 8 + n <<< 18) [(rQ 0 0x20, base)]

theorem wit_seq_memory :
    (∀ op ∈ [0x28, 0x29, 0x2A, 0x2B], ∀ a ∈ [0x7FFC, 0x8000, 0x1FFFC, 0x20000, 0x10000000, 0x10FFFFFC, 0x11000000, 0x40080000],
      runsNow (memory op 0 a) op (op + 1 <<< 8) ∧ ((memory op 0 a).seqReg 0 0).toNat = a) ∧
    ((memory 0x28 0 0).seqLedMay 0 0xFFFFFC 4 = true ∧ (memory 0x28 0 0).seqLedMay 0 0x1000000 4 = false ∧
      (memory 0x28 0 0).seqMay 0 (rC 0 0x2000) = true ∧ (memory 0x28 0 0).sramBad = []) ∧
    (0x7FFC < 0x8000 ∧ 0x1FFFC < 0x20000 ∧ 0x10FFFFFC < 0x12000000) := by decide +kernel

theorem wit_seq_calls :
    ((planned 2 [(rQ 0 0x10, 6 <<< 11)]).resFrames 0 = 6 ∧ (planned 2 [(rQ 0 0x10, 7 <<< 11)]).resFrames 0 = 7) ∧
    (∀ op ∈ [0x39, 0x3A, 0x3B], runsNow (seqOn op [(rQ 0 0x10, 7 <<< 11), (rQ 0 0x14, 0x10040)]) op op) ∧
    (let b : Block := { seqOn 0x39 [(rQ 0 0x10, 7 <<< 11), (rQ 0 0x14, 0x10040)] with seqs := [(0, { splim := 0x10000 })] }
     (b.seq 0).splim + 64 ≤ b.spillPtr 0) ∧
    (let b : Block := { seqOn 0x39 [(rQ 0 0x10, 7 <<< 11), (rQ 0 0x14, 0x1003F)] with seqs := [(0, { splim := 0x10000 })] }
     b.spillPtr 0 < (b.seq 0).splim + 64) ∧
    (1 < (seqOn 0x3B [(rQ 0 0x10, 2 <<< 11)]).resFrames 0 ∧ (seqOn 0x3B [(rQ 0 0x10, 1 <<< 11)]).resFrames 0 ≤ 1 ∧
      0 < (seqOn 0x3B [(rQ 0 0x10, 1 <<< 11 + 1 <<< 14)]).spilled 0 ∧ (seqOn 0x3B [(rQ 0 0x10, 1 <<< 11)]).spilled 0 = 0) ∧
    (let b := seqOn 0x39 [(rQ 0 8, 0x10002)]
     b.seqActive 0 = true ∧ b.inTrap 0 = true ∧ b.seqWord 0 = some 0x39 ∧ (b.seq 0).wait = none ∧ b.resFrames 0 < 7) := by
  decide +kernel

/-- A PUT of ring g0 from the address in g1, with the registers given. -/
def putting (ring a : Nat) (l : List (Nat × Nat)) : Block :=
  seqOn (0x40 + 2 <<< 8 + 1 <<< 18) ([(rQ 0 0x20, ring), (rQ 0 0x24, a), (rRing 1 0, 0x8001 + 16 <<< 4)] ++ l)

theorem wit_put_and_sig :
    (∀ x ∈ [(0, 0x10000), (1, 0x1FFC0), (1, 0x20000), (1, 0x10001)], runsNow (putting x.1 x.2 []) 0x40 (0x40 + 2 <<< 8 + 1 <<< 18)) ∧
    ((putting 0 0 []).planRings 0 = [1] ∧ (putting 0 0 []).sramBad = [] ∧
      8192 ≤ sub32 ((putting 1 0x10000 [(rPutn 0 1, 8192)]).rn (rPutn 0 1)) ((putting 1 0x10000 []).rn (rRg 1 0)) ∧
      sub32 ((putting 1 0x10000 [(rPutn 0 1, 8191)]).rn (rPutn 0 1)) ((putting 1 0x10000 []).rn (rRg 1 0)) < 8192) ∧
    (∀ x ∈ [(8191, 1), (8191, 65535), (8192, 1), (0, 0), (0, 65536)],
      runsNow (seqOn (0x41 + 1 <<< 18) [(rQ 0 0x20, x.1), (rQ 0 0x24, x.2)]) 0x41 (0x41 + 1 <<< 18)) := by decide +kernel

theorem wit_fetch_faults :
    (SeqRow 0 (.seqJmp 0) ∧ (planned 1 []).seqActive 0 = false ∧ (planned 1 []).inTrap 0 = false) ∧
    (let b := seqOn 0 [(rQ 0 0xC, 0x8000)]
     b.seqActive 0 = true ∧ (b.seq 0).wait = none ∧ b.seqWord 0 = none) ∧
    ((seqOn 0x0B []).seqWord 0 = some 0x0B ∧ opDefined 0x0B = false ∧ wOp 0x47 = 0x47) ∧
    ((seqOn (0x38 + 0) []).seqActive 0 = true ∧ opDefined 0x46 = true ∧ wordReserved 0x146 = true ∧
      (seqOn 0x146 []).seqWord 0 = some 0x146) := by
  refine ⟨⟨.inr (.inr (.inr ?_)), ?_⟩, ?_⟩
  · repeat (first | exact .head _ | apply List.Mem.tail)
  · decide +kernel
  · decide +kernel

/-! ### Witnesses: operands that stand, rings, partitions and plans that are accepted -/

theorem wit_host_reads :
    (let x : HostAccess := ⟨.bar2, false, 0, 4, 0⟩
     up.dlUp 1 = true ∧ up.vioOf 1 x = some 7 ∧ hostParts x = [x]) ∧
    (let x : HostAccess := ⟨.hdm, false, 0x10FFFFFC, 4, 0⟩
     up.dlUp 0 = true ∧ up.hasHdm 0 = true ∧ x.off.toNat = 0x10000000 + 0xFFFFFC ∧ 0xFFFFFC < 0x2000000 ∧
       up.winReach 0 0xFFFFFC x.size = true ∧ up.sramBad = [] ∧ up.pathM = up.ledger) := by decide +kernel

theorem wit_ring_opens : RingOpens (toOpen.dropHeld .mc) 1 where
  closed := by decide +kernel
  bound := by decide +kernel
  core := by decide +kernel
  writer := by decide +kernel
  aligned := by decide +kernel
  within := by decide +kernel
  apart := by decide +kernel
  slots := by decide +kernel
  area := by decide +kernel
  mirror := by decide +kernel
  credit := by decide +kernel

theorem wit_part_binds : PartBinds (binding.dropHeld .mc) 1 where
  free := by decide +kernel
  cores := by decide +kernel
  pillars := by decide +kernel
  apart := by decide +kernel
  pool := by decide +kernel
  poolApart := by decide +kernel
  tenant := by decide +kernel
  coresOn := by decide +kernel
  pillarsOn := by decide +kernel
  ports := by decide +kernel

/-- Partition 0 bound with its ring closed and nobody attached. -/
def quitting : Block := withRegs [(rRing 0 0, 0), (rHi 0x500, 0)] up

theorem wit_part_releases : PartReleases (quitting.dropHeld .mc) 0 ∧ Accepts quitting .mc (rSb 0x200) :=
  ⟨⟨by decide +kernel, by decide +kernel, by decide +kernel, by decide +kernel⟩, accepts_of (by decide)⟩

theorem wit_zeroises : Zeroises up .mc 0 ∧ Zeroises up (.port .ha) 0 :=
  ⟨.inl rfl, .inr ⟨.ha, rfl, by decide +kernel⟩⟩

theorem wit_decrypts (l : Tab Byte) : Decrypts (decrypting l [(15, some oneChunk)]) 0 15 64 0x200000 0 oneChunk where
  inside := by
    show (decrypting [] []).inLedAlloc 0 64 65600 = true
    decide +kernel
  opened := rfl
  sealed := by
    show rangeIn _ ((decrypting [] []).sealedRange 0) = true
    decide +kernel
  apart := by
    show rangesMeet _ ((decrypting [] []).sealedRange 0) = false
    decide +kernel
  clear := by decide
  chunk := by decide

theorem wit_plan_takes : PlanTakes (planned 0 []) 0 0 ∧ PlanTakes (planned 1 []) 0 1 ∧ PlanTakes (planned 1 []) 0 2 ∧
    PlanTakes (planned 2 []) 0 3 ∧ PlanTakes (planned 5 []) 0 4 ∧ PlanTakes (planned 1 []) 0 5 ∧
    SiblingFree (planned 5 []) 0 ∧ ¬SiblingFree (planned 5 [(rQ 1 8, 1)]) 0 := by
  have home : ∀ st ∈ [0, 1, 2, 5], (planned st []).seqOwner 0 = some 0 ∧ (planned st []).partState 0 = 1 ∧
      (planned st []).rn (rQ 0 4) % 64 = 0 ∧ (planned st []).inLedAlloc 0 ((planned st []).rn (rQ 0 4)) 64 = true ∧
      (planned st []).planBusy 0 = false ∧ (planned st []).domOn (24 + 0) = true := by decide +kernel
  have free : SiblingFree (planned 5 []) 0 := ⟨by decide +kernel, by decide +kernel, by decide +kernel⟩
  have take : ∀ st ∈ [0, 1, 2, 5], ∀ n, (planned st []).planState 0 ∈ planAccepts n → (n = 4 → SiblingFree (planned st []) 0) →
      PlanTakes (planned st []) 0 n := fun st h n hs hf => by
    obtain ⟨h1, h2, h3, h4, h5, h6⟩ := home st h
    exact ⟨h5, hs, h6, ⟨0, h1, h2, fun _ => ⟨h3, h4⟩⟩, hf⟩
  refine ⟨take 0 (by decide) 0 (by decide) (fun h => absurd h (by decide)), take 1 (by decide) 1 (by decide) (fun h => absurd h (by decide)),
    take 1 (by decide) 2 (by decide) (fun h => absurd h (by decide)), take 2 (by decide) 3 (by decide) (fun h => absurd h (by decide)),
    take 5 (by decide) 4 (by decide) (fun _ => free), take 1 (by decide) 5 (by decide) (fun h => absurd h (by decide)), free, fun h => ?_⟩
  exact absurd h.idle (by decide +kernel)

theorem wit_image_loads : ImageLoads (loadingPlan 0) 0 ((loadingPlan 0).ledRead 0 64) where
  aligned := by decide +kernel
  on := by decide +kernel
  home := ⟨0, by decide +kernel⟩
  magic := by decide +kernel
  code := by decide +kernel
  starts := by decide +kernel
  stack := by decide +kernel
  check := by decide +kernel

theorem wit_group_rests :
    let b := withRegs [(rP 0 0xB0, 16)] (pillared {})
    GroupRests b 0 4 where
  enabled := by decide +kernel
  units := by
    intro x hx h1 h2
    simp only [pillared, withRegs] at hx
    obtain rfl := List.mem_singleton.mp hx
    exact ⟨rfl, rfl, rfl, rfl, by decide, rfl⟩
  ring := by decide +kernel
  waiting := by decide +kernel
  spare := by decide +kernel

/-- DOMCTL written on bank of registers 0 with the value v, over what is wanted now. -/
def wanting (v d : Nat) : Bool := if d / 32 = 0 then v.testBit (d % 32) else powered.domWanted d

theorem wit_may_switch : MaySwitch (powered.dropHeld .mc) 31 (wanting 0x7FFFFFFF) ∧
    ¬MaySwitch (powered.dropHeld .mc) 0 (wanting 0xFFFFFFFE) ∧ MaySwitch (offQueued.dropHeld .mc) 0 (wanting 0xFFFFFFFF) := by
  refine ⟨⟨fun h => absurd h (by decide), fun _ => ⟨fun h => ?_, fun _ h => ?_, fun _ h => ?_, fun _ _ => ?_, ?_, fun h => ?_,
    fun h => ?_, ?_, fun h => ?_, fun h => ?_⟩⟩, fun h => ?_, ⟨fun _ h => ?_, fun h => absurd h (by decide)⟩⟩
  · omega
  · omega
  · omega
  · decide +kernel
  · omega
  · omega
  · omega
  · omega
  · omega
  · omega
  · have h := (h.2 (by decide)).1 (by decide)
    exact absurd h (by decide +kernel)
  · omega

/-! ### Witnesses: entries that pass their checks -/

/-- A vector in the Ledger at 64, and one in the scratchpad. -/
def ledVec : Nat := 0x25 + 64 <<< 128

/-- Core 0 with a load or store at the head of its queue and the given descriptors, and the same as the effect of that
entry begins. -/
def starts (store : Bool) (en : Entry) (ds : List (Nat × Nat)) : Block := withDesc (eXfer store) 0 [en] ds
def begun (store : Bool) (en : Entry) (ds : List (Nat × Nat)) : Block :=
  (starts store en ds).issuing (qKey 0 (eXfer store) 0) 0 en
abbrev xferDue (store : Bool) (op : Nat) (en : Entry) (ds : List (Nat × Nat)) : Prop :=
  issueNow (starts store en ds) 0 (eXfer store) 0 op 16 noUses 0 en ∧ (starts store en ds).coreOwner 0 = some 0 ∧
    en.issuing = { en with checked := true }

/-- LD.BOX from entry 1 to entry 2 and ST.BOX from entry 2 to entry 1. -/
def loadBox : Entry := entryOf (1 <<< 36 + 2 <<< 45) 0 0 0
def storeBox : Entry := entryOf (2 <<< 36 + 1 <<< 45) 0 0 0

theorem no_blocks {b : Block} {c k d : Nat} {store : Bool} : BlocksReached b c k d store [] := fun _ h => absurd h List.not_mem_nil

theorem wit_box_stands (store : Bool) :
    let en := if store then storeBox else loadBox
    let b := begun store en [(1, ledVec), (2, vecAt 0)]
    let src := if store then vecAt 0 else ledVec
    let dst := if store then ledVec else vecAt 0
    xferDue store 0 en [(1, ledVec), (2, vecAt 0)] ∧
      XferStands b 0 0 store 0 en.issuing (boxXfer b 0 store en.issuing src dst (vecAt 0) ledVec) ∧
      b.xferReady 0 0 0 store (boxXfer b 0 store en.issuing src dst (vecAt 0) ledVec) := by
  intro en b src dst
  refine ⟨by cases store <;> decide +kernel, ⟨src, dst, vecAt 0, ledVec, ?_, rfl⟩, ?_⟩
  · exact
      { source := by unfold Names; cases store <;> decide +kernel
        dest := by unfold Names; cases store <;> decide +kernel
        nearSide := by cases store <;> rfl
        farSide := by cases store <;> rfl
        own := by unfold OwnTensor; decide
        target := fun _ => by decide
        reaches := by unfold FarTensor; cases store <;> decide +kernel
        formats := .inl (by cases store <;> decide)
        bytes := by cases store <;> decide
        ranks := by decide
        exchange := fun h => absurd h (by cases store <;> decide)
        nearRuns := fun h => absurd h (by cases store <;> decide)
        farRuns := fun h => absurd h (by cases store <;> decide)
        inBounds := by cases store <;> decide +kernel
        windows := fun h => absurd h (by decide)
        blocks := fun h => absurd h (by decide) }
  · unfold Block.xferReady
    cases store <;> decide +kernel

/-- The same of a 1 × 1 matrix, transposed. -/
def ledMat : Nat := 0x425 + 64 <<< 128 + 32 <<< 180

theorem wit_box_transposed (store : Bool) :
    let en := entryOf (if store then 2 <<< 36 + 1 <<< 45 + 1 <<< 54 else 1 <<< 36 + 2 <<< 45 + 1 <<< 54) 0 0 0
    let b := begun store en [(1, ledMat), (2, matAt 0)]
    let src := if store then matAt 0 else ledMat
    let dst := if store then ledMat else matAt 0
    xferDue store 0 en [(1, ledMat), (2, matAt 0)] ∧ en.f0 54 54 = 1 ∧
      XferStands b 0 0 store 0 en.issuing (boxXfer b 0 store en.issuing src dst (matAt 0) ledMat) := by
  intro en b src dst
  refine ⟨by cases store <;> decide +kernel, by cases store <;> decide, src, dst, matAt 0, ledMat, ?_, rfl⟩
  exact
    { source := by unfold Names; cases store <;> decide +kernel
      dest := by unfold Names; cases store <;> decide +kernel
      nearSide := by cases store <;> rfl
      farSide := by cases store <;> rfl
      own := by unfold OwnTensor; decide
      target := fun _ => by decide
      reaches := by unfold FarTensor; cases store <;> decide +kernel
      formats := .inl (by cases store <;> decide)
      bytes := by cases store <;> decide
      ranks := by decide
      exchange := by cases store <;> decide +kernel
      nearRuns := fun _ => by
        refine ⟨by decide, fun i h1 h2 => ?_⟩
        have h3 : dRank (matAt 0) = 2 := by decide
        obtain rfl : i = 1 := by omega
        decide
      farRuns := fun _ r hr x hx p a named hp hs => by
        have h : ∀ r ∈ boxRuns (matAt 0) en.issuing.start (vSizes (matAt 0)) true, ∀ x ∈ r,
            (match b.farPlace 0 ledMat (b.ownerTable ledMat) store x.2 with
             | .ok p => (match p.start with | some (a, _) => decide (a % 32 = 0) | none => true)
             | .error _ => true) = true := by
          cases store <;> decide +kernel
        have h := h r hr x (List.mem_of_mem_head? hx)
        simpa only [hp, hs, decide_eq_true_eq] using h
      inBounds := by cases store <;> decide +kernel
      windows := fun h => absurd h (by decide)
      blocks := fun h => absurd h (by decide) }

/-- LD.INDEX or ST.INDEX of the two vectors, by the index at 64. -/
theorem wit_index_stands (store : Bool) :
    let en := entryOf (if store then 2 + 2 <<< 36 + 1 <<< 45 else 2 + 1 <<< 36 + 2 <<< 45) 64 0 0
    let b := begun store en [(1, ledVec), (2, vecAt 0)]
    let src := if store then vecAt 0 else ledVec
    let dst := if store then ledVec else vecAt 0
    xferDue store 2 en [(1, ledVec), (2, vecAt 0)] ∧
      XferStands b 0 0 store 2 en.issuing (indexXfer b 0 store en.issuing src dst (vecAt 0) ledVec) ∧
      b.xferReady 0 0 0 store (indexXfer b 0 store en.issuing src dst (vecAt 0) ledVec) := by
  intro en b src dst
  refine ⟨by cases store <;> decide +kernel, ⟨src, dst, vecAt 0, ledVec, ?_, rfl⟩, ?_⟩
  · exact
      { source := by unfold Names; cases store <;> decide +kernel
        dest := by unfold Names; cases store <;> decide +kernel
        nearSide := by cases store <;> rfl
        farSide := by cases store <;> rfl
        own := by unfold OwnTensor; decide
        target := fun _ => by decide
        reaches := by unfold FarTensor; cases store <;> decide +kernel
        formats := .inl (by cases store <;> decide)
        bytes := fun h => absurd h (by decide)
        ranks := by decide
        dimension := by cases store <;> decide +kernel
        aligned := by cases store <;> decide +kernel
        within := by cases store <;> decide +kernel
        inBounds := fun _ i h1 h2 => by
          have h3 : vRank (vecAt 0) = 1 := by decide
          have h4 : en.issuing.f0 55 54 = 0 := by cases store <;> decide +kernel
          omega
        windows := fun h => absurd h (by decide)
        blocks := by
          rw [show ownersOf (b.ownerTable ledVec) (allBlocks ledVec) = [] by cases store <;> decide +kernel]
          exact no_blocks }
  · unfold Block.xferReady
    cases store <;> decide +kernel

/-- LD.GATHER or ST.SCATTER of one block of one element at 0, by the list at 64. -/
theorem wit_list_stands (store : Bool) :
    let en := entryOf (1 + 1 <<< 36) (64 <<< 26) 0 0
    let b := begun store en [(1, ledVec)]
    xferDue store 1 en [(1, ledVec)] ∧ XferStands b 0 0 store 1 en.issuing (listXfer b 0 store en.issuing ledVec) ∧
      b.xferReady 0 0 0 store (listXfer b 0 store en.issuing ledVec) := by
  intro en b
  refine ⟨by cases store <;> decide +kernel, ⟨ledVec, ?_, rfl⟩, ?_⟩
  · exact
      { tensor := by unfold Names; cases store <;> decide +kernel
        reaches := by unfold FarTensor; cases store <;> decide +kernel
        fits := by decide +kernel
        flat := by decide +kernel
        aligned := by decide +kernel
        listAligned := by decide +kernel
        listWithin := by decide +kernel
        windows := fun h => absurd h (by decide)
        blocks := by
          rw [show ownersOf (b.ownerTable ledVec) (allBlocks ledVec) = [] by cases store <;> decide +kernel]
          exact no_blocks }
  · unfold Block.xferReady
    cases store <;> decide +kernel

/-- The 8,192 × 8,192 NB4 projection of 03_tensor_layout.md, and the key cache. -/
def projection : Nat := 7 + 1 <<< 4 + 1 <<< 10 + 8191 <<< 16 + 8191 <<< 38 + 4 <<< 108 + 0xFFFF <<< 128 + 15 <<< 148 +
  63 <<< 160 + 1 <<< 181 + 1 <<< 194 + 1 <<< 207
def keyCache : Nat := 3 + 1 <<< 4 + 1 <<< 10 + 1023 <<< 16 + 1048575 <<< 38 + 1 <<< 112 + 0xFFFF <<< 128 + 15 <<< 148 +
  255 <<< 160 + 8 <<< 181

theorem wit_scale_stands (store : Bool) :
    let en := entryOf (4 + 1 <<< 36) 0 0 0
    let b := begun store en [(1, projection)]
    xferDue store 4 en [(1, projection)] ∧ XferStands b 0 0 store 4 en.issuing (scaleXfer 0 store en.issuing projection) ∧
      b.xferReady 0 0 0 store (scaleXfer 0 store en.issuing projection) :=
  ⟨by cases store <;> decide +kernel, ⟨projection, ⟨by unfold Names; cases store <;> decide +kernel, by decide, by decide, by decide, by decide +kernel, by decide +kernel,
    by decide +kernel⟩, rfl⟩, fun h => absurd h (by simp [scaleXfer, bytePlan]), fun _ h => absurd h (by simp [scaleXfer, bytePlan, Conv.draws])⟩

theorem wit_import_stands :
    let en := entryOf (5 + 1 <<< 36) 0 0 0
    let b := begun true en [(1, keyCache)]
    xferDue true 5 en [(1, keyCache)] ∧ XferStands b 0 0 true 5 en.issuing (importXfer 0 en.issuing keyCache) ∧
      b.xferReady 0 0 0 true (importXfer 0 en.issuing keyCache) :=
  ⟨by decide +kernel, ⟨keyCache, ⟨by unfold Names; decide +kernel, by decide, by decide, by decide +kernel, by decide +kernel, by decide +kernel,
    by decide +kernel⟩, rfl⟩, fun h => absurd h (by simp [importXfer, bytePlan]), fun _ h => absurd h (by simp [importXfer, bytePlan, Conv.draws])⟩

/-- A stochastic store behind one of the same lane that has still to draw, and a store to the block of another module
with no key. -/
def shared : Nat := 0x45 + 64 <<< 150
def drawing : Entry := entryOf (2 + 1 <<< 56) 0 0 0

theorem wit_transfer_waits :
    (let en := entryOf (2 <<< 36 + 1 <<< 45 + 1 <<< 55) 0 0 0
     let b : Block := withDesc 5 0 [{ drawing with stage := .issued, left := 1, descs := [2#256, 5#256] }, en] [(1, ledVec), (2, 2)]
     let b1 := b.issuing (qKey 0 5 0) 1 en
     issueNow b 0 5 0 0x00 16 noUses 1 en ∧ b1.drawing 0 0 = true ∧
       (b1.boxPlan 0 true en.issuing).toOption.map (fun x => (x.peer, x.conv.draws)) = some (false, true)) ∧
    (let en := entryOf (2 <<< 36 + 1 <<< 45) 0 0 0
     let b : Block := { withDesc 5 0 [en] [(1, shared), (2, vecAt 0)] with ledger := [(64, 2#8)] }
     let b1 := b.issuing (qKey 0 5 0) 0 en
     issueNow b 0 5 0 0x00 16 noUses 0 en ∧ b1.jobKeyFault 0 = some 0 ∧
       (b1.boxPlan 0 true en.issuing).toOption.map (fun x => (x.peer, x.conv.draws)) = some (true, false)) := by
  decide +kernel


/-- Core 0 with an entry at the head of engine e's normal queue and the given descriptors, as the effect of that entry begins. -/
def begins (e : Nat) (en : Entry) (ds : List (Nat × Nat)) : Block := (withDesc e 0 [en] ds).issuing (qKey 0 e 0) 0 en

theorem runs32_vec (a : Nat) (h : dBase (vecAt a) % 32 = 0) (h1 : dRank (vecAt a) = 1) : Runs32 (vecAt a) :=
  ⟨h, fun i h2 h3 => by omega⟩

theorem empty_stages (bNamed : Bool) (n : Nat) (h : bNamed = false) : StagesStand 0 0 bNamed n where
  tail := by decide
  sfu := by decide
  slot := fun h => absurd rfl h
  sels := by decide
  named := by subst h; decide
  one := by decide
  even := fun h => absurd h (by decide)

/-- A V.CHAIN and a V.REDUCE of entry 1 into entry 2 with no stage, a V.PERM by the index at 128, a V.PACK and a V.UNPACK
with their scale records at 128. -/
def chain (op : Nat) : Entry := entryOf (op + 1 <<< 36 + 2 <<< 54) 0 0 0
def vecs : List (Nat × Nat) := [(1, vecAt 0), (2, vecAt 64)]
def nbVec (a : Nat) : Nat := 7 + a <<< 128

theorem wit_chain_stands (red : Bool) :
    let op := b2n red
    let en := chain op
    let b := begins 1 en vecs
    issueNow (withDesc 1 0 [en] vecs) 0 1 0 op 64 noUses 0 en ∧
      ChainStands b 0 0 red en.issuing (some (vecAt 0)) none (vecAt 64) := by
  intro op en b
  refine ⟨by cases red <;> decide +kernel, ?_⟩
  exact
    { opA := .inr ⟨by cases red <;> decide +kernel, vecAt 0, rfl, by unfold Names; cases red <;> decide +kernel⟩
      opB := .inl ⟨by cases red <;> decide +kernel, rfl⟩
      opY := by unfold Names; cases red <;> decide +kernel
      needed := fun _ => rfl
      own := by unfold OwnTensor; decide
      target := by decide
      cf := by cases red <;> decide +kernel
      formats := by decide
      index := by cases red <;> decide +kernel
      aligned := fun d h => by
        simp only [Option.toList, List.append_nil, List.cons_append, List.nil_append, List.mem_cons, List.not_mem_nil, or_false] at h
        rcases h with rfl | rfl <;> exact runs32_vec _ (by decide) (by decide)
      shapeA := fun _ d h => by cases h; decide
      shapeB := fun d h => by cases h
      shapeY := by cases red <;> decide +kernel
      stages := by
        rw [show en.issuing.w2.toNat = 0 by cases red <;> decide +kernel, show en.issuing.fn = 0 by cases red <;> decide +kernel]
        exact empty_stages _ _ rfl
      slot := fun h => absurd h (by cases red <;> decide +kernel)
      apart := fun d h => by
        have h : d = vecAt 0 := by
          rcases h with h | h
          · cases h; rfl
          · cases h
        subst h
        exact fun h => absurd h (by decide)
      urgent := fun h => absurd h (by decide) }

theorem two_tensors {b : Block} {en : Entry} {a y : Nat} (opA : Names b 0 en.hA a) (opY : Names b 0 en.hY y)
    (h : dSpace a = 0 ∧ dCore a = 0 ∧ dSpace y = 0 ∧ dCore y = 0 ∧ dWindow y = false ∧ dBase a % 32 = 0 ∧ dBase y % 32 = 0 ∧
      dRank a = 1 ∧ dRank y = 1 ∧ overlaps a y = false) : TwoTensors b 0 0 en a y := by
  obtain ⟨h1, h2, h3, h4, h5, h6, h7, h8, h9, h10⟩ := h
  exact ⟨opA, opY, ⟨h1, h2⟩, ⟨h3, h4⟩, h5, ⟨h6, fun i h1 h2 => by omega⟩, ⟨h7, fun i h1 h2 => by omega⟩, h10,
    fun h => absurd h (by decide)⟩

theorem wit_perm_and_shuf :
    (let en := entryOf (2 + 1 <<< 36 + 2 <<< 54) 128 0 0
     let b := begins 1 en vecs
     issueNow (withDesc 1 0 [en] vecs) 0 1 0 0x02 64 noUses 0 en ∧ PermStands b 0 0 en.issuing (vecAt 0) (vecAt 64)) ∧
    (let b := begins 1 shuffle vecs
     ShufStands b 0 0 shuffle.issuing (vecAt 0) (vecAt 64)) := by
  refine ⟨⟨by decide +kernel, ?_⟩, ?_⟩
  · exact
      { toTwoTensors := two_tensors (by unfold Names; decide +kernel) (by unfold Names; decide +kernel) (by decide)
        formats := by decide
        aligned := by decide +kernel
        shapes := by decide
        fits := by decide +kernel
        clear := by decide +kernel
        inBounds := by decide +kernel }
  · exact
      { toTwoTensors := two_tensors (by unfold Names; decide +kernel) (by unfold Names; decide +kernel) (by decide)
        formats := by decide
        shapes := by decide
        groups := by decide +kernel
        amount := by decide +kernel }

theorem wit_pack_stands (pack : Bool) :
    let op := if pack then 4 else 5
    let a := if pack then vecAt 0 else nbVec 0
    let y := if pack then nbVec 64 else vecAt 64
    let en := entryOf (op + 1 <<< 36 + 2 <<< 54) 128 0 0
    let b := begins 1 en [(1, a), (2, y)]
    issueNow (withDesc 1 0 [en] [(1, a), (2, y)]) 0 1 0 op 64 noUses 0 en ∧ PackStands b 0 0 pack en.issuing a y := by
  intro op a y en b
  refine ⟨by cases pack <;> decide +kernel, ?_⟩
  exact
    { toTwoTensors := two_tensors (by unfold Names; cases pack <;> decide +kernel) (by unfold Names; cases pack <;> decide +kernel)
        (by cases pack <;> decide +kernel)
      formats := by cases pack <;> decide
      aligned := by cases pack <;> decide +kernel
      shapes := by cases pack <;> decide
      fits := by cases pack <;> decide +kernel
      clear := by cases pack <;> decide +kernel }

theorem wit_mat_mul_stands :
    let ds := [(1, matAt 0), (2, matAt 64), (3, matAt 128)]
    let b := begins 2 multiply ds
    issueNow (withDesc 2 0 [multiply] ds) 0 2 0 0x00 1 noUses 0 multiply ∧
      ∃ x : MatMul, MatMulStands b 0 0 multiply.issuing x := by
  intro ds b
  refine ⟨by decide +kernel, ⟨matAt 0, matAt 64, matAt 128, none, 0, false, 0⟩, ?_⟩
  have runs : ∀ d ∈ [matAt 0, matAt 64, matAt 128], Runs32 d := fun d hd => by
    have h : ∀ d ∈ [matAt 0, matAt 64, matAt 128], dBase d % 32 = 0 ∧ dRank d = 2 ∧
      dStride d 1 % 32 = 0 := by decide
    obtain ⟨h1, h2, h3⟩ := h d hd
    refine ⟨h1, fun i h4 h5 => ?_⟩
    obtain rfl : i = 1 := by omega
    exact h3
  exact
    { opA := by unfold Names; decide +kernel
      opB := by unfold Names; decide +kernel
      opY := by unfold Names; decide +kernel
      opC := .inr (by decide +kernel)
      fields := by decide +kernel
      own := fun d hd => ⟨by revert d; unfold OwnTensor; decide, by revert d; decide, runs d (by simpa using hd)⟩
      formats := by decide +kernel
      records := fun d h => absurd h (by revert d; decide +kernel)
      noRecords := fun _ => by decide +kernel
      ranks := by decide
      inner := by decide
      outer := by decide
      rows := by decide
      bias := fun d h => by cases h
      apart := by decide
      urgent := fun h => absurd h (by decide) }


/-- A striped INT8 matrix of one element in DRAM, an INT8 cache of one record of 128 elements, and the scratchpad operands
of the bank operations: at `a`, of a format, a rank and a size of dimension 0. -/
def dramMatrix : Nat := dramTensor + 1 <<< 10
def dramCache : Nat := 5 + 1 <<< 4 + 1 <<< 10 + 127 <<< 16 + 1 <<< 112 + 1 <<< 128 + 2 <<< 181
def spTensor (fmt rank n a : Nat) : Nat := fmt + (rank - 1) <<< 10 + (n - 1) <<< 16 + a <<< 128
def bankEntry (op : Nat) : Entry := entryOf (op + 1 <<< 36 + 2 <<< 45 + 3 <<< 54) 0x1000 0 0

theorem names_of {b : Block} {c h d : Nat} (x : (b.desc? c h).map BitVec.toNat = some d) : Names b c h d := x

/-- What a bank entry stands under: it is due and its lane is not fenced. -/
abbrev bankDue (en : Entry) (ds : List (Nat × Nat)) (o : BankOp) : Prop :=
  issueNow (withDesc 3 0 [en] ds) 0 3 0 en.opcode 65536 noUses 0 en ∧ (withDesc 3 0 [en] ds).fenced 0 0 = false ∧
    (withDesc 3 0 [en] ds).ticketsOf 0 < 4032 ∧ (withDesc 3 0 [en] ds).op? 0 = none ∧
    (begins 3 en ds).unrespBank o = none

theorem sized1 {d a : Nat} (h : vRank d = 1 ∧ vSize d 0 = a) : Sized d [a] := by
  refine ⟨h.1, fun i n hi => ?_⟩
  cases i with
  | zero => cases hi; exact h.2
  | succ i => cases hi

theorem sized2 {d a b : Nat} (h : vRank d = 2 ∧ vSize d 0 = a ∧ vSize d 1 = b) : Sized d [a, b] := by
  refine ⟨h.1, fun i n hi => ?_⟩
  match i, hi with
  | 0, hi => cases hi; exact h.2.1
  | 1, hi => cases hi; exact h.2.2

theorem sized3 {d a b c : Nat} (h : vRank d = 3 ∧ vSize d 0 = a ∧ vSize d 1 = b ∧ vSize d 2 = c) : Sized d [a, b, c] := by
  refine ⟨h.1, fun i n hi => ?_⟩
  match i, hi with
  | 0, hi => cases hi; exact h.2.1
  | 1, hi => cases hi; exact h.2.2.1
  | 2, hi => cases hi; exact h.2.2.2

theorem wit_gemv_stands :
    let x := spTensor 1 2 1 0
    let y := spTensor 0 2 1 64
    let ds := [(1, dramMatrix), (2, x), (3, y)]
    let o := bankOp 0 0 (bankEntry 0x80).issuing dramMatrix none x y
    bankDue (bankEntry 0x80) ds o ∧ BankStands (begins 3 (bankEntry 0x80) ds) 0 0 0x80 (bankEntry 0x80).issuing o := by
  intro x y ds o
  refine ⟨by decide +kernel, dramMatrix, x, y, ?_, rfl⟩
  exact
    { opW := names_of (by decide +kernel)
      opX := names_of (by decide +kernel)
      opY := names_of (by decide +kernel)
      dram := by decide
      ownX := by unfold OwnTensor; decide
      ownY := by unfold OwnTensor; decide
      target := by decide
      formats := by decide
      rank := by decide
      sizes := ⟨sized2 (by decide +kernel), sized2 (by decide +kernel)⟩
      staging := ⟨by decide +kernel, by decide +kernel, by decide +kernel, by decide +kernel⟩
      latch := by decide +kernel
      accs := by decide +kernel
      span := fun h => absurd h (by decide) }

theorem wit_attn_stands (pv : Bool) :
    let op := if pv then 0x82 else 0x81
    let x := if pv then spTensor 1 3 1 0 else spTensor 1 2 128 0
    let y := if pv then spTensor 0 2 128 512 else spTensor 0 3 1 512
    let ds := [(1, dramCache), (2, x), (3, y)]
    let o := bankOp 0 0 (bankEntry op).issuing dramCache none x y
    bankDue (bankEntry op) ds o ∧ BankStands (begins 3 (bankEntry op) ds) 0 0 op (bankEntry op).issuing o := by
  intro op x y ds o
  have stands : AttnStands (begins 3 (bankEntry op) ds) 0 0 pv (bankEntry op).issuing dramCache x y :=
    { opW := names_of (by cases pv <;> decide +kernel)
      opX := names_of (by cases pv <;> decide +kernel)
      opY := names_of (by cases pv <;> decide +kernel)
      dram := by decide
      ownX := by unfold OwnTensor; cases pv <;> decide
      ownY := by unfold OwnTensor; cases pv <;> decide
      target := by cases pv <;> decide
      formats := by cases pv <;> decide
      sizes := by
        cases pv
        · exact ⟨sized2 (by decide +kernel), sized3 (by decide +kernel)⟩
        · exact ⟨sized2 (by decide +kernel), sized3 (by decide +kernel)⟩
      staging := by cases pv <;> exact ⟨by decide +kernel, by decide +kernel, by decide +kernel, by decide +kernel⟩
      positions := by cases pv <;> decide +kernel
      latch := by cases pv <;> decide +kernel
      records := by cases pv <;> decide +kernel
      segments := by cases pv <;> decide +kernel
      span := fun h => absurd h (by decide) }
  refine ⟨by cases pv <;> decide +kernel, ?_⟩
  cases pv <;> exact ⟨dramCache, x, y, stands, rfl⟩

theorem wit_append_stands :
    let en := entryOf (0x83 + 1 <<< 36) 0 0 0
    let ds := [(1, dramCache)]
    let o := bankOp 0 0 en.issuing dramCache none 0 0
    bankDue en ds o ∧ BankStands (begins 3 en ds) 0 0 0x83 en.issuing o := by
  intro en ds o
  refine ⟨by decide +kernel, dramCache, none, ?_, rfl⟩
  exact
    { opK := names_of (by decide +kernel)
      opV := .inl (by decide +kernel)
      home := by decide
      formats := by decide
      key := by decide +kernel
      value := by decide +kernel
      oneSet := fun d h => by cases h
      position := by decide +kernel
      columns := by decide +kernel
      span := fun h => absurd h (by decide) }

theorem wit_util_stands (op : Fin 6) :
    let en := entryOf (0xA0 + op + 1 <<< 36) 0 0 0
    let ds := [(1, dramTensor)]
    let o := { bankOp 0 0 en.issuing dramTensor none 0 0 with rows := en.issuing.utilRows }
    bankDue en ds o ∧ BankStands (begins 3 en ds) 0 0 (0xA0 + op) en.issuing o := by
  intro en ds o
  have stands : UtilStands (begins 3 en ds) 0 0 en.issuing dramTensor :=
    { opT := names_of (by revert op; decide +kernel)
      dram := by decide
      pattern := by revert op; decide +kernel
      rows := by revert op; decide +kernel
      span := fun h => absurd h (by decide) }
  refine ⟨by clear stands; revert op; decide +kernel, ?_⟩
  unfold BankStands
  rw [if_neg (by omega), if_neg (by omega), if_neg (by omega)]
  exact ⟨dramTensor, stands, rfl⟩

/-! ### Further witnesses: words, dies and ports -/

/-- Words of the urgent lane to bank 0 of die 0. -/
def urgentWords : List Instr := [.arm 0 (good 0x50), .feed 0 (good (0x51 + 1 <<< 26)) [0], .run 0 (good 0x52) [] 0,
  .drain 0 (good 0x55), .abort 0 (good 0x56)]

theorem wit_urgent_words : (∀ i ∈ urgentWords, ∃ x, Sends (pillared {}) i x) ∧
    (let b : Block := { pillared {} with pillars := [(0, { arm := some (good 0x50) })] }
     (∃ x, Sends b (.armx 0 (good 0x58)) x) ∧ (b.pillar 0).arm = some (good 0x50)) ∧
    wLane (good 0x58) = 1 ∧ TakesBank (pillared {}) 0 (good 0x58) 0 0 := by
  refine ⟨fun i hi => sends_some ?_, ⟨⟨_, sends_of rfl (by decide +kernel) (by decide +kernel)⟩, by decide +kernel⟩, by decide,
    ⟨?_, ?_, ?_⟩, ?_⟩
  · have h : urgentWords.all (sendsNow (pillared {})) = true := by decide +kernel
    exact List.all_eq_true.mp h i hi
  all_goals decide +kernel

/-- Pillar 0 in step TEST of Dawn. -/
def inTest : Block := { withRegs [(rMc 0x10, 6)] (pillared {}) with life := .dawn }

theorem wit_stest : (∃ x, Sends inTest (.stest 0 (good (0x17 + 4 <<< 26)) true) x) ∧
    TakesBank inTest 0 (good (0x17 + 4 <<< 26)) 0 0 ∧
    (inTest.fld (rMc 0x10) 3 0 = 6 ∧ inTest.life = .dawn ∧ inTest.dieState 0 0 ≠ 1 ∧ (inTest.blu (bankKey 0 0 0)).st = 1) ∧
    ((pillared {}).life ≠ .dawn ∧ ∃ x, Sends (pillared {}) (.stest 0 (good (0x17 + 4 <<< 26)) true) x) := by
  refine ⟨sends_some (by decide +kernel), ⟨⟨?_, ?_, ?_⟩, ?_⟩, ?_, ?_, sends_some (by decide +kernel)⟩
  all_goals decide +kernel

theorem wit_rd_timeout :
    let e : Shadow := { tag := 0, word := good 0x03, data := [], check := 0#32, upto := 0, sel := {} }
    let b : Block := { pillared {} with pillars := [(0, { ring := [e] })] }
    b.pillarOn 0 = true ∧ b.unresp 0 0 = false ∧ (∃ e ∈ (b.pillar 0).ring, wCmd e.word = 0x03 ∧ 0 ∈ wordDies e.word e.sel) := by
  decide +kernel

theorem wit_debt_wakes :
    (let b := withRegs [(rDie 0 0, 32)] (pillared { debt := 3 })
     b.pillarOn 0 = true ∧ b.dieState 0 0 ≠ 5 ∧ 4 ≤ min ((b.blu 0).debt + 1) 8 ∧ b.groupDown 0 0 = true ∧
       b.spareRests 0 0 = false ∧ (b.blu 0).run = none ∧ b.sendsTo 0 0 = true) ∧
    (let u : Blu := { rb0 := some 5, rb0Timer := true, rb1 := some 0 }
     u.timed false = true ∧ u.usesBuf false = false ∧ u.timed true = false ∧
       ({ u with run := some (runOf 0x12 3) } : Blu).usesBuf false = true) := by decide +kernel

/-- The answers of dies of which those that are good read their own identity. -/
def answersOf (good : Nat → Bool) : List DieAnswer :=
  (List.range 17).map (fun d => ⟨if good d then some (BitVec.ofNat 32 (0x5A17 + d <<< 16)) else none, 0#288⟩)

theorem wit_die_answers :
    (∀ g ∈ [fun _ => true, fun _ => false, fun d => d != 16], (answersOf g).length = 17 ∧
      (∀ a ∈ answersOf g, a.readBack = 0#288) ∧
      (∀ d ∈ [0, 15, 16], ((answersOf g)[d]?).any (fun a =>
        a.identity.any (fun w => w.extractLsb' 0 16 == 0x5A17#16 && (w.extractLsb' 16 5).toNat == d)) = g d)) ∧
    ((List.replicate 16 (answersOf (fun _ => true))).length = 16 ∧
      ∀ a ∈ List.replicate 16 (answersOf (fun _ => true)), a.length = 17 ∧ ∀ x ∈ a, x.readBack = 0#288) := by decide +kernel

theorem wit_marked_row :
    let b : Block := { switching 2 0 1 with spareMarks := [(0, [8192 * 3 + 5])] }
    b.pillarOn 0 = true ∧ b.fld (rP 0 0x194) 2 0 = 2 ∧ b.spareMarks.get noMarks 0 = [8192 * 3 + 5] ∧ 8192 * 3 + 5 ≠ allRows ∧
      8192 * 3 + 5 ∈ markedRows (8192 * 3 + 5) := by decide +kernel

/-- What the statement on training asks. -/
abbrev trains (b : Block) (p : Port) (proto gen width : Nat) : Prop := (b.life = .dawn ∨ b.life = .service) ∧
  b.domOn (44 + p.num) = true ∧ (p = .ha ∨ b.bifurcated = true) ∧ width ∈ [1, 2, 4, 8, 16] ∧
  (b.bifurcated = true → width ≤ 8) ∧ 1 ≤ gen ∧ gen ≤ (if proto = 1 ∨ proto = 2 then 5 else 6) ∧
  (proto ≠ 0 → b.fld (rMc 0x10) 3 0 ≠ 10)

theorem wit_training :
    (trains up .ha 3 6 16 ∧ trains up .ha 1 5 16 ∧ ¬trains up .ha 1 6 16 ∧ ¬trains up .hb 3 6 8 ∧
      trains { up with bifurcated := true } .hb 3 6 8) ∧
    (let b : Block := { up with ideKeys := [(0, some ⟨false, false, []⟩)] }
     b.portLive Port.ha.num = true ∧ b.ideSecure Port.ha.num = true) := by
  repeat' apply And.intro
  all_goals decide +kernel

theorem wit_rearm_restarts :
    (∀ l ∈ [[(rEv 0, 0x20)], [(rEv 0, 0x20), (rEv 8, 0)]],
      (beating 1000 3 l).life = .service ∧ (beating 1000 3 l).beat.src = false ∧ (beating 1000 3 l).beat.rearm = 3 ∧
      (beating 1000 3 l).beatLost = true ∧ (beating 1000 3 l).fld (rEv 8) 0 0 = 0) ∧
    ((beating 1000 3 []).beat.lastEdge = some 1000 ∧ 67500 ≤ 1000 + 74999 - 1000 ∧ 1000 + 74999 - 1000 < 75000 ∧
      750000 < 1000 + 750001 - 1000) := by decide +kernel

theorem wit_seed_held :
    let en : Entry := { drawing with stage := .issued, left := 1, descs := [2#256, 5#256] }
    let b := queued 5 0 [en]
    Accepts b .mc (rC 0 0xA08) ∧ drawingPos (b.queue (qKey 0 5 0)) = some 0 ∧ (b.queue (qKey 0 5 0))[0]? = some en ∧
      up.drawing 0 0 = false := by
  refine ⟨accepts_of (by decide), ?_⟩
  decide +kernel

/-- A committed seal whose sections the reader knows is complete. -/
theorem complete_of_committed (x : Seal) (h : x.sections.all (fun y => (sectionLimit y.type).isSome) = true) :
    x.committed.complete = true := by
  obtain ⟨tag, ht⟩ : ∃ t : BitVec 128, Config.sealTag x.image = t := ⟨_, rfl⟩
  obtain ⟨b, hb⟩ : ∃ b, padTo 60 (leBytes 0x4A4E4C43 4 ++ leBytes x.session 8 ++ leBytes x.length 4 ++
    leBytes tag.toNat 16) = b := ⟨_, rfl⟩
  have he : b = leBytes 0x4A4E4C43 4 ++ (leBytes x.session 8 ++ (leBytes x.length 4 ++ (leBytes tag.toNat 16 ++
      List.replicate 28 0#8))) := by
    rw [← hb]
    simp [padTo, leBytes_length]
  have hl : b.length = 60 := by
    rw [he]
    simp [leBytes_length]
  have hc : x.committed.commit = b ++ leBytes (crc32c b).toNat 4 := by
    simp only [Seal.committed, Seal.commitRecord, ht, hb]
  have hi : x.committed.image = x.image := rfl
  have hn : x.committed.length = x.length := rfl
  have hs : x.committed.session = x.session := rfl
  have hx : x.committed.sections = x.sections := rfl
  have crc : (crc32c b).toNat % 256 ^ 4 = (crc32c b).toNat := Nat.mod_eq_of_lt (crc32c b).isLt
  have tagLt : tag.toNat % 256 ^ 16 = tag.toNat := Nat.mod_eq_of_lt tag.isLt
  have h1 : (b ++ leBytes (crc32c b).toNat 4).drop 60 = leBytes (crc32c b).toNat 4 := by rw [← hl, List.drop_left]
  have h2 : (b ++ leBytes (crc32c b).toNat 4).take 60 = b := by rw [← hl, List.take_left]
  have h3 : ∀ (l m r : List Byte) (n : Nat) (k : Nat), n = l.length → k = m.length → ((l ++ (m ++ r)).drop n).take k = m := by
    rintro l m r n k rfl rfl
    rw [List.drop_left, List.take_left]
  have e1 : ((b ++ leBytes (crc32c b).toNat 4).drop 4).take 8 = leBytes x.session 8 := by
    rw [he]; simp only [List.append_assoc]
    exact h3 _ _ _ _ _ (leBytes_length _ _).symm (leBytes_length _ _).symm
  have e2 : ((b ++ leBytes (crc32c b).toNat 4).drop 12).take 4 = leBytes x.length 4 := by
    rw [he, ← List.append_assoc]; simp only [List.append_assoc]
    rw [← List.append_assoc]
    exact h3 _ _ _ _ _ (by simp [leBytes_length]) (leBytes_length _ _).symm
  have e3 : ((b ++ leBytes (crc32c b).toNat 4).drop 16).take 16 = leBytes tag.toNat 16 := by
    rw [he]; simp only [List.append_assoc]
    rw [← List.append_assoc, ← List.append_assoc]
    exact h3 _ _ _ _ _ (by simp [leBytes_length]) (leBytes_length _ _).symm
  simp only [Seal.complete, hc, hi, hn, hs, hx, ht, h1, h2, e1, e2, e3, ofBytes_leBytes, crc, tagLt, h, List.length_append, hl,
    leBytes_length]
  simp

theorem wit_complete_seal : (bareSeal 0).committed.complete = true ∧ (bareSeal 0).complete = false ∧
    (let b : Block := { inStep 2 with seals := [(1, some (bareSeal 0).committed)] }
     b.seals.get noSeal 1 = some (bareSeal 0).committed ∧ b.seals.get noSeal 0 = none ∧
       (bareSeal 0).committed.session = b.rn (rJr 0x90)) :=
  ⟨complete_of_committed _ rfl, by rfl, rfl, rfl, by decide⟩

/-! ### Tests from the spec's worked examples, and small steps worked by hand from its rules -/

/-- What a command leaves behind, if it answers a next state. -/
def after (i : Instr) (b : Block) : Option Block :=
  match exec i ⟨[], b⟩ with
  | .next s => some s.block
  | _ => none

/-- 00_scope.md: bank 37 of die 9 of pillar 6 has global bank ID 26,917. -/
theorem test_bank_id : (up.physBank 26917).1 = 6 ∧ (up.physBank 26917).2.1 = 9 ∧ (up.physBank 26917).2.2 = 37 := by decide

/-- 02_numeric_formats.md: the NB4 block of 0.30, -0.75, 1.40, 0.05, -1.20, 0.00, 0.62, -0.18 and zeros has scale byte 0x25 and
the nibbles 1, C, 7, 0, A, 0, 3, F. -/
theorem test_nb4_block :
    let xs := [0x3E99999A, 0xBF400000, 0x3FB33333, 0x3D4CCCCD, 0xBF99999A, 0, 0x3F1EB852, 0xBE3851EC] ++ List.replicate 56 0
    let q := nb4Quantise (xs.map Fmt.fp32.decode) (Fmt.fp32.decode 0x3F800000)
    q.scale = 0x25 ∧ q.q.take 8 = [1, 0xC, 7, 0, 0xA, 0, 3, 0xF] := by decide +kernel

/-- 03_tensor_layout.md: column 40 of 32 rows of 1,024 bytes takes each scratchpad bank once under XOR-32, and bank 2
alone without it. -/
theorem test_swizzle : (List.range 32).map (fun r => bits (swizzle 1 (0x100000 + 1024 * r + 80)) 9 5) =
    (List.range 32).map (fun r => 2 ^^^ r) ∧ bits (swizzle 0 (0x100000 + 1024 * 31 + 80)) 9 5 = 2 := by decide

/-- 03_tensor_layout.md: the causal convolution of four taps over six positions has six windows. -/
theorem test_windows : dNW (1 <<< 10 + 5 <<< 38 + 4 <<< 108 + 1 <<< 122) = 6 ∧ dPad (1 <<< 10 + 5 <<< 38 + 4 <<< 108 + 1 <<< 122) = 3 := by
  decide +kernel

/-- 03_tensor_layout.md: element (5,000, 3,000) of the 8,192 × 8,192 NB4 projection. -/
theorem test_striped :
    let d := 7 + 1 <<< 4 + 1 <<< 10 + 8191 <<< 16 + 8191 <<< 38 + 4 <<< 108 + 0xFFFF <<< 128 + 15 <<< 148 + 63 <<< 160 +
      1 <<< 181 + 1 <<< 194 + 1 <<< 207
    dRegionOf d [5000, 3000] = 6003 ∧ dMember d 6003 = 23859 ∧ (dPlace d [5000, 3000]).byte = 1092 ∧
      (dPlace d [5000, 3000]).hi = false ∧ (dPlace d [5000, 3000]).row = 0 := by decide +kernel

/-- 03_tensor_layout.md: position 1,000,000 of the key cache of 1,024-byte records over all 65,536 banks. -/
theorem test_home :
    let d := 3 + 1 <<< 4 + 1 <<< 10 + 1023 <<< 16 + 1048575 <<< 38 + 1 <<< 112 + 0xFFFF <<< 128 + 15 <<< 148 + 255 <<< 160 +
      8 <<< 181
    (dPlace d [0, 1000000]).member = 16960 ∧ dMember d 16960 = 0x4240 ∧ (dPlace d [0, 1000000]).row = 7 ∧
      (dPlace d [0, 1000000]).byte = 1024 := by decide +kernel

/-- 06_bundles_and_queues.md: the words of the BV_QK of item 8,000 spell its fields. -/
theorem test_bvqk_words :
    let en := entryOf 0x1048021002400B81 0x00C0000001800000 0x000003FFFFC00000 0
    en.opcode = 0x81 ∧ en.sige = true ∧ en.sig = 5 ∧ en.waite = true ∧ en.waitc = 4 ∧ en.bW = 0x21 ∧ en.bX = 0x40 ∧
      en.bY = 0x41 ∧ en.bStg = 0x1800000 ∧ en.bV = 1 ∧ en.bS = 8 ∧ en.bP0 = 0 ∧ en.bPc = 1048576 := by decide +kernel

/-- R182: S_ADDI wraps at 64 bits, in place; S_SUB reads both operands before it writes one of them. -/
theorem test_addi_wraps :
    let en := entryOf (0x10 + 5 <<< 36 + 5 <<< 41) 2 0 0
    (after (.sAddi 0 .normal) (withRegs [(rC 0 0xD28, 0xFFFFFFFFFFFFFFFF)] (queued 0 0 [en]))).map (fun b => b.sreg 0 5) =
      some 1#64 := by decide +kernel

theorem test_sub_in_place :
    let en := entryOf (0x01 + 5 <<< 36 + 6 <<< 41 + 5 <<< 46) 0 0 0
    (after (.sSub 0 .normal) (withRegs [(rC 0 0xD28, 3), (rC 0 0xD30, 10)] (queued 0 0 [en]))).map (fun b => b.sreg 0 5) =
      some 7#64 := by decide +kernel

/-- R183: a signed byte load extends its sign. -/
theorem test_load_extends :
    let en := entryOf (0x20 + 3 <<< 36 + 1 <<< 48) 64 0 0
    (after (.sLd 0 .normal) { queued 0 0 [en] with scratch := [(64, 0x80#8)] }).map (fun b => b.sreg 0 3) =
      some 0xFFFFFFFFFFFFFF80#64 := by decide +kernel

/-- R266: a signal that fills CAP is delivered, and one more faults. -/
theorem test_signal_cap :
    (after (.ySignal 0 .normal) (syncing (sync 0 5 9) [(rCtr 5, 65526)])).map (fun b => b.ctrValue 5) = some 65535 ∧
    (after (.ySignal 0 .normal) (syncing (sync 0 5 9) [(rCtr 5, 65527)])).map
      (fun b => (b.ctrValue 5, b.rn (rSy 0x10008), b.rn (rC 0 0xC))) = some (65527, 1, 1) := by decide +kernel

/-- R274: the last of two parties ends the round. -/
theorem test_barrier_flips :
    (after (.yBar 0 .normal) (syncing (sync 3 5 1) [(rCtr 5, 1 <<< 16), (rCtr 5 + 4, 1 + 2 <<< 17)])).map
      (fun b => (b.ctrArrived 5, b.ctrSense 5)) = some (0, true) := by decide +kernel

/-- R455: SLT compares signed numbers and SLTU unsigned ones; a taken branch counts from its own address. -/
theorem test_slt :
    let w := fun op => op + 2 <<< 8 + 1 <<< 18
    (after (.seqSlt 0) (seqOn (w 0x09) [(rQ 0 0x20, 0xFFFFFFFF), (rQ 0 0x24, 1)])).map (fun b => b.seqReg 0 2) = some 1#32 ∧
    (after (.seqSltu 0) (seqOn (w 0x0A) [(rQ 0 0x20, 0xFFFFFFFF), (rQ 0 0x24, 1)])).map (fun b => b.seqReg 0 2) = some 0#32 := by
  decide +kernel

/-- R174: a STOP makes a RUNNING core HELD. -/
theorem test_stop : (after (.coreStop .mc 0) up).map (fun b => b.fld (rC 0 4) 1 0) = some 2 := by decide +kernel

/-- R381, R505: a supply of 39,999 mV is low and one of 40,000 mV is not. -/
theorem test_supply_low : (after (.vinLowChange true 39999) up).map (fun b => (b.fld (rEv 0) 8 8, b.rn (rEv 0xA4))) =
    some (1, 39999) := by decide +kernel

end Sys2Proof.Tests
end

/-!
The host interface (12_host_interface.md): opening and closing a ring (R325-R327) and the writes of its cursors CTAIL and
RREL (R334, R338).
-/
namespace Sys2Proof.Machine

/-! ### Registers and tables read after an update -/

/-- A key of a dropped range reads as the default again. -/
theorem Tab.get_dropRange_same {α : Type} (d : Nat → α) {lo hi j : Nat} (hj : lo ≤ j ∧ j < hi) :
    ∀ t : Tab α, (t.dropRange lo hi).get d j = d j
  | [] => rfl
  | (k, v) :: t => by
    have ih := Tab.get_dropRange_same d hj t
    unfold Tab.dropRange at ih ⊢
    rw [List.filter_cons]
    split
    · next kept =>
      have hk : j ≠ k := by
        rintro rfl
        simp [hj] at kept
      rwa [Tab.get, if_neg hk]
    · exact ih

theorem Block.rn_setRn_same (b : Block) (a : Nat) {n : Nat} (h : n < 2 ^ 64) : (b.setRn a n).rn a = n := by
  rw [Block.rn, Block.setRn, Block.reg_setReg_same, BitVec.toNat_ofNat, Nat.mod_eq_of_lt h]

theorem Block.rn_setRn_other (b : Block) {a j : Nat} (n : Nat) (h : j ≠ a) : (b.setRn a n).rn j = b.rn j := by
  rw [Block.rn, Block.setRn, Block.reg_setReg_other _ _ h, Block.rn]

/-- What keeps the registers as data keeps what each of them reads. -/
theorem Block.rn_of_regs {b b' : Block} (h : b'.regs = b.regs) (a : Nat) : b'.rn a = b.rn a := by
  simp only [Block.rn, Block.reg, h]

theorem Block.rn_lt (b : Block) (a : Nat) : b.rn a < 2 ^ 64 := (b.reg a).isLt

/-- Registers set to 0 one after another read as 0, and every other one as before. -/
theorem Block.rn_zeroed (j : Nat) : ∀ (l : List Nat) (b : Block),
    (l.foldl (fun s a => s.setRn a 0) b).rn j = if j ∈ l then 0 else b.rn j
  | [], b => by simp
  | a :: l, b => by
    rw [List.foldl_cons, Block.rn_zeroed j l]
    by_cases hl : j ∈ l
    · simp [hl]
    · by_cases ha : j = a
      · subst ha
        simp [hl, Block.rn_setRn_same]
      · simp [hl, ha, Block.rn_setRn_other]

theorem Block.zeroed_frame : ∀ (l : List Nat) (b : Block),
    ∃ regs, l.foldl (fun s a => s.setRn a 0) b = { b with regs := regs }
  | [], b => ⟨b.regs, rfl⟩
  | a :: l, b => by
    obtain ⟨regs, h⟩ := Block.zeroed_frame l (b.setRn a 0)
    exact ⟨regs, h⟩

/-- Replacing bit 0 of a number gives it the lowest bit of what is written. -/
theorem bit_putBits_zero (x v : Nat) : bit (putBits x 0 0 v % 2 ^ 64) 0 = (v % 2 == 1) := by
  have h : putBits x 0 0 v % 2 ^ 64 % 2 = v % 2 := by
    simp only [putBits, Nat.shiftLeft_eq]
    omega
  rw [bit, Nat.shiftRight_zero, h]

/-- A Ledger range set to 0 reads as 0, and every other byte as before. -/
theorem Block.ledger_ledZero (b : Block) (x n a : Nat) : (b.ledZero x n).ledger.get byteZero a =
    if x ≤ a ∧ a < x + n then 0#8 else b.ledger.get byteZero a := by
  split
  · next h => exact Tab.get_dropRange_same byteZero h b.ledger
  · next h => exact Tab.get_dropRange_other byteZero _ _ _ h b.ledger

/-! ### A register write as its command -/

/-- A command that is one guarded register write which nothing stands against leaves what the register's own rule makes
of the block, or the refusal where the rule has none (R7). -/
theorem gives_guarded {i : Instr} {b : Block} {r : Requester} {a v : Nat} {act : Block → Option Block}
    (hi : ∀ s, exec i s = s.act fun s => .next (s.guarded r a v act)) (h : Accepts b r a) :
    Gives i b ((act (b.dropHeld r)).getD ((b.dropHeld r).writeReject a v)) := by
  intro q
  rw [hi]
  simp only [State.act, guarded_ok v act h]

/-- RCTL.OPEN alone tries to open the ring. -/
theorem Block.writeRctl_open (b : Block) (n : Nat) : b.writeRctl n 1 = some (b.tryOpen n) := rfl

/-- RCTL.CLOSE alone tries to close it. -/
theorem Block.writeRctl_close (b : Block) (n : Nat) : b.writeRctl n 2 = b.tryClose n := rfl

theorem gives_ringOpen {b : Block} {r : Requester} {n : RingId} (h : Accepts b r (rRing n 4)) :
    Gives (.ringOpen r n) b ((b.dropHeld r).tryOpen n) :=
  gives_guarded (act := fun s => s.writeRctl n 1) (fun _ => rfl) h

theorem gives_ringClose {b : Block} {r : Requester} {n : RingId} (h : Accepts b r (rRing n 4)) :
    Gives (.ringClose r n) b (((b.dropHeld r).tryClose n).getD ((b.dropHeld r).writeReject (rRing n 4) 2)) :=
  gives_guarded (act := fun s => s.writeRctl n 2) (fun _ => rfl) h

theorem gives_ctailWrite {b : Block} {r : Requester} {n : RingId} (v : BitVec 32) (h : Accepts b r (rRing n 0x18)) :
    Gives (.ctailWrite r n v) b (((b.dropHeld r).writeCtail n v.toNat).getD
      ((b.dropHeld r).writeReject (rRing n 0x18) v.toNat)) :=
  gives_guarded (act := fun s => s.writeCtail n v.toNat) (fun _ => rfl) h

theorem gives_rrelWrite {b : Block} {r : Requester} {n : RingId} (v : BitVec 32) (h : Accepts b r (rRing n 0x28)) :
    Gives (.rrelWrite r n v) b (((b.dropHeld r).writeRrel n v.toNat).getD
      ((b.dropHeld r).writeReject (rRing n 0x28) v.toNat)) :=
  gives_guarded (act := fun s => s.writeRrel n v.toNat) (fun _ => rfl) h

/-! ### When an OPEN is refused (R325) -/

theorem RingOpens.cringBad {b : Block} {n : Nat} (h : RingOpens b n) : b.cringBad n = false := by
  have apart : (List.range 9).any (fun q => q != n && b.ringOpen q && rangesMeet (b.cring n) (b.cring q)) = false := by
    rw [List.any_eq_false]
    intro q hq
    by_cases hn : q = n
    · simp [hn]
    · by_cases ho : b.ringOpen q = true
      · simp [h.apart ⟨q, List.mem_range.1 hq⟩ hn ho]
      · simp [ho]
  simp only [Block.cringBad, apart, h.aligned, Nat.not_lt.2 h.within, bne_self_eq_false, decide_false, Bool.or_self]

theorem RingOpens.rareaBad {b : Block} {n : Nat} (h : RingOpens b n) : b.rareaBad n (b.ringPart n) = false := by
  by_cases hc : b.rcount n = 0
  · simp [Block.rareaBad, hc]
  · obtain ⟨hostArea, ledgerArea⟩ := h.area hc
    by_cases hp : b.ringPath n = 2
    · simp [Block.rareaBad, h.slots hc, hp, hostArea hp]
    · simp [Block.rareaBad, h.slots hc, hp, ledgerArea hp]

theorem RingOpens.mirrorBad {b : Block} {n : Nat} (h : RingOpens b n) : b.mirrorBad n (b.ringPart n) = false := by
  have hm : (b.ringPath n == 2 && !(b.inWriteWindow (b.ringPart n) (b.rn (rRing n 0x30)) (32 * b.csize n))) = false := by
    by_cases hp : b.ringPath n = 2
    · simp [h.mirror hp]
    · simp [hp]
  have hc : (b.fld (rRing n 0) 11 11 == 1 && !(b.inWriteWindow (b.ringPart n) (b.rn (rRing n 0x38)) 16)) = false := by
    by_cases hf : b.fld (rRing n 0) 11 11 = 1
    · simp [h.credit hf]
    · simp [hf]
  rw [Block.mirrorBad, hm, hc, Bool.or_self]

/-- No reason of R325 stands against a ring that meets every condition. -/
theorem RingOpens.openReason {b : Block} {n : Nat} (h : RingOpens b n) : b.openReason n = 0 := by
  have owned : ¬(b.partState (b.ringPart n) ≠ 1 ∨ (n < 8 ∧ b.coreOwner n ≠ some (b.ringPart n))) := by
    rintro (hs | ⟨hn, ho⟩)
    · exact hs h.bound
    · exact ho (h.core hn)
  have writer : ¬(b.ringWriter n ≠ 0 ∧ b.seqOwner (b.ringWriter n - 16) ≠ some (b.ringPart n)) :=
    fun ⟨hw, ho⟩ => ho (h.writer hw)
  simp only [Block.openReason, h.closed, if_neg owned, if_neg writer, h.cringBad, h.rareaBad, h.mirrorBad,
    Bool.false_eq_true, ↓reduceIte]

/-! ### The parts of an accepted OPEN (R326) -/

/-- CREDIT, WPOS, CHEAD, CTAIL, RNEXT and RREL of a ring. -/
def ringCounts (n : Nat) : List Nat := [rRg n 0, rRing n 0xC, rRing n 0x14, rRing n 0x18, rRing n 0x2C, rRing n 0x28]

/-- The counts and cursors at 0 and NEXTSEQ at STARTSEQ. -/
def Block.startCounts (b : Block) (n : Nat) : Block :=
  let b := (ringCounts n).foldl (fun s a => s.setRn a 0) b
  b.setRn (rRg n 4) (b.rn (rRing n 8))

/-- Every position empty, and nothing in assembly. -/
def Block.emptyRing (b : Block) (n : Nat) : Block :=
  Block.onRing { b with lines := b.lines.dropRange (lineKey n 0) (lineKey (n + 1) 0) } n (fun _ => {})

/-- Zeros over the completion ring, and over the result area of Paths M and I. -/
def Block.zeroAreas (b : Block) (n : Nat) : Block :=
  let b := b.ledZero (b.cring n).1 (b.cring n).2
  if b.ringPath n = 2 then b else b.ledZero (b.rarea n).1 (b.rarea n).2

/-- A sequencer that writes the ring has put no line and seen no event of it (R459, R464). -/
def Block.startWriter (b : Block) (n : Nat) : Block :=
  if b.ringWriter n = 0 then b
  else (b.forgetEvents (b.ringWriter n - 16) n).setRn (rPutn (b.ringWriter n - 16) n) 0

/-- An accepted OPEN is these parts, and then RCFG.OPEN. -/
theorem Block.openRing_eq (b : Block) (n : Nat) : b.openRing n =
    ((((b.startCounts n).emptyRing n).zeroAreas n).startWriter n).setFld (rRing n 0) 0 0 1 := rfl

theorem Block.startCounts_frame (b : Block) (n : Nat) : ∃ regs, b.startCounts n = { b with regs := regs } := by
  obtain ⟨regs, h⟩ := Block.zeroed_frame (ringCounts n) b
  unfold Block.startCounts
  rw [h]
  exact ⟨_, rfl⟩

theorem Block.emptyRing_regs (b : Block) (n : Nat) : (b.emptyRing n).regs = b.regs := rfl

theorem Block.zeroAreas_frame (b : Block) (n : Nat) : ∃ ledger, b.zeroAreas n = { b with ledger := ledger } := by
  unfold Block.zeroAreas
  extract_lets b1
  split
  · exact ⟨_, rfl⟩
  · exact ⟨_, rfl⟩

theorem Block.zeroAreas_regs (b : Block) (n : Nat) : (b.zeroAreas n).regs = b.regs := by
  obtain ⟨_, h⟩ := b.zeroAreas_frame n
  rw [h]

theorem Block.startWriter_frame (b : Block) (n : Nat) :
    ∃ regs seqs, b.startWriter n = { b with regs := regs, seqs := seqs } := by
  unfold Block.startWriter
  split
  · exact ⟨b.regs, b.seqs, rfl⟩
  · exact ⟨_, _, rfl⟩

theorem Block.startWriter_ledger (b : Block) (n : Nat) : (b.startWriter n).ledger = b.ledger := by
  obtain ⟨_, _, h⟩ := b.startWriter_frame n
  rw [h]

/-- Nothing but registers, the ring's own state, the Ledger and its sequencer's record of it changes at an OPEN. -/
theorem Block.openRing_frame (b : Block) (n : Nat) : ∃ regs ledger seqs, b.openRing n =
    { b with
      regs := regs, ledger := ledger, seqs := seqs
      lines := b.lines.dropRange (lineKey n 0) (lineKey (n + 1) 0)
      rings := b.rings.set idleRing n {} } := by
  rw [Block.openRing_eq]
  obtain ⟨regs, h1⟩ := b.startCounts_frame n
  obtain ⟨ledger, h2⟩ := ((b.startCounts n).emptyRing n).zeroAreas_frame n
  obtain ⟨_, seqs, h3⟩ := (((b.startCounts n).emptyRing n).zeroAreas n).startWriter_frame n
  rw [h3, h2, h1]
  exact ⟨_, ledger, seqs, rfl⟩

/-- Apart from the counts and NEXTSEQ every register keeps its value. -/
theorem Block.rn_startCounts_other (b : Block) (n : Nat) {a : Nat} (hc : a ∉ ringCounts n) (hs : a ≠ rRg n 4) :
    (b.startCounts n).rn a = b.rn a := by
  rw [Block.startCounts, Block.rn_setRn_other _ _ hs, Block.rn_zeroed, if_neg hc]

/-- Below the sequencers' blocks only RCFG of the ring changes once its counts have started. -/
theorem Block.rn_openRing (b : Block) (n : Nat) {a : Nat} (hq : a < 0xB0000) (h0 : a ≠ rRing n 0) :
    (b.openRing n).rn a = (b.startCounts n).rn a := by
  have hw : (((b.startCounts n).emptyRing n).zeroAreas n).rn a = (b.startCounts n).rn a :=
    Block.rn_of_regs ((Block.zeroAreas_regs ..).trans (Block.emptyRing_regs ..)) a
  rw [Block.openRing_eq, Block.setFld, Block.rn_setRn_other _ _ h0, ← hw, Block.startWriter]
  split
  · rfl
  · exact Block.rn_setRn_other _ _ (by simp only [rPutn, rQ]; omega)

/-- Every count and cursor is 0 after an OPEN. -/
theorem Block.rn_openRing_count (b : Block) {n a : Nat} (hn : n < 9) (ha : a ∈ ringCounts n) :
    (b.openRing n).rn a = 0 := by
  obtain ⟨hq, h0, h4⟩ : a < 0xB0000 ∧ a ≠ rRing n 0 ∧ a ≠ rRg n 4 := by
    simp only [ringCounts, List.mem_cons, List.not_mem_nil, or_false, rRing, rRg, rHi] at ha ⊢
    omega
  rw [Block.rn_openRing _ _ hq h0, Block.startCounts, Block.rn_setRn_other _ _ h4, Block.rn_zeroed, if_pos ha]

/-- NEXTSEQ takes STARTSEQ, which is none of the counts (R326). -/
theorem Block.rn_openRing_nextSeq (b : Block) {n : Nat} (hn : n < 9) : (b.openRing n).rn (rRg n 4) = b.rn (rRing n 8) := by
  obtain ⟨hq, h0, h8⟩ : rRg n 4 < 0xB0000 ∧ rRg n 4 ≠ rRing n 0 ∧ rRing n 8 ∉ ringCounts n := by
    simp only [ringCounts, List.mem_cons, List.not_mem_nil, or_false, rRing, rRg, rHi]
    omega
  rw [Block.rn_openRing _ _ hq h0, Block.startCounts, Block.rn_setRn_same _ _ (Block.rn_lt ..), Block.rn_zeroed, if_neg h8]

/-- A field written into RCFG.OPEN is what the ring shows. -/
theorem Block.ringOpen_setFld (b : Block) (n v : Nat) : (b.setFld (rRing n 0) 0 0 v).ringOpen n = (v % 2 == 1) := by
  rw [Block.ringOpen, Block.setFld, Block.rn, Block.setRn, Block.reg_setReg_same, BitVec.toNat_ofNat, bit_putBits_zero]

theorem Block.ringOpen_openRing (b : Block) (n : Nat) : (b.openRing n).ringOpen n = true := by
  rw [Block.openRing_eq, Block.ringOpen_setFld]
  rfl

/-- Neither a ring's counts nor its lines say where its completion ring lies. -/
theorem Block.cring_emptyRing_startCounts (b : Block) (n : Nat) : ((b.startCounts n).emptyRing n).cring n = b.cring n := by
  have same : ∀ o, o = 0 ∨ o = 0x10 → ((b.startCounts n).emptyRing n).rn (rRing n o) = b.rn (rRing n o) := by
    intro o ho
    obtain ⟨hc, hs⟩ : rRing n o ∉ ringCounts n ∧ rRing n o ≠ rRg n 4 := by
      simp only [ringCounts, List.mem_cons, List.not_mem_nil, or_false, rRing, rRg, rHi]
      omega
    rw [Block.rn_of_regs (Block.emptyRing_regs ..), Block.rn_startCounts_other b n hc hs]
  simp only [Block.cring, Block.csize, Block.fld, same 0 (.inl rfl), same 0x10 (.inr rfl)]

/-- The completion ring reads as 0 once its areas are zeroed, wherever the result area lies. -/
theorem Block.ledger_zeroAreas (b : Block) (n : Nat) {a : Nat}
    (ha : (b.cring n).1 ≤ a ∧ a < (b.cring n).1 + (b.cring n).2) :
    (b.zeroAreas n).ledger.get byteZero a = 0#8 := by
  have h1 : (b.ledZero (b.cring n).1 (b.cring n).2).ledger.get byteZero a = 0#8 := by
    rw [Block.ledger_ledZero, if_pos ha]
  unfold Block.zeroAreas
  extract_lets b1
  split
  · exact h1
  · rw [Block.ledger_ledZero]
    split
    · rfl
    · exact h1

theorem Block.ledger_openRing (b : Block) (n : Nat) {a : Nat}
    (ha : (b.cring n).1 ≤ a ∧ a < (b.cring n).1 + (b.cring n).2) :
    (b.openRing n).ledger.get byteZero a = 0#8 := by
  rw [← b.cring_emptyRing_startCounts n] at ha
  simp only [Block.openRing_eq, Block.setFld_fields, Block.startWriter_ledger]
  exact Block.ledger_zeroAreas _ n ha

/-- The ring that opens holds nothing. -/
theorem Block.ring_openRing (b : Block) (n : Nat) : (b.openRing n).ring n = {} := by
  obtain ⟨_, _, _, h⟩ := b.openRing_frame n
  rw [h]
  exact Tab.get_set_same idleRing b.rings n {}

/-- Every other ring holds what it held. -/
theorem Block.ring_openRing_other (b : Block) {n m : Nat} (hm : m ≠ n) : (b.openRing n).ring m = b.ring m := by
  obtain ⟨_, _, _, h⟩ := b.openRing_frame n
  rw [h]
  exact Tab.get_set_other idleRing b.rings n m {} hm

theorem Block.lineAt_openRing (b : Block) (n : Nat) {k : Nat} (hk : k < 8192) : (b.openRing n).lineAt n k = none := by
  obtain ⟨_, _, _, h⟩ := b.openRing_frame n
  rw [h]
  exact Tab.get_dropRange_same noLine (by simp only [lineKey]; omega) b.lines

theorem Block.lineAt_openRing_other (b : Block) {n m k : Nat} (hm : m ≠ n) (hk : k < 8192) :
    (b.openRing n).lineAt m k = b.lineAt m k := by
  obtain ⟨_, _, _, h⟩ := b.openRing_frame n
  rw [h]
  exact Tab.get_dropRange_other noLine _ _ _ (by simp only [lineKey]; omega) b.lines

theorem Block.items_queues_openRing (b : Block) (n : Nat) :
    (b.openRing n).items = b.items ∧ (b.openRing n).queues = b.queues := by
  obtain ⟨_, _, _, h⟩ := b.openRing_frame n
  rw [h]
  exact ⟨rfl, rfl⟩

/-! ### OPEN (R325, R326) -/

/-- A refused OPEN says why in OPENSTAT, and nothing else changes. -/
theorem Block.tryOpen_refused {b : Block} {n : Nat} (h : b.openReason n ≠ 0) :
    b.tryOpen n = b.setRn (rRing n 0x54) (b.openReason n) := by
  simp only [Block.tryOpen, if_neg h]

theorem Block.tryOpen_accepted {b : Block} {n : Nat} (h : b.openReason n = 0) :
    b.tryOpen n = (b.openRing n).setRn (rRing n 0x54) 0 := by
  simp only [Block.tryOpen, h, ↓reduceIte]

/-- OPENSTAT is written last, and over none of the registers that an OPEN has set. -/
theorem openstat_apart (n : Nat) : rRg n 4 ≠ rRing n 0x54 ∧ rRing n 0 ≠ rRing n 0x54 ∧
    ∀ a ∈ ringCounts n, a ≠ rRing n 0x54 := by
  simp only [ringCounts, List.mem_cons, List.not_mem_nil, or_false, rRing, rRg, rHi]
  refine ⟨?_, ?_, fun a ha => ?_⟩ <;> omega

/-! ### CLOSE (R327) -/

/-- What CLOSE asks for, in the words of R327. -/
theorem Block.mayClose_iff (b : Block) (n : Nat) : b.mayClose n = true ↔ (∀ k, k < 8192 → b.lineAt n k = none) ∧
    b.ringItems n = [] ∧ (b.ring n).asm = none ∧ b.rn (rRing n 0x14) = b.rn (rRing n 0x18) := by
  simp only [Block.mayClose, Bool.and_eq_true, List.all_eq_true, List.mem_range, Option.isNone_iff_eq_none,
    List.isEmpty_iff, beq_iff_eq, and_assoc]

/-- An accepted CLOSE: the completion ring at 0, and RCFG.OPEN. -/
def Block.closeRing (b : Block) (n : Nat) : Block := (b.ledZero (b.cring n).1 (b.cring n).2).setFld (rRing n 0) 0 0 0

theorem Block.tryClose_refused {b : Block} {n : Nat} (h : ¬(b.ringOpen n = true ∧ b.mayClose n = true)) :
    b.tryClose n = none := by
  simp only [Block.tryClose, Bool.and_eq_true, if_neg h]

theorem Block.tryClose_accepted {b : Block} {n : Nat} (h : b.ringOpen n = true ∧ b.mayClose n = true) :
    b.tryClose n = some (b.closeRing n) := by
  simp only [Block.tryClose, Bool.and_eq_true, if_pos h, Block.closeRing]

theorem Block.ringOpen_closeRing (b : Block) (n : Nat) : (b.closeRing n).ringOpen n = false := Block.ringOpen_setFld ..

theorem Block.ledger_closeRing (b : Block) (n : Nat) {a : Nat}
    (ha : (b.cring n).1 ≤ a ∧ a < (b.cring n).1 + (b.cring n).2) :
    (b.closeRing n).ledger.get byteZero a = 0#8 :=
  (b.ledger_ledZero _ _ a).trans (if_pos ha)

/-- Of the registers CLOSE writes RCFG alone. -/
theorem Block.closeRing_regs (b : Block) (n : Nat) : RegsIn (fun a => a = rRing n 0) b (b.closeRing n) :=
  RegsIn.trans (b' := b.ledZero (b.cring n).1 (b.cring n).2) (RegsIn.of_regs rfl)
    (RegsIn.setRn (p := fun a => a = rRing n 0) rfl)

/-- A host write of a closed ring's aperture is a violation, of its form first (R328, R350). -/
theorem Block.ringVio_closed {b : Block} {p n : Nat} (o len : Nat) (hc : b.ringOpen n = false) :
    b.ringVio p n o len = some (if len ≠ 64 ∨ o % 64 ≠ 0 then 2 else 3) := by
  have hw : b.mayWriteRing p n = false := by simp [Block.mayWriteRing, hc]
  unfold Block.ringVio
  split
  · rfl
  · simp [hw]

theorem gives_ringLineWrite_closed {b : Block} {n : RingId} {p : Port} {o : Nat} (data : List Byte) (ho : o < 0x80000)
    (hp : b.hasHdm p.num = true) (hl : b.life = .service) (hc : b.ringOpen n = false) :
    Gives (.ringLineWrite p (BitVec.ofNat 30 (0x100000 * n + o)) data) b
      (b.violation p.num (if data.length ≠ 64 ∨ o % 64 ≠ 0 then 2 else 3) 0 (0x100000 * n + o)) := by
  have hoff : (BitVec.ofNat 30 (0x100000 * n.val + o)).toNat = 0x100000 * n.val + o := by
    rw [BitVec.toNat_ofNat]
    omega
  have hdiv : (0x100000 * n.val + o) / 0x100000 = n.val := by omega
  have hmod : (0x100000 * n.val + o) % 0x100000 = o := by omega
  have hap : inRingAperture (0x100000 * n.val + o) = true := by
    simp only [inRingAperture, hmod, Bool.and_eq_true, decide_eq_true_eq]
    omega
  have hring : b.writeRing p.num n o data =
      b.violation p.num (if data.length ≠ 64 ∨ o % 64 ≠ 0 then 2 else 3) 0 (0x100000 * n + o) := by
    have code : ¬(if data.length ≠ 64 ∨ o % 64 ≠ 0 then 2 else 3) = 1 := by split <;> decide
    have awake : (b.life == Life.twilight) = false := by rw [hl]; rfl
    simp only [Block.writeRing, Block.ringVio_closed o data.length hc, awake, Bool.false_eq_true, ↓reduceIte, if_neg code]
  have hw : b.writeHdm p.num (0x100000 * n.val + o) data = b.writeRing p.num n o data := by
    simp [Block.writeHdm, hp, hl, hap, hdiv, hmod]
  intro q
  show Host.Outcome.next (⟨q, b.writeHdm p.num _ data⟩ : State) = _
  rw [hoff, hw, hring]

/-! ### CTAIL and RREL (R334, R338) -/

/-- A write of RREL goes too far past the slots in use, or past one whose item's record has not been posted. -/
theorem Block.relTooFar_iff (b : Block) (n : RingId) (v : Nat) : b.relTooFar n v = true ↔
    (sub32 (b.rn (rRing n 0x2C)) (b.rn (rRing n 0x28)) < sub32 v (b.rn (rRing n 0x28)) ∨
      ∃ it ∈ b.items, it.ring = n ∧ ∃ k : Word, it.slotK = some k ∧
        sub32 k.toNat (b.rn (rRing n 0x28)) < sub32 v (b.rn (rRing n 0x28))) := by
  simp only [Block.relTooFar, Block.ringItems, Bool.or_eq_true, decide_eq_true_eq, List.any_eq_true, List.mem_filter,
    beq_iff_eq, and_assoc, Fin.ext_iff]
  refine or_congr_right (exists_congr fun it => and_congr_right fun _ => and_congr_right fun _ => ?_)
  cases it.slotK with
  | none => simp
  | some k => simp

/-! ### What the four writes give -/

/-- OPEN: refused with its reason in OPENSTAT alone, or the ring opens from the start (R325, R326). -/
theorem ringOpen_gives (r : Requester) (n : RingId) (b : Block) (h : Accepts b r (rRing n 4)) :
    let b0 := b.dropHeld r
    (b0.openReason n ≠ 0 → Gives (.ringOpen r n) b (b0.setRn (rRing n 0x54) (b0.openReason n))) ∧
    (RingOpens b0 n → ∃ b', Gives (.ringOpen r n) b b' ∧ b0.ringOpen n = false ∧ b'.ringOpen n = true ∧
      b'.rn (rRing n 0x54) = 0 ∧ b'.rn (rRg n 4) = b0.rn (rRing n 8) ∧
      (∀ a ∈ [rRg n 0, rRing n 0xC, rRing n 0x14, rRing n 0x18, rRing n 0x2C, rRing n 0x28], b'.rn a = 0) ∧
      (∀ k, k < 8192 → b'.lineAt n k = none) ∧ b'.ring n = {} ∧
      (∀ a, (b0.cring n).1 ≤ a → a < (b0.cring n).1 + (b0.cring n).2 → b'.ledger.get byteZero a = 0#8) ∧
      (∀ m : RingId, m ≠ n → b'.ring m = b0.ring m ∧ ∀ k, k < 8192 → b'.lineAt m k = b0.lineAt m k) ∧
      b'.items = b0.items ∧ b'.queues = b0.queues) := by
  intro b0
  have gives : Gives (.ringOpen r n) b (b0.tryOpen n) := gives_ringOpen h
  refine ⟨fun refused => Block.tryOpen_refused refused ▸ gives, fun opens => ?_⟩
  rw [Block.tryOpen_accepted opens.openReason] at gives
  obtain ⟨seqApart, cfgApart, countsApart⟩ := openstat_apart n
  obtain ⟨items, queues⟩ := b0.items_queues_openRing n
  refine ⟨_, gives, opens.closed, ?_, ?_, ?_, ?_, ?_, ?_, ?_, ?_, items, queues⟩
  · rw [Block.ringOpen, Block.rn_setRn_other _ _ cfgApart]
    exact b0.ringOpen_openRing n
  · exact Block.rn_setRn_same _ _ (by decide)
  · rw [Block.rn_setRn_other _ _ seqApart, b0.rn_openRing_nextSeq n.isLt]
  · intro a ha
    rw [Block.rn_setRn_other _ _ (countsApart a ha), b0.rn_openRing_count n.isLt ha]
  · exact fun k hk => b0.lineAt_openRing n hk
  · exact b0.ring_openRing n
  · exact fun a lo hi => b0.ledger_openRing n ⟨lo, hi⟩
  · intro m hm
    have hv : m.val ≠ n.val := fun e => hm (Fin.ext e)
    exact ⟨b0.ring_openRing_other hv, fun k hk => b0.lineAt_openRing_other hv hk⟩

/-- CLOSE: refused unless R327's conditions hold, and then the ring's aperture and completion ring answer as closed. -/
theorem ringClose_gives (r : Requester) (n : RingId) (b : Block) (h : Accepts b r (rRing n 4)) :
    let b0 := b.dropHeld r
    let may := b0.ringOpen n = true ∧ (∀ k, k < 8192 → b0.lineAt n k = none) ∧ b0.ringItems n = [] ∧
      (b0.ring n).asm = none ∧ b0.rn (rRing n 0x14) = b0.rn (rRing n 0x18)
    (¬may → Gives (.ringClose r n) b (b0.writeReject (rRing n 4) 2)) ∧
    (may → ∃ b', Gives (.ringClose r n) b b' ∧ b'.ringOpen n = false ∧
      (∀ a, (b0.cring n).1 ≤ a → a < (b0.cring n).1 + (b0.cring n).2 → b'.ledger.get byteZero a = 0#8) ∧
      (∀ (p : Port) (o : Nat) (data : List Byte), o < 0x80000 → b'.hasHdm p.num = true → b'.life = .service →
        Gives (.ringLineWrite p (BitVec.ofNat 30 (0x100000 * n + o)) data) b'
          (b'.violation p.num (if data.length ≠ 64 ∨ o % 64 ≠ 0 then 2 else 3) 0 (0x100000 * n + o))) ∧
      RegsIn (fun a => a = rRing n 0) b0 b' ∧ b'.lines = b0.lines ∧ b'.items = b0.items) := by
  intro b0 may
  have gives := gives_ringClose h
  have may_iff : (b0.ringOpen n = true ∧ b0.mayClose n = true) ↔ may := and_congr_right fun _ => b0.mayClose_iff n
  constructor
  · intro refused
    rwa [Block.tryClose_refused (fun c => refused (may_iff.1 c))] at gives
  · intro closes
    rw [Block.tryClose_accepted (may_iff.2 closes)] at gives
    have closed := b0.ringOpen_closeRing n
    exact ⟨_, gives, closed, fun a lo hi => b0.ledger_closeRing n ⟨lo, hi⟩,
      fun p o data ho hp hl => gives_ringLineWrite_closed data ho hp hl closed, b0.closeRing_regs n, rfl, rfl⟩

/-- CTAIL moves on by at most the records that stand unreturned (R334). -/
theorem ctailWrite_gives (r : Requester) (n : RingId) (v : BitVec 32) (b : Block) (h : Accepts b r (rRing n 0x18)) :
    let b0 := b.dropHeld r
    let t := b0.rn (rRing n 0x18)
    Gives (.ctailWrite r n v) b (if sub32 v.toNat t ≤ sub32 (b0.rn (rRing n 0x14)) t then
      b0.setRn (rRing n 0x18) v.toNat else b0.writeReject (rRing n 0x18) v.toNat) := by
  intro b0 t
  have gives := gives_ctailWrite v h
  rw [Block.writeCtail] at gives
  by_cases hv : sub32 v.toNat t ≤ sub32 (b0.rn (rRing n 0x14)) t
  · rw [if_pos hv] at gives ⊢
    exact gives
  · rw [if_neg hv] at gives ⊢
    exact gives

/-- RREL moves on by at most the slots in use whose items' records are posted (R338). -/
theorem rrelWrite_gives (r : Requester) (n : RingId) (v : BitVec 32) (b : Block) (h : Accepts b r (rRing n 0x28)) :
    let b0 := b.dropHeld r
    let t := b0.rn (rRing n 0x28)
    let bad := sub32 (b0.rn (rRing n 0x2C)) t < sub32 v.toNat t ∨
      ∃ it ∈ b0.items, it.ring = n ∧ ∃ k : Word, it.slotK = some k ∧ sub32 k.toNat t < sub32 v.toNat t
    (bad → Gives (.rrelWrite r n v) b (b0.writeReject (rRing n 0x28) v.toNat)) ∧
    (¬bad → Gives (.rrelWrite r n v) b (b0.setRn (rRing n 0x28) v.toNat)) := by
  intro b0 t bad
  have gives := gives_rrelWrite v h
  have bad_iff : b0.relTooFar n v.toNat = true ↔ bad := b0.relTooFar_iff n v.toNat
  rw [Block.writeRrel] at gives
  constructor
  · intro refused
    rwa [if_pos (bad_iff.2 refused)] at gives
  · intro accepted
    rwa [if_neg (fun c => accepted (bad_iff.1 c))] at gives

/-- Settles O13: OPEN, CLOSE, CTAIL and RREL each by what their register's rule makes of the block. -/
theorem ringOpenAndClose : Obligations.RingOpenAndClose :=
  ⟨⟨ringOpen_gives, ringClose_gives⟩, ⟨ctailWrite_gives, rrelWrite_gives⟩⟩

end Sys2Proof.Machine

/-!
The beat and the shelf (13_beat_and_power.md): schedule frames, epoch broadcasts, status reads and dynamic addresses on
the sideband (R362-R366), and the COMMIT of the host's schedule (R382).
-/
namespace Sys2Proof.Machine

/-! ### Fields of numbers -/

theorem testBit_bits (x hi lo j : Nat) :
    (bits x hi lo).testBit j = (decide (j < hi + 1 - lo) && x.testBit (lo + j)) := by
  rw [bits, Nat.testBit_mod_two_pow, Nat.testBit_shiftRight]

theorem bits_lt (x hi lo : Nat) : bits x hi lo < 2 ^ (hi + 1 - lo) := Nat.mod_lt _ (Nat.two_pow_pos _)

/-- A field below the highest bit kept does not see the others cut off. -/
theorem bits_mod_two_pow {hi n : Nat} (h : hi < n) (x lo : Nat) : bits (x % 2 ^ n) hi lo = bits x hi lo := by
  refine Nat.eq_of_testBit_eq fun j => ?_
  rw [testBit_bits, testBit_bits, Nat.testBit_mod_two_pow]
  by_cases hj : j < hi + 1 - lo
  · have inside : lo + j < n := by omega
    rw [decide_eq_true inside, Bool.true_and]
  · rw [decide_eq_false hj, Bool.false_and, Bool.false_and]

/-- What is added above a field does not touch it. -/
theorem bits_add_shiftLeft_below {hi n : Nat} (h : hi < n) (x y lo : Nat) : bits (x + y <<< n) hi lo = bits x hi lo := by
  rw [← bits_mod_two_pow h, Nat.shiftLeft_eq, Nat.add_mul_mod_self_right, bits_mod_two_pow h]

/-- What is added above a number is a field of the sum. -/
theorem bits_add_shiftLeft_at {x y n hi : Nat} (hx : x < 2 ^ n) (hy : y < 2 ^ (hi + 1 - n)) :
    bits (x + y <<< n) hi n = y := by
  rw [bits, Nat.shiftRight_eq_div_pow, Nat.shiftLeft_eq, Nat.add_mul_div_right _ _ (Nat.two_pow_pos n),
    Nat.div_eq_of_lt hx, Nat.zero_add, Nat.mod_eq_of_lt hy]

theorem bits_eq_zero {x lo : Nat} (h : x < 2 ^ lo) (hi : Nat) : bits x hi lo = 0 := by
  rw [bits, Nat.shiftRight_eq_div_pow, Nat.div_eq_of_lt h, Nat.zero_mod]

theorem add_shiftLeft_lt {x y n m k : Nat} (hx : x < 2 ^ n) (hy : y < 2 ^ m) (hk : n + m ≤ k) : x + y <<< n < 2 ^ k := by
  calc x + y <<< n = x + y * 2 ^ n := by rw [Nat.shiftLeft_eq]
    _ < 2 ^ n + y * 2 ^ n := Nat.add_lt_add_right hx _
    _ = (y + 1) * 2 ^ n := by rw [Nat.succ_mul, Nat.add_comm]
    _ ≤ 2 ^ m * 2 ^ n := Nat.mul_le_mul_right _ hy
    _ = 2 ^ (n + m) := by rw [← Nat.pow_add, Nat.add_comm]
    _ ≤ 2 ^ k := Nat.pow_le_pow_right (by decide) hk

/-- The bits of a number with a field replaced are the field's inside it and the number's outside. -/
theorem testBit_putBits {hi lo : Nat} (h : lo ≤ hi) (x v j : Nat) : (putBits x hi lo v).testBit j =
    if lo ≤ j ∧ j ≤ hi then v.testBit (j - lo) else x.testBit j := by
  have field : v % 2 ^ (hi + 1 - lo) < 2 ^ (hi + 1 - lo) := Nat.mod_lt _ (Nat.two_pow_pos _)
  have low : x % 2 ^ lo < 2 ^ lo := Nat.mod_lt _ (Nat.two_pow_pos _)
  have width : 2 ^ lo * 2 ^ (hi + 1 - lo) = 2 ^ (hi + 1) := by
    rw [← Nat.pow_add]
    congr 1
    omega
  have below : 2 ^ lo * (v % 2 ^ (hi + 1 - lo)) + x % 2 ^ lo < 2 ^ (hi + 1) := by
    calc 2 ^ lo * (v % 2 ^ (hi + 1 - lo)) + x % 2 ^ lo
        < 2 ^ lo * (v % 2 ^ (hi + 1 - lo)) + 2 ^ lo := Nat.add_lt_add_left low _
      _ = 2 ^ lo * (v % 2 ^ (hi + 1 - lo) + 1) := (Nat.mul_succ ..).symm
      _ ≤ 2 ^ lo * 2 ^ (hi + 1 - lo) := Nat.mul_le_mul_left _ field
      _ = 2 ^ (hi + 1) := width
  have parts : putBits x hi lo v =
      2 ^ (hi + 1) * (x >>> (hi + 1)) + (2 ^ lo * (v % 2 ^ (hi + 1 - lo)) + x % 2 ^ lo) := by
    rw [putBits, Nat.shiftLeft_eq, Nat.shiftLeft_eq, Nat.mul_comm (x >>> (hi + 1)), Nat.mul_comm (v % _), Nat.add_assoc]
  rw [parts, Nat.testBit_two_pow_mul_add _ below, Nat.testBit_two_pow_mul_add _ low, Nat.testBit_shiftRight,
    Nat.testBit_mod_two_pow, Nat.testBit_mod_two_pow]
  by_cases above : hi < j
  · have place : hi + 1 + (j - (hi + 1)) = j := by omega
    rw [if_neg (by omega), if_neg (by omega), place]
  · by_cases inside : lo ≤ j
    · rw [if_pos (by omega), if_neg (by omega), if_pos (by omega), decide_eq_true (by omega), Bool.true_and]
    · rw [if_pos (by omega), if_pos (by omega), if_neg (by omega), decide_eq_true (by omega), Bool.true_and]

theorem bits_putBits_same {hi lo : Nat} (h : lo ≤ hi) (x v : Nat) :
    bits (putBits x hi lo v) hi lo = v % 2 ^ (hi + 1 - lo) := by
  refine Nat.eq_of_testBit_eq fun j => ?_
  rw [testBit_bits, testBit_putBits h, Nat.testBit_mod_two_pow]
  by_cases hj : j < hi + 1 - lo
  · have inside : lo ≤ lo + j ∧ lo + j ≤ hi := by omega
    rw [if_pos inside, Nat.add_sub_cancel_left, decide_eq_true hj]
  · rw [decide_eq_false hj, Bool.false_and, Bool.false_and]

theorem bits_putBits_apart {hi lo hi' lo' : Nat} (h : lo ≤ hi) (apart : hi' < lo ∨ hi < lo') (x v : Nat) :
    bits (putBits x hi lo v) hi' lo' = bits x hi' lo' := by
  refine Nat.eq_of_testBit_eq fun j => ?_
  rw [testBit_bits, testBit_bits, testBit_putBits h]
  by_cases hj : j < hi' + 1 - lo'
  · have : ¬(lo ≤ lo' + j ∧ lo' + j ≤ hi) := by omega
    rw [if_neg this]
  · rw [decide_eq_false hj, Bool.false_and, Bool.false_and]

/-- A field replaced inside a 64-bit number leaves a 64-bit number. -/
theorem putBits_lt {x hi lo : Nat} (h : lo ≤ hi) (hhi : hi < 64) (hx : x < 2 ^ 64) (v : Nat) :
    putBits x hi lo v < 2 ^ 64 := by
  refine Nat.lt_pow_two_of_testBit _ fun j hj => ?_
  rw [testBit_putBits h, if_neg (by omega)]
  exact Nat.testBit_lt_two_pow (Nat.lt_of_lt_of_le hx (Nat.pow_le_pow_right (by decide) hj))

/-! ### The bytes of numbers -/

theorem ofBytes_append (m : List Byte) : ∀ l : List Byte, ofBytes (l ++ m) = ofBytes l + ofBytes m <<< (8 * l.length)
  | [] => by rw [List.nil_append, ofBytes, List.length_nil, Nat.mul_zero, Nat.shiftLeft_zero, Nat.zero_add]
  | x :: l => by
    rw [List.cons_append, ofBytes, ofBytes, ofBytes_append m l, List.length_cons, Nat.mul_succ]
    simp only [Nat.shiftLeft_eq, Nat.add_mul, Nat.mul_assoc, ← Nat.pow_add, Nat.add_assoc]

/-- A field that lies within the first n bytes of a sequence that begins with a number is that number's. -/
theorem bits_ofBytes_leBytes_append {hi n : Nat} (h : hi < 8 * n) (x lo : Nat) (m : List Byte) :
    bits (ofBytes (leBytes x n ++ m)) hi lo = bits x hi lo := by
  have bytes : 256 ^ n = 2 ^ (8 * n) := by rw [Nat.pow_mul]
  rw [ofBytes_append, leBytes_length, ofBytes_leBytes, bytes, ← bits_mod_two_pow h, Nat.shiftLeft_eq,
    Nat.add_mul_mod_self_right, Nat.mod_mod, bits_mod_two_pow h]

/-! ### Fields of registers -/

theorem RegsIn.setFld {p : Nat → Prop} {b : Block} {a hi lo v : Nat} (h : p a) : RegsIn p b (b.setFld a hi lo v) :=
  RegsIn.setRn h

theorem RegsIn.rn {p : Nat → Prop} {b b' : Block} (h : RegsIn p b b') {a : Nat} (ha : ¬p a) : b'.rn a = b.rn a := by
  rw [Block.rn, Block.rn, h.same a ha]

theorem RegsIn.fld {p : Nat → Prop} {b b' : Block} (h : RegsIn p b b') {a : Nat} (ha : ¬p a) (hi lo : Nat) :
    b'.fld a hi lo = b.fld a hi lo := by
  rw [Block.fld, Block.fld, h.rn ha]

theorem Block.fld_setRn_same (b : Block) (a : Nat) {n : Nat} (h : n < 2 ^ 64) (hi lo : Nat) :
    (b.setRn a n).fld a hi lo = bits n hi lo := by
  rw [Block.fld, Block.rn_setRn_same _ _ h]

theorem Block.fld_setFld_same (b : Block) (a v : Nat) {hi lo : Nat} (h : lo ≤ hi) (hhi : hi < 64) :
    (b.setFld a hi lo v).fld a hi lo = v % 2 ^ (hi + 1 - lo) := by
  rw [Block.setFld, Block.fld_setRn_same _ _ (putBits_lt h hhi (b.rn_lt a) v), bits_putBits_same h]

/-- A field that shares no bit of a register with the one replaced reads as before. -/
theorem Block.fld_setFld_apart (b : Block) {a j hi lo hi' lo' : Nat} (v : Nat) (h : lo ≤ hi) (hhi : hi < 64)
    (apart : j ≠ a ∨ hi' < lo ∨ hi < lo') : (b.setFld a hi lo v).fld j hi' lo' = b.fld j hi' lo' := by
  by_cases hj : j = a
  · subst hj
    rw [Block.setFld, Block.fld_setRn_same _ _ (putBits_lt h hhi (b.rn_lt j) v),
      bits_putBits_apart h (apart.resolve_left (fun n => n rfl)), Block.fld]
  · exact (RegsIn.setFld (p := fun k => k = a) rfl).fld hj hi' lo'

/-! ### Allotments held in registers -/

/-- Register updates one after another change registers alone. -/
theorem Block.foldl_regs_frame {β : Type} (f : Block → β → Block) (h : ∀ b x, ∃ regs, f b x = { b with regs := regs }) :
    ∀ (l : List β) (b : Block), ∃ regs, l.foldl f b = { b with regs := regs }
  | [], b => ⟨b.regs, rfl⟩
  | x :: l, b => by
    obtain ⟨_, hx⟩ := h b x
    obtain ⟨regs, hl⟩ := Block.foldl_regs_frame f h l (f b x)
    exact ⟨regs, by rw [List.foldl_cons, hl, hx]⟩

theorem Block.putAllot_frame (b : Block) (a : Nat) (l : List Nat) : ∃ regs, b.putAllot a l = { b with regs := regs } :=
  Block.foldl_regs_frame _ (fun _ _ => ⟨_, rfl⟩) _ b

theorem RegsIn.putAllot (b : Block) (a : Nat) (l : List Nat) : RegsIn (fun j => a ≤ j) b (b.putAllot a l) :=
  RegsIn.foldl _ (fun _ _ => RegsIn.setFld (Nat.le_add_right ..)) _ b

/-- Of the allotments stored so far each one is held, and the others are as they were: no two share a bit. -/
theorem Block.fld_putAllots (b : Block) (a i : Nat) (l : List Nat) : ∀ n : Nat,
    ((List.range n).foldl (fun s i => s.setFld (a + 4 * (i / 4)) (8 * (i % 4) + 4) (8 * (i % 4)) ((l[i]?).getD 0))
      b).fld (a + 4 * (i / 4)) (8 * (i % 4) + 4) (8 * (i % 4)) =
    if i < n then (l[i]?).getD 0 % 32 else b.fld (a + 4 * (i / 4)) (8 * (i % 4) + 4) (8 * (i % 4))
  | 0 => (if_neg (Nat.not_lt_zero i)).symm
  | n + 1 => by
    rw [List.range_succ, List.foldl_append, List.foldl_cons, List.foldl_nil]
    by_cases hn : i = n
    · subst hn
      have width : 2 ^ (8 * (i % 4) + 4 + 1 - 8 * (i % 4)) = 32 :=
        congrArg (fun k => 2 ^ k) (show 8 * (i % 4) + 4 + 1 - 8 * (i % 4) = 5 by omega)
      rw [Block.fld_setFld_same _ _ _ (by omega) (by omega), if_pos (Nat.lt_succ_self i), width]
    · rw [Block.fld_setFld_apart _ _ (by omega) (by omega) (by omega), Block.fld_putAllots b a i l n]
      by_cases stored : i < n
      · rw [if_pos stored, if_pos (Nat.lt_succ_of_lt stored)]
      · rw [if_neg stored, if_neg (by omega)]

theorem Block.allotAt_putAllot (b : Block) (a : Nat) (f : Nat → Nat) (h : ∀ i, i < 16 → f i < 32) :
    (b.putAllot a ((List.range 16).map f)).allotAt a = (List.range 16).map f := by
  refine List.map_congr_left fun i hi => ?_
  have hi : i < 16 := List.mem_range.1 hi
  rw [Block.putAllot, Block.fld_putAllots, if_pos hi, List.getElem?_map, List.getElem?_range hi]
  exact Nat.mod_eq_of_lt (h i hi)

theorem RegsIn.allotAt {p : Nat → Prop} {b b' : Block} (h : RegsIn p b b') {a : Nat}
    (ha : ∀ i, i < 4 → ¬p (a + 4 * i)) : b'.allotAt a = b.allotAt a := by
  refine List.map_congr_left fun i hi => h.fld (ha _ ?_) ..
  have := List.mem_range.1 hi
  omega

/-- The active schedule lies in ENVSTAT and SCHEDACT (R382). -/
theorem RegsIn.activeSched {p : Nat → Prop} {b b' : Block} (h : RegsIn p b b') (h0 : ¬p (rEv 0))
    (ha : ∀ i, i < 4 → ¬p (rEv 0x20 + 4 * i)) : b'.activeSched = b.activeSched := by
  simp only [Block.activeSched, h.fld h0, h.allotAt ha]

/-- The pending schedule lies in PENDCTL and SCHEDPEND (R382). -/
theorem RegsIn.pendingSched {p : Nat → Prop} {b b' : Block} (h : RegsIn p b b') (h0 : ¬p (rEv 0x50))
    (ha : ∀ i, i < 4 → ¬p (rEv 0x40 + 4 * i)) : b'.pendingSched = b.pendingSched := by
  simp only [Block.pendingSched, h.fld h0, h.allotAt ha]

/-! ### Frames and broadcasts discarded (R363, R365) -/

theorem Block.beatEvent_frame (b : Block) : ∃ regs evlog orderEvents,
    b.beatEvent = { b with regs := regs, evlog := evlog, orderEvents := orderEvents } := b.logEvent_frame ..

theorem RegsIn.beatEvent (b : Block) : RegsIn (fun a => a = rEl 0 ∨ a = rEl 8) b b.beatEvent :=
  RegsIn.logEvent (.inl rfl) (.inr rfl) ..

/-- A discarded frame writes FRAMEERR, BEATSTAT and the event log's NEXT and LOST. -/
theorem RegsIn.badFrame (b : Block) :
    RegsIn (fun a => a = rEv 0x1C ∨ a = rEv 0xC ∨ a = rEl 0 ∨ a = rEl 8) b b.badFrame :=
  (RegsIn.setRn (.inl rfl)).trans <| (RegsIn.setFld (.inr (.inl rfl))).trans
    ⟨fun a ha => (RegsIn.beatEvent _).same a fun h => ha (.inr (.inr h))⟩

theorem Block.beat_badFrame (b : Block) : b.badFrame.beat = b.beat := by
  obtain ⟨_, _, _, h⟩ := ((b.bump32 (rEv 0x1C) 1).setFld (rEv 0xC) 5 5 1).beatEvent_frame
  rw [Block.badFrame, h]
  rfl

theorem Block.frameErr_badFrame (b : Block) : b.badFrame.rn (rEv 0x1C) = min (b.rn (rEv 0x1C) + 1) 0xFFFFFFFF := by
  rw [Block.badFrame, (RegsIn.beatEvent _).rn (by decide),
    (RegsIn.setFld (p := fun a => a = rEv 0xC) rfl).rn (by decide)]
  exact Block.rn_setRn_same _ _ (by omega)

theorem Block.frameErrBit_badFrame (b : Block) : b.badFrame.fld (rEv 0xC) 5 5 = 1 := by
  rw [Block.badFrame, (RegsIn.beatEvent _).fld (by decide)]
  exact Block.fld_setFld_same _ _ _ (by decide) (by decide)

theorem Block.pendingSched_badFrame (b : Block) : b.badFrame.pendingSched = b.pendingSched :=
  (RegsIn.badFrame b).pendingSched (by decide) (by decide)

/-! ### A valid schedule frame (R363, R364) -/

/-- PENDCTL's value for a pending schedule (R382). -/
def pendctl (env atBidx : Nat) : Nat := env + atBidx <<< 2 + 2 ^ 12

theorem pendctl_fields {env atBidx : Nat} (he : env < 4) (ha : atBidx < 1024) :
    pendctl env atBidx < 2 ^ 64 ∧ bits (pendctl env atBidx) 1 0 = env ∧ bits (pendctl env atBidx) 11 2 = atBidx ∧
      bits (pendctl env atBidx) 12 12 = 1 := by
  simp only [pendctl, bits, Nat.shiftLeft_eq, Nat.shiftRight_eq_div_pow]
  omega

/-- A(i) of the frame whose bytes spell x. -/
def frameAllot (x i : Nat) : Nat := bits x (8 * i + 12) (8 * i + 8)

theorem frameAllot_lt (x i : Nat) : frameAllot x i < 32 := by
  have h := bits_lt x (8 * i + 12) (8 * i + 8)
  rwa [show 8 * i + 12 + 1 - (8 * i + 8) = 5 by omega] at h

/-- The allotments of a frame in SCHEDPEND, and its cycle noted. -/
def Block.storeFrame (b : Block) (x : Nat) : Block :=
  (b.onBeat (fun t => { t with frameAt := some b.cycle })).putAllot (rEv 0x40) ((List.range 16).map (frameAllot x))

/-- A valid frame is stored, and PENDCTL says that it is pending. -/
def Block.takeFrame (b : Block) (x : Nat) : Block :=
  (b.storeFrame x).setRn (rEv 0x50) (pendctl (bits x 137 136) (bits x 153 144))

theorem Block.takeFrame_frame (b : Block) (x : Nat) :
    ∃ regs, b.takeFrame x = { b with regs := regs, beat := { b.beat with frameAt := some b.cycle } } := by
  obtain ⟨_, h⟩ := (b.onBeat (fun t => { t with frameAt := some b.cycle })).putAllot_frame (rEv 0x40)
    ((List.range 16).map (frameAllot x))
  rw [Block.takeFrame, Block.storeFrame, h]
  exact ⟨_, rfl⟩

theorem RegsIn.takeFrame (b : Block) (x : Nat) : RegsIn (fun a => rEv 0x40 ≤ a) b (b.takeFrame x) :=
  RegsIn.trans (b' := b.onBeat (fun t => { t with frameAt := some b.cycle })) (RegsIn.of_regs rfl) <|
    (RegsIn.putAllot ..).trans (RegsIn.setRn (by decide))

theorem Block.activeSched_takeFrame (b : Block) (x : Nat) : (b.takeFrame x).activeSched = b.activeSched :=
  (RegsIn.takeFrame b x).activeSched (by decide) (by decide)

theorem Block.allotAt_takeFrame (b : Block) (x : Nat) :
    (b.takeFrame x).allotAt (rEv 0x40) = (List.range 16).map (frameAllot x) := by
  have pendctlApart : ∀ i, i < 4 → ¬(rEv 0x40 + 4 * i = rEv 0x50) := by decide
  rw [Block.takeFrame, (RegsIn.setRn (p := fun a => a = rEv 0x50) rfl).allotAt pendctlApart]
  exact Block.allotAt_putAllot _ _ _ fun i _ => frameAllot_lt x i

theorem Block.pendingSched_takeFrame (b : Block) (x : Nat) : (b.takeFrame x).pendingSched =
    some (⟨(List.range 16).map (frameAllot x), bits x 137 136⟩, bits x 153 144) := by
  obtain ⟨wide, env, atBidx, valid⟩ := pendctl_fields (bits_lt x 137 136) (bits_lt x 153 144)
  have shown : ∀ hi lo, (b.takeFrame x).fld (rEv 0x50) hi lo = bits (pendctl (bits x 137 136) (bits x 153 144)) hi lo :=
    (b.storeFrame x).fld_setRn_same _ wide
  simp only [Block.pendingSched, shown, valid, env, atBidx, Block.allotAt_takeFrame, ↓reduceIte]

/-! ### A valid broadcast (R365) -/

/-- The EPOCH of a broadcast is kept for the next beat; where a re-arm waits for it, that is its second step (R373). -/
def Block.takeEpoch (b : Block) (e : Nat) : Block :=
  let s := b.onBeat (fun t => { t with bcast := some e })
  if s.beat.rearm = 2 then
    let s := s.onBeat (fun t => { t with rearm := 3, rearmEpoch := e })
    if s.life == .dawn then s.setFld (rEv 0xC) 0 0 1 else s
  else s

/-- What the envelope controller remembers of a broadcast. -/
def Beat.takeEpoch (t : Beat) (e : Nat) : Beat :=
  if t.rearm = 2 then { t with bcast := some e, rearm := 3, rearmEpoch := e } else { t with bcast := some e }

/-- A broadcast changes the beat's own state, and of the registers BEATSTAT where Dawn is ready for the beat (R479). -/
theorem Block.takeEpoch_eq (b : Block) (e : Nat) : b.takeEpoch e =
    if b.beat.rearm = 2 ∧ b.life = .dawn then (b.onBeat (fun t => t.takeEpoch e)).setFld (rEv 0xC) 0 0 1
    else b.onBeat (fun t => t.takeEpoch e) := by
  by_cases waits : b.beat.rearm = 2
  · by_cases dawn : b.life = .dawn
    · simp only [Block.takeEpoch, Beat.takeEpoch, Block.onBeat, waits, dawn, beq_self_eq_true, and_self, ↓reduceIte]
    · simp only [Block.takeEpoch, Beat.takeEpoch, Block.onBeat, waits, dawn, beq_iff_eq, and_false, ↓reduceIte]
  · simp only [Block.takeEpoch, Beat.takeEpoch, Block.onBeat, waits, false_and, ↓reduceIte]

theorem Block.takeEpoch_frame (b : Block) (e : Nat) : ∃ regs,
    b.takeEpoch e = { b with regs := regs, beat := b.beat.takeEpoch e } := by
  rw [Block.takeEpoch_eq]
  split
  · exact ⟨_, rfl⟩
  · exact ⟨_, rfl⟩

theorem RegsIn.takeEpoch (b : Block) (e : Nat) : RegsIn (fun a => a = rEv 0xC) b (b.takeEpoch e) := by
  have beat : RegsIn (fun a => a = rEv 0xC) b (b.onBeat (fun t => t.takeEpoch e)) := RegsIn.of_regs rfl
  rw [Block.takeEpoch_eq]
  split
  · exact beat.trans (RegsIn.setFld rfl)
  · exact beat

theorem Beat.takeEpoch_fields (t : Beat) (e : Nat) : (t.takeEpoch e).bcast = some e ∧
    (t.takeEpoch e).rearm = (if t.rearm = 2 then 3 else t.rearm) ∧ (t.rearm = 2 → (t.takeEpoch e).rearmEpoch = e) := by
  unfold Beat.takeEpoch
  split
  · exact ⟨rfl, rfl, fun _ => rfl⟩
  · next h => exact ⟨rfl, rfl, fun h2 => absurd h2 h⟩

/-- A valid broadcast leaves the count as it is until the next beat (R361, R365). -/
theorem Block.takeEpoch_effect (b : Block) (e : Nat) : (b.takeEpoch e).beat.bcast = some e ∧
    (b.takeEpoch e).beat.rearm = (if b.beat.rearm = 2 then 3 else b.beat.rearm) ∧
    (b.beat.rearm = 2 → (b.takeEpoch e).beat.rearmEpoch = e) ∧ (b.takeEpoch e).bidx = b.bidx ∧
    (b.takeEpoch e).epoch = b.epoch ∧ (b.takeEpoch e).blus = b.blus := by
  have count : ∀ hi lo, (b.takeEpoch e).fld (rEv 0x10) hi lo = b.fld (rEv 0x10) hi lo :=
    (RegsIn.takeEpoch b e).fld (by decide)
  obtain ⟨bcast, rearm, rearmEpoch⟩ := b.beat.takeEpoch_fields e
  have beat : (b.takeEpoch e).beat = b.beat.takeEpoch e ∧ (b.takeEpoch e).blus = b.blus := by
    obtain ⟨_, h⟩ := b.takeEpoch_frame e
    rw [h]
    exact ⟨rfl, rfl⟩
  rw [beat.1]
  exact ⟨bcast, rearm, rearmEpoch, count 57 48, count 47 0, beat.2⟩

/-! ### The bytes of a status read (R366) -/

/-- Each field of R366 stands in its own bits of the number, and the reserved ones are 0. -/
theorem shelfWord_fields {x state lost trip valid env bidx pin hub : Nat} (hs : state < 2 ^ 3) (hl : lost < 2 ^ 1)
    (ht : trip < 2 ^ 1) (hv : valid < 2 ^ 1) (he : env < 2 ^ 2) (hb : bidx < 2 ^ 10) (hp : pin < 2 ^ 32)
    (hh : hub < 2 ^ 32)
    (hx : x = state + lost <<< 3 + trip <<< 4 + valid <<< 5 + env <<< 8 + bidx <<< 16 + pin <<< 32 + hub <<< 64) :
    bits x 2 0 = state ∧ bits x 3 3 = lost ∧ bits x 4 4 = trip ∧ bits x 5 5 = valid ∧ bits x 7 6 = 0 ∧ bits x 9 8 = env ∧
      bits x 15 10 = 0 ∧ bits x 25 16 = bidx ∧ bits x 31 26 = 0 ∧ bits x 63 32 = pin ∧ bits x 95 64 = hub := by
  have below4 := add_shiftLeft_lt hs hl (Nat.le_refl 4)
  have below5 := add_shiftLeft_lt below4 ht (Nat.le_refl 5)
  have below6 := add_shiftLeft_lt below5 hv (Nat.le_refl 6)
  have below8 := Nat.lt_of_lt_of_le below6 (Nat.pow_le_pow_right (by decide) (show 6 ≤ 8 by decide))
  have below10 := add_shiftLeft_lt below8 he (Nat.le_refl 10)
  have below16 := Nat.lt_of_lt_of_le below10 (Nat.pow_le_pow_right (by decide) (show 10 ≤ 16 by decide))
  have below26 := add_shiftLeft_lt below16 hb (Nat.le_refl 26)
  have below32 := Nat.lt_of_lt_of_le below26 (Nat.pow_le_pow_right (by decide) (show 26 ≤ 32 by decide))
  have below64 := add_shiftLeft_lt below32 hp (Nat.le_refl 64)
  rw [hx]
  refine ⟨?_, ?_, ?_, ?_, ?_, ?_, ?_, ?_, ?_, ?_, bits_add_shiftLeft_at below64 hh⟩
  all_goals simp only [bits_add_shiftLeft_below, Nat.reduceLT]
  · exact Nat.mod_eq_of_lt hs
  · exact bits_add_shiftLeft_at hs hl
  · exact bits_add_shiftLeft_at below4 ht
  · exact bits_add_shiftLeft_at below5 hv
  · exact bits_eq_zero below6 7
  · exact bits_add_shiftLeft_at below8 he
  · exact bits_eq_zero below10 15
  · exact bits_add_shiftLeft_at below16 hb
  · exact bits_eq_zero below26 31
  · exact bits_add_shiftLeft_at below32 hp

/-- The first twelve bytes of a status read of the block. -/
def Block.shelfWord (b : Block) : Nat :=
  b.fld (rEv 0) 2 0 + (b.fld (rEv 0) 5 5) <<< 3 + (b.fld (rEv 0xB8) 0 0) <<< 4 + (b.fld (rEv 0) 7 7) <<< 5 +
    ((if b.life == .dawn || b.life == .twilight then 3 else b.beat.env) % 4) <<< 8 + b.bidx <<< 16 +
    (b.fld (rEv 0xA0) 31 0) <<< 32 + ((b.rn (rEv 0x88) + b.rn (rEv 0x8C)) % 2 ^ 32) <<< 64

theorem Block.shelfStatus_eq (b : Block) :
    b.shelfStatus = leBytes b.shelfWord 12 ++ leBytes (crc32c (leBytes b.shelfWord 12)).toNat 4 := rfl

theorem Block.shelfStatus_length (b : Block) : b.shelfStatus.length = 16 := by
  rw [Block.shelfStatus_eq, List.length_append, leBytes_length, leBytes_length]

/-- The last four bytes are the CRC of the first twelve. -/
theorem Block.shelfStatus_crc (b : Block) : b.shelfStatus.drop 12 = leBytes (crc32c (b.shelfStatus.take 12)).toNat 4 := by
  rw [Block.shelfStatus_eq, List.drop_left' (leBytes_length ..), List.take_left' (leBytes_length ..)]

theorem Block.bits_shelfStatus (b : Block) {hi : Nat} (h : hi < 96) (lo : Nat) :
    bits (ofBytes b.shelfStatus) hi lo = bits b.shelfWord hi lo :=
  bits_ofBytes_leBytes_append h ..

/-- The effective envelope shown: 3 in Dawn and Twilight. -/
theorem Block.shownEnv_eq (b : Block) : (if b.life == .dawn || b.life == .twilight then 3 else b.beat.env) % 4 =
    if b.life = .dawn ∨ b.life = .twilight then 3 else b.beat.env % 4 := by
  simp only [Bool.or_eq_true, beq_iff_eq]
  split <;> rfl

/-- Each field of a status read is what R366 names. -/
theorem Block.shelfStatus_fields (b : Block) :
    let x := ofBytes b.shelfStatus
    bits x 2 0 = b.fld (rEv 0) 2 0 ∧ bits x 3 3 = b.fld (rEv 0) 5 5 ∧ bits x 4 4 = b.fld (rEv 0xB8) 0 0 ∧
      bits x 5 5 = b.fld (rEv 0) 7 7 ∧ bits x 7 6 = 0 ∧
      bits x 9 8 = (if b.life = .dawn ∨ b.life = .twilight then 3 else b.beat.env % 4) ∧ bits x 15 10 = 0 ∧
      bits x 25 16 = b.bidx ∧ bits x 31 26 = 0 ∧ bits x 63 32 = b.fld (rEv 0xA0) 31 0 ∧
      bits x 95 64 = (b.rn (rEv 0x88) + b.rn (rEv 0x8C)) % 2 ^ 32 := by
  intro x
  have word : ∀ hi, hi < 96 → ∀ lo, bits x hi lo = bits b.shelfWord hi lo := fun _ h lo => b.bits_shelfStatus h lo
  simp only [word 2, word 3, word 4, word 5, word 7, word 9, word 15, word 25, word 31, word 63, word 95, Nat.reduceLT,
    ← b.shownEnv_eq]
  exact shelfWord_fields (bits_lt ..) (bits_lt ..) (bits_lt ..) (bits_lt ..) (Nat.mod_lt _ (by decide)) (bits_lt ..)
    (bits_lt ..) (Nat.mod_lt _ (by decide)) rfl

/-! ### COMMIT of SCHEDCTL (R382) -/

/-- HOST_SEL as written, and the host's schedule committed for the next beat. -/
def Block.commitSched (b : Block) (host : Bool) : Block :=
  (b.setFld (rEv 0x70) 0 0 (b2n host)).onBeat (fun t => { t with commit := true })

theorem Block.writeSchedctl_commit (b : Block) (host : Bool) :
    b.writeSchedctl (b2n host + 2) = some (b.commitSched host) := by
  cases host <;> rfl

theorem Block.hostSel_commitSched (b : Block) (host : Bool) : (b.commitSched host).fld (rEv 0x70) 0 0 = b2n host := by
  have h := b.fld_setFld_same (rEv 0x70) (b2n host) (hi := 0) (lo := 0) (by decide) (by decide)
  cases host <;> exact h

theorem RegsIn.commitSched (b : Block) (host : Bool) : RegsIn (fun a => a = rEv 0x70) b (b.commitSched host) :=
  RegsIn.trans (b' := b.setFld (rEv 0x70) 0 0 (b2n host)) (RegsIn.setFld rfl) (RegsIn.of_regs rfl)

/-- The host schedule in force stays until the next beat takes the one committed. -/
theorem Block.beatHost_commitSched (b : Block) (r : Requester) (host : Bool) :
    ((b.dropHeld r).commitSched host).beat.host = b.beat.host := by
  obtain ⟨_, _, _, _, h⟩ := b.dropHeld_frame r
  rw [h]
  rfl

/-! ### What each command gives -/

section Sideband
variable {b : Block} (awake : b.awake = true)
include awake

theorem gives_scheduleFrame {bytes : List Byte} (addressed : b.i3cAddr ≠ none) : Gives (.scheduleFrame bytes) b
    (if frameOk (ofBytes bytes) bytes then b.takeFrame (ofBytes bytes) else b.badFrame) := by
  have gives : Gives (.scheduleFrame bytes) b (if !b.awake ∨ b.i3cAddr.isNone then b
      else if !(frameOk (ofBytes bytes) bytes) then b.badFrame else b.takeFrame (ofBytes bytes)) := fun _ => rfl
  cases ok : frameOk (ofBytes bytes) bytes with
  | true =>
    simpa only [awake, addressed, ok, Option.isNone_iff_eq_none, Bool.not_true, Bool.false_eq_true, or_self,
      ↓reduceIte] using gives
  | false =>
    simpa only [awake, addressed, ok, Option.isNone_iff_eq_none, Bool.not_true, Bool.not_false, Bool.false_eq_true,
      or_self, ↓reduceIte] using gives

theorem gives_epochBroadcast (bytes : List Byte) : Gives (.epochBroadcast bytes) b
    (if bytes.length = 8 ∧ bits (ofBytes bytes) 63 48 = (crc32c (bytes.take 6)).toNat % 2 ^ 16
      then b.takeEpoch (bits (ofBytes bytes) 47 0) else b.badFrame) := by
  have gives : Gives (.epochBroadcast bytes) b (if !b.awake then b
      else if bytes.length ≠ 8 ∨ bits (ofBytes bytes) 63 48 ≠ (crc32c (bytes.take 6)).toNat % 2 ^ 16 then b.badFrame
      else b.takeEpoch (bits (ofBytes bytes) 47 0)) := fun _ => rfl
  rw [if_neg (by simp only [awake, Bool.not_true, Bool.false_eq_true, not_false_eq_true])] at gives
  by_cases ok : bytes.length = 8 ∧ bits (ofBytes bytes) 63 48 = (crc32c (bytes.take 6)).toNat % 2 ^ 16
  · rw [if_pos ok]
    rwa [if_neg (fun bad => bad.elim (fun n => n ok.1) (fun n => n ok.2))] at gives
  · rw [if_neg ok]
    rwa [if_pos (Decidable.not_and_iff_or_not.1 ok)] at gives

theorem gives_privateRead (addressed : b.i3cAddr ≠ none) :
    Gives .privateRead b { b with shelfOut := b.shelfOut ++ [b.shelfStatus] } := by
  have gives : Gives .privateRead b (if !b.awake ∨ b.i3cAddr.isNone then b
      else { b with shelfOut := b.shelfOut ++ [b.shelfStatus] }) := fun _ => rfl
  simpa only [awake, addressed, Option.isNone_iff_eq_none, Bool.not_true, Bool.false_eq_true, or_self, ↓reduceIte]
    using gives

end Sideband

/-- A module with power and without an address takes the one assigned, and any other keeps what it has (R362). -/
theorem gives_entdaa (a : BitVec 7) (b : Block) : Gives (.entdaa a) b (if !b.awake ∨ b.i3cAddr.isSome then b
    else { b with i3cAddr := some a,
                  shelfOut := b.shelfOut ++ [(leBytes b.provisionalId 6).reverse ++ leBytes 0 2] }) :=
  fun _ => rfl

theorem gives_schedctlCommit {r : Requester} (host : Bool) {b : Block} (h : Accepts b r (rEv 0x70)) :
    Gives (.schedctlCommit r host) b ((b.dropHeld r).commitSched host) := by
  have gives := gives_guarded (i := .schedctlCommit r host) (v := b2n host + 2)
    (act := fun s => s.writeSchedctl (b2n host + 2)) (fun _ => rfl) h
  simpa only [Block.writeSchedctl_commit, Option.getD_some] using gives

/-- Settles O45: each command of the sideband and the COMMIT, by what it makes of the block. -/
theorem shelfAndSchedule : Obligations.ShelfAndSchedule := by
  refine ⟨fun bytes b awake addressed => ⟨fun ok => ?frame, fun bad => ?badFrame⟩,
    fun bytes b awake => ⟨fun ok => ?broadcast, fun bad => ?badBroadcast⟩, fun b awake addressed => ?read,
    fun a b awake unaddressed => ?entdaa, fun a b addressed => ?entdaaAgain, fun r host b accepts => ?commit⟩
  case frame =>
    have gives := gives_scheduleFrame awake addressed (bytes := bytes)
    rw [if_pos ok] at gives
    exact ⟨_, gives, b.pendingSched_takeFrame _, b.activeSched_takeFrame _, b.takeFrame_frame _⟩
  case badFrame =>
    have gives := gives_scheduleFrame awake addressed (bytes := bytes)
    rw [if_neg (Bool.eq_false_iff.1 bad)] at gives
    exact ⟨_, gives, b.frameErr_badFrame, b.frameErrBit_badFrame, b.pendingSched_badFrame, b.beat_badFrame⟩
  case broadcast =>
    have gives := gives_epochBroadcast awake bytes
    rw [if_pos ok] at gives
    exact ⟨_, gives, b.takeEpoch_effect _⟩
  case badBroadcast =>
    have gives := gives_epochBroadcast awake bytes
    rw [if_neg bad] at gives
    exact ⟨_, gives, b.frameErr_badFrame, b.frameErrBit_badFrame, b.beat_badFrame⟩
  case read =>
    exact ⟨_, gives_privateRead awake addressed, b.shelfStatus_length, b.shelfStatus_crc, b.shelfStatus_fields⟩
  case entdaa =>
    have gives := gives_entdaa a b
    rw [if_neg (by simp only [awake, unaddressed, Bool.not_true, Option.isSome_none, Bool.false_eq_true, or_self,
      not_false_eq_true])] at gives
    exact ⟨_, gives⟩
  case entdaaAgain =>
    have gives := gives_entdaa a b
    rwa [if_pos (.inr (Option.isSome_iff_ne_none.2 addressed))] at gives
  case commit =>
    exact ⟨_, gives_schedctlCommit host accepts, Block.hostSel_commitSched .., rfl,
      b.beatHost_commitSched r host, RegsIn.commitSched ..⟩

end Sys2Proof.Machine

/-!
The sequencer cores (16_sequencer_cores.md): how an instruction that runs completes or faults its plan (R463, R466,
R467), and PUT and SIG (R457, R458).
-/
namespace Sys2Proof.Machine

/-! ### Registers of a sequencer -/

theorem RegsIn.mono {p p' : Nat → Prop} {b b' : Block} (h : RegsIn p b b') (le : ∀ a, p a → p' a) : RegsIn p' b b' :=
  ⟨fun a ha => h.same a fun hp => ha (le a hp)⟩

/-- Two registers of one sequencer's block are the same only at the same offset. -/
@[simp] theorem rQ_eq_rQ_iff (q o o' : Nat) : rQ q o = rQ q o' ↔ o = o' := by simp [rQ]

theorem RegsIn.bump32 {p : Nat → Prop} {b : Block} {a n : Nat} (h : p a) : RegsIn p b (b.bump32 a n) := RegsIn.setRn h

theorem RegsIn.onRing {p : Nat → Prop} {b : Block} {r : Nat} {f : RingSt → RingSt} : RegsIn p b (b.onRing r f) :=
  RegsIn.of_regs rfl

/-- A 32-bit register set modulo its range reads as that. -/
theorem Block.rn_setRn_mod (b : Block) (a n : Nat) : (b.setRn a (n % 2 ^ 32)).rn a = n % 2 ^ 32 :=
  Block.rn_setRn_same _ _ (Nat.lt_trans (Nat.mod_lt _ (by decide)) (by decide))

/-- The PUTNs share no offset with the registers below and above them. -/
theorem rQ_ne_rPutn {o r : Nat} (h : o < 0x40 ∨ 0x40 + 4 * r < o) (q : Nat) : rQ q o ≠ rPutn q r := by
  rw [rPutn, ne_eq, rQ_eq_rQ_iff]
  omega

/-- The globals of a sequencer. -/
def isGlobal (q a : Nat) : Prop := ∃ g, g < 8 ∧ a = rQ q (0x20 + 4 * g)

theorem not_isGlobal {q o : Nat} (h : o < 0x20 ∨ 0x40 ≤ o) : ¬isGlobal q (rQ q o) := by
  rintro ⟨g, hg, e⟩
  rw [rQ_eq_rQ_iff] at e
  omega

theorem isGlobal.own {q a : Nat} (h : isGlobal q a) : seqOwn q a := by
  obtain ⟨g, hg, e⟩ := h
  exact .inr ⟨⟨g, hg⟩, e⟩

/-- Where the windows, the globals and FDEPTH stay, every register that a specifier names reads as before. -/
theorem RegsIn.seqReg {p : Nat → Prop} {b b' : Block} {q : Nat} (h : RegsIn p b b') (seqs : b'.seqs = b.seqs)
    (globals : ∀ a, isGlobal q a → ¬p a) (depth : ¬p (rQ q 0x10)) (n : Nat) : b'.seqReg q n = b.seqReg q n := by
  unfold Block.seqReg
  split
  · next hn => rw [h.rn (globals _ ⟨n, hn, rfl⟩)]
  · simp only [Block.winReg, Block.seq, Block.fdepth, seqs, h.fld depth]

/-- A specifier's register that is set lies in the globals or in the windows. -/
theorem RegsIn.setSeqReg (b : Block) (q n : Nat) (v : Word) : RegsIn (isGlobal q) b (b.setSeqReg q n v) := by
  unfold Block.setSeqReg
  split
  · next hn => exact RegsIn.setRn ⟨n, hn, rfl⟩
  · exact RegsIn.of_regs rfl

theorem Block.setSeqReg_frame (b : Block) (q n : Nat) (v : Word) :
    ∃ regs seqs, b.setSeqReg q n v = { b with regs := regs, seqs := seqs } := by
  unfold Block.setSeqReg
  split
  · exact ⟨_, b.seqs, rfl⟩
  · exact ⟨b.regs, _, rfl⟩

theorem Block.winReg_setWinReg (b : Block) (q d n m : Nat) (v : Word) :
    (b.setWinReg q d n v).winReg q d m = if m = n then v else b.winReg q d m := by
  have key : 16 * (d % 7) + m = 16 * (d % 7) + n ↔ m = n := by omega
  simp only [Block.winReg, Block.setWinReg, Block.seq, Block.onSeq, Tab.get_set_same, Tab.get_set, key]

/-- The register that a specifier names is the only one of those which specifiers name that setting it changes. -/
theorem Block.seqSets_setSeqReg (b : Block) (q : Nat) {n : Nat} (hn : n < 8 ∨ (16 ≤ n ∧ n < 32)) (v : Word) :
    SeqSets b (b.setSeqReg q n v) q n v := by
  unfold Block.setSeqReg
  split
  · next low =>
    refine ⟨?_, fun m hm other => ?_⟩
    · rw [Block.seqReg, if_pos low, Block.rn_setRn_same _ _ (Nat.lt_of_lt_of_le v.isLt (by decide)),
        BitVec.ofNat_toNat, BitVec.setWidth_eq]
    · have apart : 0x20 + 4 * m ≠ 0x20 + 4 * n := by omega
      have depth : (b.setRn (rQ q (0x20 + 4 * n)) v.toNat).fdepth q = b.fdepth q :=
        (RegsIn.setRn (p := fun a => a = rQ q (0x20 + 4 * n)) rfl).fld (by rw [rQ_eq_rQ_iff]; omega) ..
      unfold Block.seqReg
      rw [depth, Block.rn_setRn_other _ _ (fun e => apart ((rQ_eq_rQ_iff ..).1 e))]
      rfl
  · next high =>
    refine ⟨?_, fun m hm other => ?_⟩
    · rw [Block.seqReg, if_neg high]
      exact (Block.winReg_setWinReg ..).trans (if_pos rfl)
    · unfold Block.seqReg
      split
      · rfl
      · exact (Block.winReg_setWinReg ..).trans (if_neg (by omega))

/-- What moves nothing that a specifier names, before or after, leaves the register set. -/
theorem SeqSets.between {b b1 b2 b' : Block} {q n : Nat} {v : Word} (h : SeqSets b1 b2 q n v)
    (before : ∀ m, b1.seqReg q m = b.seqReg q m) (after : ∀ m, b'.seqReg q m = b2.seqReg q m) : SeqSets b b' q n v :=
  ⟨(after n).trans h.1, fun m hm other => (after m).trans ((h.2 m hm other).trans (before m))⟩

/-! ### An instruction that completes (R466) -/

theorem RegsIn.seqGoto (b : Block) (q pc : Nat) :
    RegsIn (fun a => a = rQ q 0x70 ∨ a = rQ q 0xC) b (b.seqGoto q pc) :=
  (RegsIn.setRn (.inl rfl)).trans (RegsIn.setRn (.inr rfl))

theorem Block.seqPc_seqNext (b : Block) (q : Nat) : (b.seqNext q).seqPc q = (b.seqPc q + 4) % 2 ^ 32 :=
  Block.rn_setRn_mod ..

/-- Counting beside WRAPPED, the 48 bits of a counter advance modulo their range (R417). -/
theorem Block.fld_bump48 (b : Block) (a n : Nat) : (b.bump48 a n).fld a 47 0 = (b.fld a 47 0 + n) % 2 ^ 48 := by
  have wide : ∀ c w : Nat, w = 0 ∨ w = 2 ^ 63 → c % 2 ^ 48 + w < 2 ^ 64 ∧ (c % 2 ^ 48 + w) % 2 ^ 48 = c % 2 ^ 48 := by
    omega
  obtain ⟨fits, low⟩ := wide (b.rn a % 2 ^ 48 + n) (if 2 ^ 48 ≤ b.rn a % 2 ^ 48 + n ∨ bit (b.rn a) 63 then 2 ^ 63 else 0)
    (by split <;> simp)
  rw [Block.bump48, Block.fld_setRn_same _ _ fits]
  exact low

/-- No register that a specifier names is PC or INSTR. -/
theorem Block.seqReg_seqNext (b : Block) (q n : Nat) : (b.seqNext q).seqReg q n = b.seqReg q n := by
  refine (RegsIn.seqGoto b q _).seqReg rfl (fun a ha h => ?_) (by simp) n
  obtain rfl | rfl := h
  · exact not_isGlobal (by decide) ha
  · exact not_isGlobal (by decide) ha

theorem Block.seqNext_completes {b : Block} {q : Nat} (running : b.planState q = 2) :
    SeqCompletes b (b.seqNext q) q ((b.seqPc q + 4) % 2 ^ 32) where
  pc := b.seqPc_seqNext q
  instr := ((RegsIn.setRn (p := fun a => a = rQ q 0xC) rfl).fld (by simp) ..).trans (b.fld_bump48 ..)
  running := ((RegsIn.seqGoto b q _).fld (by simp) ..).trans running
  registers := (RegsIn.seqGoto b q _).mono fun a ha => .inl (by
    obtain rfl | rfl := ha
    · simp
    · simp)

/-- Setting globals before it completes is part of the instruction. -/
theorem SeqCompletes.after_globals {b b1 b' : Block} {q pc : Nat} (set : RegsIn (isGlobal q) b b1)
    (h : SeqCompletes b1 b' q pc) : SeqCompletes b b' q pc where
  pc := h.pc
  instr := by rw [h.instr, set.fld (not_isGlobal (by decide))]
  running := h.running
  registers := (set.mono fun _ => isGlobal.own).trans h.registers

theorem SeqRuns.running {b : Block} {q op w : Nat} (h : SeqRuns b q op w) : b.planState q = 2 := by
  have active := h.active
  simp only [Block.seqActive, Bool.and_eq_true, beq_iff_eq] at active
  obtain ⟨⟨_, running⟩, _⟩ := active
  exact running

/-- An instruction that sets RD and moves on. -/
theorem SeqRuns.setSeqReg_seqNext {b : Block} {q op w n : Nat} (h : SeqRuns b q op w) (hn : n < 8 ∨ (16 ≤ n ∧ n < 32))
    (v : Word) : SeqOnly b ((b.setSeqReg q n v).seqNext q) ∧
      SeqCompletes b ((b.setSeqReg q n v).seqNext q) q ((b.seqPc q + 4) % 2 ^ 32) ∧
      SeqSets b ((b.setSeqReg q n v).seqNext q) q n v := by
  have set := RegsIn.setSeqReg b q n v
  have pc : (b.setSeqReg q n v).seqPc q = b.seqPc q := set.rn (not_isGlobal (by decide))
  have running : (b.setSeqReg q n v).planState q = 2 := (set.fld (not_isGlobal (by decide)) ..).trans h.running
  refine ⟨?_, pc ▸ (Block.seqNext_completes running).after_globals set,
    (b.seqSets_setSeqReg q hn v).between (fun _ => rfl) (Block.seqReg_seqNext _ q)⟩
  obtain ⟨_, _, frame⟩ := b.setSeqReg_frame q n v
  rw [frame]
  exact ⟨_, _, rfl⟩

/-! ### A plan fault (R463, R467) -/

/-- Registers that settling the rings of a plan may write: of a ring CREDIT, NEXTSEQ and its count of discarded items,
and of a sequencer its PUTN (R463). -/
def settleReg (a : Nat) : Prop := ∃ r, r < 9 ∧ (a ∈ [rRg r 0, rRg r 4, rRg r 0x18] ∨ ∃ q, a = rPutn q r)

/-- Registers that a plan's end may write beside PLSTAT: those and the event log's NEXT and LOST. -/
def endReg (a : Nat) : Prop := settleReg a ∨ a = rEl 0 ∨ a = rEl 8

/-- No end of a plan writes PLSTAT, PC or FDETAIL, which lie below the PUTNs. -/
theorem endReg_apart {q o : Nat} (hq : q < 16) (ho : o < 0x40) : ¬endReg (rQ q o) := by
  rintro (⟨r, hr, ring | ⟨q', e⟩⟩ | el)
  · simp only [List.mem_cons, List.not_mem_nil, or_false, rRg, rQ] at ring
    omega
  · simp only [rPutn, rQ] at e
    omega
  · simp only [rEl, rQ] at el
    omega

theorem Block.bump32_frame (b : Block) (a n : Nat) : ∃ regs, b.bump32 a n = { b with regs := regs } := ⟨_, rfl⟩

theorem Block.clearLines_frame (b : Block) (r w : Nat) : ∀ n, ∃ lines, b.clearLines r w n = { b with lines := lines }
  | 0 => ⟨b.lines, rfl⟩
  | n + 1 => by
    obtain ⟨_, h⟩ := b.clearLines_frame r w n
    rw [Block.clearLines, h]
    exact ⟨_, rfl⟩

theorem Block.freeLines_frame (b : Block) (r w n : Nat) :
    ∃ regs lines, b.freeLines r w n = { b with regs := regs, lines := lines } := by
  obtain ⟨_, h⟩ := b.clearLines_frame r w n
  rw [Block.freeLines, h]
  exact ⟨_, _, rfl⟩

theorem RegsIn.freeLines (b : Block) (r w n : Nat) : RegsIn (fun a => a = rRg r 0) b (b.freeLines r w n) := by
  obtain ⟨_, h⟩ := b.clearLines_frame r w n
  exact RegsIn.trans (RegsIn.of_regs (by rw [h])) (RegsIn.setRn rfl)

/-- An item in assembly is discarded: its lines return, NEXTSEQ passes it, and it is counted (R150). -/
theorem Block.discardAsm_some {b : Block} {r : Nat} {a : Assembly} (h : (b.ring r).asm = some a) : b.discardAsm r =
    (((b.freeLines r a.first a.lines.length).setRn (rRg r 4) ((a.seq.toNat + 1) % 2 ^ 32)).bump32 (rRg r 0x18) 1).onRing
      r (fun q => { q with asm := none, stale := some a.seq }) := by
  simp only [Block.discardAsm, h]

theorem Block.discardAsm_none {b : Block} {r : Nat} (h : (b.ring r).asm = none) : b.discardAsm r = b := by
  simp only [Block.discardAsm, h]

theorem Block.discardAsm_frame (b : Block) (r : Nat) :
    ∃ regs lines rings, b.discardAsm r = { b with regs := regs, lines := lines, rings := rings } := by
  cases h : (b.ring r).asm with
  | none => exact ⟨b.regs, b.lines, b.rings, Block.discardAsm_none h⟩
  | some a =>
    obtain ⟨_, lines, freed⟩ := b.freeLines_frame r a.first a.lines.length
    obtain ⟨_, counted⟩ := Block.bump32_frame
      ((b.freeLines r a.first a.lines.length).setRn (rRg r 4) ((a.seq.toNat + 1) % 2 ^ 32)) (rRg r 0x18) 1
    rw [Block.discardAsm_some h, counted, freed]
    exact ⟨_, lines, _, rfl⟩

theorem RegsIn.discardAsm (b : Block) (r : Nat) :
    RegsIn (fun a => a ∈ [rRg r 0, rRg r 4, rRg r 0x18]) b (b.discardAsm r) := by
  cases h : (b.ring r).asm with
  | none =>
    rw [Block.discardAsm_none h]
    exact RegsIn.refl
  | some a =>
    rw [Block.discardAsm_some h]
    have freed := (RegsIn.freeLines b r a.first a.lines.length).mono (p' := fun a => a ∈ [rRg r 0, rRg r 4, rRg r 0x18])
      fun _ h => h ▸ List.mem_cons_self
    refine ((freed.trans (RegsIn.setRn ?_)).trans (RegsIn.bump32 ?_)).trans RegsIn.onRing
    · exact .tail _ (.head _)
    · exact .tail _ (.tail _ (.head _))

/-- Settling a ring leaves it, or discards what is in assembly and sets a PUTN of it (R463). -/
theorem Block.settlePlanRing_cases (b : Block) (r : Nat) : b.settlePlanRing r = b ∨
    ∃ q n, b.settlePlanRing r = (b.discardAsm r).setRn (rPutn q r) n := by
  unfold Block.settlePlanRing
  extract_lets q p
  split
  · exact .inr ⟨_, _, rfl⟩
  · exact .inl rfl

theorem Block.settlePlanRing_frame (b : Block) (r : Nat) :
    ∃ regs lines rings, b.settlePlanRing r = { b with regs := regs, lines := lines, rings := rings } := by
  obtain same | ⟨q, n, settled⟩ := b.settlePlanRing_cases r
  · exact ⟨b.regs, b.lines, b.rings, same⟩
  · obtain ⟨_, _, _, h⟩ := b.discardAsm_frame r
    rw [settled, h]
    exact ⟨_, _, _, rfl⟩

theorem RegsIn.settlePlanRing (b : Block) {r : Nat} (hr : r < 9) : RegsIn settleReg b (b.settlePlanRing r) := by
  obtain same | ⟨q, n, settled⟩ := b.settlePlanRing_cases r
  · rw [same]
    exact RegsIn.refl
  · rw [settled]
    exact ((RegsIn.discardAsm b r).mono fun _ h => ⟨r, hr, .inl h⟩).trans (RegsIn.setRn ⟨r, hr, .inr ⟨q, rfl⟩⟩)

theorem Block.lt_of_mem_planRings {b : Block} {q r : Nat} (h : r ∈ b.planRings q) : r < 9 :=
  List.mem_range.1 (List.mem_filter.1 h).1

/-- The plan's state as it leaves RUNNING, with its stores landed and no WAITEV, before its rings settle. -/
def Block.ended (b : Block) (q st : Nat) : Block :=
  ((b.setPlanState q st).showStores q).onSeq q (fun x => { x with wait := none })

theorem Block.leaveRunning_eq (b : Block) (q st : Nat) : b.leaveRunning q st =
    ((b.ended q st).planRings q).foldl Block.settlePlanRing (b.ended q st) := rfl

theorem Block.seq_ended (b : Block) (q st : Nat) :
    (b.ended q st).seq q = { b.seq q with stores := [], wait := none } := by
  simp [Block.ended, Block.showStores, Block.onSeq, Block.seq, Block.setPlanState]

theorem Block.leaveRunning_frame (b : Block) (q st : Nat) : ∃ regs lines rings,
    b.leaveRunning q st = { b.ended q st with regs := regs, lines := lines, rings := rings } := by
  rw [Block.leaveRunning_eq]
  refine List.foldlRecOn (motive := fun x : Block => ∃ (regs : Tab DWord) (lines : Tab (Option HeldLine))
    (rings : Tab RingSt), x = { b.ended q st with regs := regs, lines := lines, rings := rings }) _ _
    ⟨(b.ended q st).regs, (b.ended q st).lines, (b.ended q st).rings, rfl⟩ ?_
  rintro _ ⟨_, _, _, rfl⟩ r _
  exact Block.settlePlanRing_frame ..

theorem RegsIn.leaveRunning (b : Block) (q st : Nat) : RegsIn settleReg (b.setPlanState q st) (b.leaveRunning q st) := by
  have ended : RegsIn settleReg (b.setPlanState q st) (b.ended q st) := RegsIn.of_regs rfl
  rw [Block.leaveRunning_eq]
  exact List.foldlRecOn (motive := RegsIn settleReg (b.setPlanState q st)) _ _ ended fun _ h _ hr =>
    h.trans (RegsIn.settlePlanRing _ (Block.lt_of_mem_planRings hr))

theorem Block.ended_memory (b : Block) (q st : Nat) :
    (b.ended q st).planMem = b.planMem ∧ (b.ended q st).stackMem = b.stackMem := ⟨rfl, rfl⟩

theorem RegsIn.seqEvent (b : Block) (q kind code ring sibling : Nat) :
    RegsIn (fun a => a = rEl 0 ∨ a = rEl 8) b (b.seqEvent q kind code ring sibling) :=
  RegsIn.logEvent (.inl rfl) (.inr rfl) ..

theorem Block.seqEvent_frame (b : Block) (q kind code ring sibling : Nat) : ∃ regs evlog orderEvents,
    b.seqEvent q kind code ring sibling = { b with regs := regs, evlog := evlog, orderEvents := orderEvents } :=
  b.logEvent_frame ..

/-- FCODE and FDETAIL of a plan fault. -/
def Block.noteFault (b : Block) (q code detail : Nat) : Block :=
  (b.setFld (rQ q 8) 15 8 code).setRn (rQ q 0x18) (detail % 2 ^ 32)

theorem Block.planFault_eq (b : Block) (q code detail : Nat) :
    b.planFault q code detail = ((b.noteFault q code detail).leaveRunning q 4).seqEvent q 6 code 0 0 := by
  rw [Block.planFault, Block.noteFault]

theorem RegsIn.planFault (b : Block) (q code detail : Nat) :
    RegsIn endReg ((b.noteFault q code detail).setPlanState q 4) (b.planFault q code detail) := by
  rw [Block.planFault_eq]
  exact ((RegsIn.leaveRunning ..).mono fun _ => .inl).trans ((RegsIn.seqEvent ..).mono fun _ => .inr)

theorem Block.noteFault_frame (b : Block) (q code detail : Nat) :
    ∃ regs, b.noteFault q code detail = { b with regs := regs } := ⟨_, rfl⟩

/-- A plan fault leaves the memories, and in what the sequencer holds it ends the stores and the WAITEV alone. -/
theorem Block.planFault_memory (b : Block) (q code detail : Nat) :
    (b.planFault q code detail).seq q = { b.seq q with stores := [], wait := none } ∧
    (b.planFault q code detail).planMem = b.planMem ∧ (b.planFault q code detail).stackMem = b.stackMem := by
  obtain ⟨_, noted⟩ := b.noteFault_frame q code detail
  obtain ⟨_, _, _, left⟩ := (b.noteFault q code detail).leaveRunning_frame q 4
  obtain ⟨_, _, _, event⟩ := ((b.noteFault q code detail).leaveRunning q 4).seqEvent_frame q 6 code 0 0
  rw [Block.planFault_eq, event, left, noted]
  exact ⟨Block.seq_ended _ q 4, Block.ended_memory _ q 4⟩

/-- FCODE, FDETAIL and PC beside the state of a plan that has faulted. -/
theorem Block.noteFault_fields (b : Block) (q code detail : Nat) :
    (b.noteFault q code detail).fld (rQ q 8) 15 8 = code % 256 ∧
    (b.noteFault q code detail).rn (rQ q 0x18) = detail % 2 ^ 32 ∧ (b.noteFault q code detail).seqPc q = b.seqPc q := by
  refine ⟨?_, Block.rn_setRn_mod .., ?_⟩
  · exact ((RegsIn.setRn (p := fun a => a = rQ q 0x18) rfl).fld (by simp) ..).trans
      (Block.fld_setFld_same _ _ _ (by decide) (by decide))
  · exact (Block.rn_setRn_other _ _ (by simp)).trans (Block.rn_setRn_other _ _ (by simp))

theorem Block.planFault_faults (b : Block) {q code : Nat} (hq : q < 16) (hc : code < 256) (detail : Nat) :
    PlanFaults b (b.planFault q code detail) q code detail := by
  have fault := RegsIn.planFault b q code detail
  have state : RegsIn (fun a => a = rQ q 8) _ ((b.noteFault q code detail).setPlanState q 4) := RegsIn.setFld rfl
  obtain ⟨fcode, fdetail, pc⟩ := b.noteFault_fields q code detail
  obtain ⟨seq, planMem, stackMem⟩ := b.planFault_memory q code detail
  refine ⟨?_, ?_, ?_, ?_, by rw [seq], by rw [seq], planMem, stackMem⟩
  · rw [Block.planState, fault.fld (endReg_apart hq (by decide))]
    exact Block.fld_setFld_same _ _ _ (by decide) (by decide)
  · rw [fault.fld (endReg_apart hq (by decide)), Block.setPlanState,
      Block.fld_setFld_apart _ _ (by decide) (by decide) (.inr (by decide)), fcode, Nat.mod_eq_of_lt hc]
  · rw [fault.rn (endReg_apart hq (by decide)), state.rn (by simp), fdetail]
  · rw [Block.seqPc, fault.rn (endReg_apart hq (by decide)), state.rn (by simp)]
    exact pc

/-! ### The word at PC -/

/-- The command of the instruction at PC does what that instruction makes of the block. -/
theorem gives_seqIssue {i : Instr} {b : Block} {q op w : Nat} {act : Block → Nat → Block}
    (hi : ∀ s, exec i s = s.act fun s => .next (s.seqIssue q op act)) (h : SeqRuns b q op w)
    (defined : opDefined op = true) (noTret : op ≠ 0x47) : Gives i b (act b w) := by
  have issue : b.seqIssue q op act = act b w := by
    simp [Block.seqIssue, h.active, h.noWait, h.noTrap, h.word, h.opcode, h.formed, defined, noTret]
  intro pending
  rw [hi, State.act, issue]

/-- RD of a well-formed PUT names a global or a window register (R450). -/
theorem SeqRuns.put_rd {b : Block} {q w : Nat} (h : SeqRuns b q 0x40 w) : wRd w < 8 ∨ (16 ≤ wRd w ∧ wRd w < 32) := by
  have formed := h.formed
  simp only [wordReserved, h.opcode, Nat.reduceLeDiff, true_or, or_true, ↓reduceIte, Bool.or_eq_false_iff] at formed
  obtain ⟨⟨⟨named, _⟩, _⟩, _⟩ := formed
  have width : wRd w < 2 ^ 5 := bits_lt w 12 8
  simp only [noSpec, Bool.and_eq_false_iff, decide_eq_false_iff_not] at named
  omega

/-! ### PUT (R457) -/

theorem lineKey_inj {m n p k : Nat} (hp : p < 8192) (hk : k < 8192) : lineKey m p = lineKey n k ↔ m = n ∧ p = k := by
  simp only [lineKey]
  omega

theorem Block.lineAt_setLine (b : Block) {m n p k : Nat} (hp : p < 8192) (hk : k < 8192) (l : Option HeldLine) :
    (b.setLine n k l).lineAt m p = if m = n ∧ p = k then l else b.lineAt m p := by
  simp only [Block.lineAt, Block.setLine, Tab.get_set, lineKey_inj hp hk]

/-- A line at the place of PUTN, and PUTN on the next. -/
def Block.putAt (b : Block) (q n : Nat) (bs : List Byte) : Block :=
  ({ b with stamp := b.stamp + 1 }.setLine n (b.rn (rPutn q n) % 8192) (some ⟨putLine bs, b.stamp⟩)).setRn (rPutn q n)
    ((b.rn (rPutn q n) + 1) % 2 ^ 32)

theorem Block.putRing_noCredit {b : Block} {q n : Nat} (h : 8192 ≤ sub32 (b.rn (rPutn q n)) (b.rn (rRg n 0))) (rd : Nat)
    (bs : List Byte) : b.putRing q n rd bs = (b.setSeqReg q rd 0#32).seqNext q := by
  simp only [Block.putRing, if_pos h]

theorem Block.putRing_credit {b : Block} {q n : Nat} (h : sub32 (b.rn (rPutn q n)) (b.rn (rRg n 0)) < 8192)
    (service : b.life = .service) (rd : Nat) (bs : List Byte) :
    b.putRing q n rd bs = ((b.putAt q n bs).setSeqReg q rd 1#32).seqNext q := by
  have awake : (b.life == Life.twilight) = false := by rw [service]; rfl
  simp only [Block.putRing, if_neg (Nat.not_le.2 h), Block.nextStamp, awake, Bool.false_eq_true, ↓reduceIte, Block.putAt]

/-- The line stands at its place and every other as before. -/
theorem Block.lineAt_putAt (b : Block) (q n : Nat) (bs : List Byte) {m p : Nat} (hp : p < 8192) :
    (b.putAt q n bs).lineAt m p =
      if m = n ∧ p = b.rn (rPutn q n) % 8192 then some ⟨putLine bs, b.stamp⟩ else b.lineAt m p :=
  Block.lineAt_setLine { b with stamp := b.stamp + 1 } (m := m) (n := n) hp
    (Nat.mod_lt (b.rn (rPutn q n)) (by decide)) (some ⟨putLine bs, b.stamp⟩)

theorem RegsIn.putAt (b : Block) (q n : Nat) (bs : List Byte) : RegsIn (fun a => a = rPutn q n) b (b.putAt q n bs) :=
  RegsIn.trans (b' := { b with stamp := b.stamp + 1 }.setLine n _ (some ⟨putLine bs, b.stamp⟩)) (RegsIn.of_regs rfl)
    (RegsIn.setRn (p := fun a => a = rPutn q n) rfl)

/-- PUTN is no register that a specifier names. -/
theorem Block.seqReg_putAt (b : Block) (q n : Nat) (bs : List Byte) (m : Nat) :
    (b.putAt q n bs).seqReg q m = b.seqReg q m := by
  refine (RegsIn.putAt b q n bs).seqReg rfl (fun a ha e => ?_) (rQ_ne_rPutn (by omega) q) m
  subst e
  exact not_isGlobal (by omega) ha

/-- A PUT that writes its line: PUTN, the line, RD and PC (R457). -/
theorem Block.put_line (b : Block) (q : Nat) {n rd : Nat} (hn : n < 9) (hrd : rd < 8 ∨ (16 ≤ rd ∧ rd < 32))
    (bs : List Byte) :
    let b' := ((b.putAt q n bs).setSeqReg q rd 1#32).seqNext q
    b'.seqPc q = (b.seqPc q + 4) % 2 ^ 32 ∧ SeqSets b b' q rd 1#32 ∧
      b'.rn (rPutn q n) = (b.rn (rPutn q n) + 1) % 2 ^ 32 ∧
      (∀ m p, m < 9 → p < 8192 → b'.lineAt m p =
        if m = n ∧ p = b.rn (rPutn q n) % 8192 then some ⟨putLine bs, b.stamp⟩ else b.lineAt m p) ∧
      b'.stackMem = b.stackMem ∧ b'.ledger = b.ledger := by
  intro b'
  have set := RegsIn.setSeqReg (b.putAt q n bs) q rd 1#32
  have putn : b'.rn (rPutn q n) = (b.putAt q n bs).rn (rPutn q n) :=
    ((RegsIn.seqGoto ..).rn fun written => written.elim (rQ_ne_rPutn (by omega) q).symm
      (rQ_ne_rPutn (by omega) q).symm).trans
      (set.rn (not_isGlobal (by omega)))
  have memory : b'.lines = (b.putAt q n bs).lines ∧ b'.stackMem = b.stackMem ∧ b'.ledger = b.ledger := by
    obtain ⟨_, _, frame⟩ := (b.putAt q n bs).setSeqReg_frame q rd 1#32
    have moved : b' = Block.seqNext _ q := congrArg (Block.seqNext · q) frame
    rw [moved]
    exact ⟨rfl, rfl, rfl⟩
  obtain ⟨lines, stackMem, ledger⟩ := memory
  refine ⟨?_, ?_, putn.trans (Block.rn_setRn_mod ..), ?_,
    stackMem, ledger⟩
  · rw [Block.seqPc_seqNext, Block.seqPc, set.rn (not_isGlobal (by decide)),
      (RegsIn.putAt b q n bs).rn (rQ_ne_rPutn (by omega) q), Block.seqPc]
  · exact ((b.putAt q n bs).seqSets_setSeqReg q hrd _).between (b.seqReg_putAt q n bs) (Block.seqReg_seqNext _ q)
  · intro m p _ hp
    rw [Block.lineAt, lines]
    exact b.lineAt_putAt q n bs hp

/-- PUT checks its ring and its address, which must lie in the stack (log entry 100), and then writes where there is
credit. No word of an error stands in what it reads (R406). -/
theorem gives_seqPut {q : SeqId} {w n a : Nat} {b : Block} (h : SeqRuns b q 0x40 w) (clean : b.sramBad = [])
    (hn : (b.seqReg q (wRa w)).toNat = n) (ha : (b.seqReg q (wRb w)).toNat = a) : Gives (.seqPut q) b
      (if n ∉ b.planRings q then b.planFault q 0xC5 1
      else if ¬(a % 64 = 0 ∧ 0x10000 ≤ a ∧ a < 0x20000) then b.planFault q 0xC5 2
      else b.putRing q n (wRd w) (readBytes b.stackMem (65536 * q + (a - 0x10000)) 64)) := by
  have gives := gives_seqIssue (i := .seqPut q) (fun _ => rfl) h rfl (by decide)
  have read : b.sramRead 6 q (a - 0x10000) 64 = (b, none) := sramRead_clean (by simp [clean])
  have ring : ((b.planRings q).contains n = false) = (n ∉ b.planRings q) := by simp
  have address : (a % 64 ≠ 0 ∨ a < 0x10000 ∨ 0x20000 ≤ a) = ¬(a % 64 = 0 ∧ 0x10000 ≤ a ∧ a < 0x20000) := by
    rw [eq_iff_iff]
    omega
  simpa only [hn, ha, read, ring, address] using gives

/-! ### SIG (R458) -/

theorem gives_seqSig {q : SeqId} {w n m : Nat} {b : Block} (h : SeqRuns b q 0x41 w)
    (hn : (b.seqReg q (wRa w)).toNat = n) (hm : (b.seqReg q (wRb w)).toNat = m) :
    Gives (.seqSig q) b (if m = 0 ∨ 65535 < m ∨ 8192 ≤ n then b.planFault q 0xC5 3
      else (b.signalLogged (reqSource (.seq q)) (b.foreignReq (.seq q) n) 0 n m).seqNext q) := by
  have gives := gives_seqIssue (i := .seqSig q) (fun _ => rfl) h rfl (by decide)
  simpa only [hn, hm] using gives

/-- Settles O59: PUT by its ring, its address and its credit, and SIG by its amount and its counter. -/
theorem seqPutAndSig : Obligations.SeqPutAndSig := by
  refine ⟨fun q w b h clean => ?put, fun q w b h => ?sig⟩
  case put =>
    intro n a k ok
    have gives := gives_seqPut h clean (n := n) (a := a) rfl rfl
    refine ⟨fun foreign => ?ring, fun mine bad => ?address, fun mine good full => ?full,
      fun mine good credit service => ?line⟩
    case ring =>
      rw [if_pos foreign] at gives
      exact ⟨_, gives, b.planFault_faults q.isLt (by decide) 1⟩
    case address =>
      rw [if_neg (fun foreign => foreign mine), if_pos bad] at gives
      exact ⟨_, gives, b.planFault_faults q.isLt (by decide) 2⟩
    case full =>
      rw [if_neg (fun foreign => foreign mine), if_neg (fun bad => bad good), Block.putRing_noCredit full] at gives
      exact ⟨_, gives, h.setSeqReg_seqNext h.put_rd 0#32⟩
    case line =>
      rw [if_neg (fun foreign => foreign mine), if_neg (fun bad => bad good), Block.putRing_credit credit service] at gives
      exact ⟨_, b.stamp, gives, b.put_line q (Block.lt_of_mem_planRings mine) h.put_rd _⟩
  case sig =>
    intro n m
    have gives := gives_seqSig h (n := n) (m := m) rfl rfl
    refine ⟨fun bad => ?operand, fun positive small counter => ?signal⟩
    case operand =>
      rw [if_pos bad] at gives
      exact ⟨_, gives, b.planFault_faults q.isLt (by decide) 3⟩
    case signal =>
      rwa [if_neg (by omega)] at gives

end Sys2Proof.Machine
